-- ==== Sys2Proof/Word.lean ====
section
/-! DEFINITION. The words that cross the part's boundary. -/

namespace Sys2Proof

/-- One byte of a management frame, of the camera status line or of a bus lane. -/
abbrev Byte := BitVec 8

/-- One 32-bit bus word. -/
abbrev Word := BitVec 32

/-- A set of the sixteen axes, bit i for axis i (R202). -/
abbrev AxisSet := BitVec 16

end Sys2Proof
end

