-- ==== Sys2Proof/Syntax.lean ====
section
/-! DEFINITION. The commands and events of the part, one constructor per row of spec/opcode_table.json. -/

namespace Sys2Proof

/-- The orders the spec leaves open at one boundary. `declarationFirst`: a camera declaration made at the boundary reaches
the pass controller before the boundary does (R56, R59, R64, R79). `captureFirst`: the captures of the boundary's own
advance reach the pass controller before the boundary does (R67, R89, R90). `witnessLate`, `controllerLate`: the witness
unit, or the pass controller, takes the boundary after other events of the same instant (R175, R176, R183).
`reportsLate`: the drain report the boundary causes arrives after other events of the same instant (R94). -/
structure BoundaryOrder where
  declarationFirst : Bool
  captureFirst : Bool
  witnessLate : Bool
  controllerLate : Bool
  reportsLate : Bool
  deriving DecidableEq, Repr

/-- When an interpolation or a bus transaction ends: after so many counts; `late`: a report it causes to the pass controller
arrives after other events of the same instant (R94, R183); `slotLate`: the arbiter decides about the free port later in the
same instant, with every request that has appeared by then (R144). -/
structure Completion where
  after : Nat
  late : Bool
  slotLate : Bool
  deriving DecidableEq, Repr

/-- When the motion processor presents a transaction: after so many counts; `slotLate` as for a completion (R131, R144). -/
structure Presentation where
  after : Nat
  slotLate : Bool
  deriving DecidableEq, Repr

/-- A fall of the management select line; `early`: the bytes of the request that are complete before other events, each with
the counts since the one before it (R189). The command's own row brings the request's remaining bytes. -/
structure FrameOpening where
  after : Nat
  early : List (Nat × Byte)
  deriving DecidableEq, Repr

/-- Power-on; both supplies are within their ratings after `settling` counts (R198, R206). -/
structure PowerUp where
  after : Nat
  settling : Nat
  deriving DecidableEq, Repr

/-- A command or event. `after` is the number of reference counts that pass before a pin or bus event; management
commands come at the instant their last argument byte is complete, with their argument fields at the widths of their
rules (codes are kept as bytes, since a wrong code is an answer and not an ill-formed command). -/
inductive Instr where
  /-- A rising edge of the frame sync line (R1). -/
  | syncPulse (after : Nat) (order : BoundaryOrder)
  /-- The flywheel count reaches N_NOM (R11). -/
  | flywheelBoundary (order : BoundaryOrder)
  /-- N_NOM + W counts have passed in LOCKED without a regular pulse (R6). -/
  | substitutedBoundary (order : BoundaryOrder)
  /-- W counts have passed after a flywheel boundary of HOLDOVER without a regular pulse near it (R9). -/
  | holdoverRunReset
  /-- The position reaches the next sample point within a frame (R17). -/
  | samplePoint
  /-- A character of the camera status line ends: its data bits, its parity bit, its stop bit (R74). -/
  | statusCharacter (after : Nat) (data : Byte) (parity stop : Bool)
  /-- The motion processor presents a transaction; the word address is bits 23 to 2 (R131). -/
  | upstreamTransactionTaken (presented : Presentation) (write : Bool) (address : BitVec 22) (lanes : BitVec 4) (data : Word)
  /-- The interpolation in flight finishes (R127). -/
  | interpolationEnd (completion : Completion)
  /-- Sample memory asserts ready, with the data of a read (R132). -/
  | downstreamComplete (completion : Completion) (data : Word)
  /-- The management select line falls (R188). -/
  | selectFall (opening : FrameOpening)
  /-- The management select line rises, after `clocked` whole bytes since the last step (R188, R190). -/
  | selectRise (after : Nat) (clocked : Nat)
  /-- Power-on (R198, R206). -/
  | powerOn (up : PowerUp)
  /-- An assertion of the reset pin that is taken (R198, R206). -/
  | resetPin (after : Nat)
  /-- The span of the reset in force ends (R198, R206). -/
  | resetEnd
  | readStatus
  | readEvents
  | clearEvents (named : BitVec 16)
  | setEnable (mask : BitVec 16)
  | resetPart
  | setTimebase (nNom : BitVec 32) (window holdoverLimit : Byte)
  | readTimebase
  | setRegion (base : Byte) (size : BitVec 16)
  | readRegion
  | declare (take : Byte) (base lines : BitVec 24) (k : Byte) (tracks : AxisSet)
  | delete (take : Byte)
  | protect (take : Byte)
  | unprotect (take : Byte)
  | aliasTake (take parent : Byte) (offset length : BitVec 24)
  | readTake (take : Byte)
  | recordArm (take : Byte) (base maxLines : BitVec 24) (k : Byte) (tracks : AxisSet)
      (trigger requireLock preroll : Byte) (pace length : BitVec 16)
  | replayArm (take : Byte) (startFrame pace : BitVec 16) (interp trigger requireLock preroll resumePreroll policy : Byte)
  | witnessArm (take : Byte) (startFrame pace : BitVec 16) (interp trigger requireLock preroll resumePreroll policy : Byte)
  | stop
  | park
  | resume
  | abort
  | clear
  | passReset
  | readPass
  | setCamera (rule : Byte)
  | readCamera
  | readRecord
  | readLineQueue
  | readQueuedLine (index : BitVec 24)
  | readEvaluation
  | readPath
  | setAxis (axis enabled : Byte) (target : BitVec 24) (feedbackPresent : Byte) (feedback min max step : BitVec 24)
      (tol : BitVec 16) (source : Byte) (scale : BitVec 16) (offset : BitVec 24)
  | getAxis (axis : Byte)
  | readAxis (axis : Byte)
  | clearAxisFlags (axes : AxisSet)
  | inject (axis action : Byte) (offset : BitVec 32)
  | readDeviation
  | readWitness (axis : Byte)
  /-- A taken frame whose code names no command, or whose argument count is not the command's (R191). -/
  | unknownOrLength (code : Byte) (args : List Byte)
  /-- A falling edge of the camera status line; `low` is the level at the middle of the start bit (R74). -/
  | statusStartEdge (after : Nat) (low : Bool)
  /-- The camera status line returns high (R75). -/
  | statusLineReturnHigh (after : Nat)
  /-- The reset pin rises (R206). -/
  | resetPinRelease (after : Nat)
  deriving DecidableEq, Repr

end Sys2Proof
end

