-- ==== Sys2Proof/Config.lean ====
section
/-! DEFINITION. What the part fixes once, and the free values the spec leaves open. -/

namespace Sys2Proof.Config

/-- Where a 32-bit count stops (R1, R11, R19, R72). -/
def countLimit : Nat := 4294967295

/-- One past the greatest timeline position: 65536 frames (R15, R16). -/
def timelineLimit : Nat := 4294967296

/-- Reference counts of 20 µs at 50 MHz: the span of a pin reset after release and of a RESET PART reset (R206). -/
def resetSpan : Nat := 1000

/-- Reference counts of 2 ms at 50 MHz: the settling of the supplies after power-on (R206). -/
def powerSpan : Nat := 100000

/-- The family code and the revision READ STATUS reports (R197). -/
def family : Nat := 0x1610
def revision : Nat := 2

/-- Capacities: record queue (R88), line queue (R99), deviation log (R178), comparison history (R181), qualification
history (R7). -/
def recordQueueDepth : Nat := 16
def lineQueueDepth : Nat := 32
def deviationLogDepth : Nat := 64
def comparisonDepth : Nat := 16
def qualificationDepth : Nat := 8

/-- The greatest magnitude of a comparison or of an inject offset (R170, R172). -/
def comparisonLimit : Int := 16777215

/-- FREE VALUE (log entry 1). At the n-th open order the part meets by itself: does the camera's declaration reach the
pass controller before the boundary (R79)? -/
opaque declarationFirst : Nat → Bool

/-- FREE VALUE (log entry 1). At the n-th open order the part meets by itself: does the capture reach the pass controller
before the boundary (R67)? -/
opaque captureFirst : Nat → Bool

/-- FREE VALUE (log entry 1). At the n-th open order the part meets by itself: is a sample point that falls on the very
count of a boundary raised before the boundary is made? -/
opaque pointFirst : Nat → Bool

/-- FREE VALUES (log entry 1). At the n-th open order the part meets by itself: does the witness unit, does the pass
controller, does a drain report come after the rest of the boundary (R94, R175, R176, R183)? -/
opaque witnessLate : Nat → Bool
opaque controllerLate : Nat → Bool
opaque reportsLate : Nat → Bool

/-- The enumerators that stand in results and whose code R202 does not list. -/
inductive UnlistedCode
  | markGood | markBad
  | kindPulse | kindSubstituted | kindFlywheel
  | recordingClosed | recordingOpen
  | lineUsable | lineUnusable | lineInAssembly | lineAbsent
  | readAtPosition | readAtFrozen | readAtLastLine
  | outcomeValue | outcomeHold | outcomeUnavailable
  | directionRead | directionWrite
  | classTarget | classFeedback | classRegion | classPlain
  | phaseAtAxis | phaseWaiting | phaseDownstream
  | ownerPassThrough | ownerTakeEngine
  | copyActive | copyPending
  | unchecked | conforming | diverged
  deriving DecidableEq, Repr

/-- FREE VALUE (log entry 2). The byte by which a result shows an enumerator whose code the spec does not state. -/
opaque codeOf : UnlistedCode → Byte

end Sys2Proof.Config
end

