-- ==== Sys2Proof/Machine/State.lean ====
section
/-! DEFINITION. Every piece of state the spec gives the part, as plain data, and the state after a power-on reset.
Counts, indices and addresses are natural numbers whose ranges INVENTORY.md lists; sample values are integers; what
software sees as one word (flags, masks, axis sets, bus words, the camera word) is a bit vector. -/

namespace Sys2Proof.Machine

/-- A good or bad mark: of the qualification history (R7) or of a comparison history (R181). -/
inductive Mark
  | good | bad
  deriving DecidableEq, Repr

/-! ### Timebase (chapter 1) -/

inductive LockState
  | free | acquire | locked | holdover
  deriving DecidableEq, Repr

inductive BoundaryKind
  | pulse | substituted | flywheel
  deriving DecidableEq, Repr

/-- N_NOM, WINDOW and HOLDOVER_LIMIT (R21). -/
structure TimebaseSettings where
  nNom : Nat
  window : Nat
  holdoverLimit : Nat
  deriving DecidableEq, Repr

/-- The boundary record (R12). -/
structure BoundaryRecord where
  time : Nat
  kind : BoundaryKind
  period : Nat
  lock : LockState
  deriving DecidableEq, Repr

structure Timebase where
  active : TimebaseSettings
  pending : Option TimebaseSettings
  lock : LockState
  run : Nat
  lockPending : Bool
  history : List Mark
  holdoverCount : Nat
  /-- counts since the previous non-runt pulse (R1) -/
  interval : Option Nat
  /-- e, the counts since the last boundary (R11) -/
  flywheel : Nat
  /-- the last boundary was a flywheel boundary made in HOLDOVER and its W counts are still running (R9) -/
  watching : Bool
  /-- a regular pulse fell within W of that boundary, before or after it (R9) -/
  pulseNear : Bool
  /-- a regular pulse of HOLDOVER fell within W before the flywheel's coming boundary (R9) -/
  pulseBefore : Bool
  record : Option BoundaryRecord
  refTime : Nat
  /-- S, the position at the last boundary, and the frozen position outside RUNNING (R14) -/
  position : Option Nat
  /-- j, the next sample point (R17) -/
  nextPoint : Nat
  passPulses : Nat
  advances : Nat
  frameOffset : Int
  slips : Nat
  deriving DecidableEq, Repr

/-! ### Take directory (chapter 2) -/

/-- The states of an entry that is not FREE (R29). -/
inductive TakeState
  | recording | verifying | ready | rejected
  deriving DecidableEq, Repr

/-- KIND with the fields each kind has of its own: BASE and PROTECTED, or PARENT and OFFSET (R29). -/
inductive TakeKind
  | storage (base : Nat) (guarded : Bool)
  | aliasOf (parent offset : Nat)
  deriving DecidableEq, Repr

/-- RECORD_INFO (R37). -/
structure RecordInfo where
  nom : Nat
  pace : Nat
  mark : Nat
  clamps : Nat
  deriving DecidableEq, Repr

/-- A directory entry that is not FREE (R29), with the count of lines written of a RECORDING entry (R36). -/
structure TakeEntry where
  state : TakeState
  kind : TakeKind
  lines : Nat
  k : Nat
  tracks : AxisSet
  truncated : Bool
  recordInfo : Option RecordInfo
  passCount : Nat
  failLine : Option Nat
  written : Nat
  deriving DecidableEq, Repr

structure Directory where
  /-- base and size of the take region in units of 64 KB; size 0 is no region (R26) -/
  regionBase : Nat
  regionSize : Nat
  /-- takes 1 to 32 in order; none is FREE -/
  entries : List (Option TakeEntry)
  verifyOrder : List Nat
  verifyCursor : Option Nat
  deriving DecidableEq, Repr

/-! ### Pass controller (chapter 3) -/

inductive PassState
  | idle | armed | preroll | running | parked | ending | complete
  deriving DecidableEq, Repr

inductive PassMode
  | record | replay | witness
  deriving DecidableEq, Repr

inductive Interp
  | step | linear | cubic
  deriving DecidableEq, Repr

inductive Trigger
  | immediate | camera
  deriving DecidableEq, Repr

inductive Policy
  | continue | park | stop
  deriving DecidableEq, Repr

inductive PassOutcome
  | takeEnd | stopped | cut | full | overrun | divergedStop | aborted
  deriving DecidableEq, Repr

inductive Request
  | stop | park | cut | divergedStop | resume
  deriving DecidableEq, Repr

inductive Origin
  | first | resume
  deriving DecidableEq, Repr

/-- The pass context (R49). LENGTH, MAX_LINES and BASE are absent in a REPLAY or WITNESS pass, INTERP and POLICY in a RECORD
pass. -/
structure PassContext where
  mode : PassMode
  take : Nat
  startFrame : Nat
  pace : Nat
  interp : Option Interp
  trigger : Trigger
  requireLock : Bool
  preroll : Nat
  resumePreroll : Nat
  policy : Option Policy
  length : Option Nat
  maxLines : Option Nat
  k : Nat
  tracks : AxisSet
  base : Option Nat
  deriving DecidableEq, Repr

/-- The pass summary (R72). -/
structure Summary where
  mode : PassMode
  take : Nat
  startFrame : Nat
  outcome : Option PassOutcome
  frames : Nat
  frameOffset : Int
  slips : Nat
  clamps : Nat
  saturates : Nat
  starves : Nat
  tagFails : Nat
  records : Nat
  lost : Nat
  mark : Option Nat
  syncLost : Bool
  deriving DecidableEq, Repr

/-- The pre-roll count and origin, present in PREROLL (R57). -/
structure Preroll where
  count : Nat
  origin : Origin
  deriving DecidableEq, Repr

structure Pass where
  state : PassState
  context : Option PassContext
  pending : Option Request
  preroll : Option Preroll
  hasRun : Bool
  summary : Option Summary
  deriving DecidableEq, Repr

/-! ### Camera status receiver (chapter 4) -/

/-- Hunting for a start bit; receiving, `elapsed` counts after the start edge; waiting for the line to return high after
a stop bit sampled low (R74, R75). -/
inductive LineReceiver
  | hunting
  | receiving (elapsed : Nat)
  | waitingHigh
  deriving DecidableEq, Repr

inductive CameraRule
  | fourOfFive | eightOfTen
  deriving DecidableEq, Repr

structure Camera where
  receiver : LineReceiver
  held : Option Byte
  ring : List (Option Byte)
  rule : CameraRule
  declared : Byte
  wordCount : Nat
  errorCount : Nat
  deriving DecidableEq, Repr

/-! ### Take engine: recording (chapter 5) -/

/-- The marks of a captured line (R85). -/
structure LineFlags where
  unset : Bool
  clamped : Bool
  saturated : Bool
  coincident : Bool
  deriving DecidableEq, Repr

structure RecordLine where
  index : Nat
  samples : List Int
  flags : LineFlags
  deriving DecidableEq, Repr

/-- The word the writer writes next of the oldest line (1 to n a sample, 0 the tag), and whether its write is in
flight (R92). -/
structure WriterPosition where
  word : Nat
  inFlight : Bool
  deriving DecidableEq, Repr

structure Recording where
  isOpen : Bool
  queue : List RecordLine
  writer : Option WriterPosition
  highWater : Nat
  deriving DecidableEq, Repr

/-! ### Take engine: line queue (chapter 6) -/

/-- The pass geometry (R100). -/
structure Geometry where
  take : Nat
  lines : Nat
  root : Nat
  base : Nat
  trackCount : Nat
  offset : Nat
  deriving DecidableEq, Repr

structure QueuedLine where
  index : Nat
  words : List Word
  usable : Bool
  deriving DecidableEq, Repr

/-- The line in assembly: the words read so far, tag first (R101). -/
structure Assembly where
  index : Nat
  words : List Word
  inFlight : Bool
  deriving DecidableEq, Repr

structure LineQueue where
  geometry : Option Geometry
  lines : List QueuedLine
  assembly : Option Assembly
  nextFetch : Option Nat
  currentLine : Option Nat
  deriving DecidableEq, Repr

/-! ### Interpolator (chapter 7) -/

/-- Where the take is read (R118, R130). -/
inductive ReadAt
  | position (p : Nat)
  | frozen (p : Nat)
  | lastLine
  deriving DecidableEq, Repr

/-- One of the four slots as captured: the clamped line index and the copy of that line, if it was queued (R117). -/
structure SlotInput where
  index : Nat
  line : Option QueuedLine
  deriving DecidableEq, Repr

/-- The captured inputs of the interpolation in flight (R117); `phase` is u, `place` the track place from 1. -/
structure InterpRequest where
  axis : Nat
  mode : PassMode
  interp : Interp
  readAt : ReadAt
  sIndex : Nat
  phase : Nat
  slots : List SlotInput
  scale : Int
  offset : Int
  place : Nat
  deriving DecidableEq, Repr

inductive InterpOutcome
  | value (r : Int)
  | hold (r : Int)
  | unavailable
  deriving DecidableEq, Repr

/-- One slot of the last evaluation record; `used` is the number, −1 to 2, of the slot whose sample it used. -/
structure SlotRecord where
  index : Nat
  good : Bool
  used : Option Int
  deriving DecidableEq, Repr

/-- The last evaluation record (R130). -/
structure EvalRecord where
  axis : Nat
  mode : PassMode
  interp : Interp
  readAt : ReadAt
  sIndex : Nat
  phase : Nat
  slots : List SlotRecord
  outcome : InterpOutcome
  saturated : Bool
  deriving DecidableEq, Repr

structure Interpolator where
  inFlight : Option InterpRequest
  lastEval : Option EvalRecord
  deriving DecidableEq, Repr

/-! ### Memory path (chapter 8) -/

inductive TxnClass
  | target | feedback | region | plain
  deriving DecidableEq, Repr

inductive TxnPhase
  | atAxis | waiting | downstream
  deriving DecidableEq, Repr

/-- The upstream transaction record (R131). `throughReset`: a hardware reset began while it was downstream, so its
completion is handed to no block (R148). -/
structure UpstreamTxn where
  address : Nat
  write : Bool
  lanes : BitVec 4
  data : Word
  cls : TxnClass
  axis : Option Nat
  forwardData : Option Word
  phase : TxnPhase
  throughReset : Bool
  deriving DecidableEq, Repr

/-- The owner of a downstream transaction; the take engine's by its activity (R132). -/
inductive DownstreamOwner
  | passThrough | recordWrite | fetchRead | verifyRead
  deriving DecidableEq, Repr

/-- The transaction in flight on the downstream port. `discard`: the take engine drops its result (R42, R95, R106, R114);
`notice`: a coherence notice is sent when it completes (R140, R143). -/
structure DownstreamTxn where
  owner : DownstreamOwner
  address : Nat
  write : Bool
  lanes : BitVec 4
  data : Word
  discard : Bool
  notice : Bool
  deriving DecidableEq, Repr

structure MemoryPath where
  upstream : Option UpstreamTxn
  downstream : Option DownstreamTxn
  urgentRun : Nat
  blockedAddress : Option Nat
  protectBlocks : Nat
  partialBlocks : Nat
  deriving DecidableEq, Repr

/-- What the upstream port last answered: ready, and the data of a read (R131). -/
structure UpstreamAnswer where
  address : Nat
  write : Bool
  data : Word
  deriving DecidableEq, Repr

/-! ### Axis unit (chapter 9) -/

inductive Source
  | none | command | following
  deriving DecidableEq, Repr

/-- The seven processing fields of an axis entry (R150, R151). -/
structure Processing where
  min : Int
  max : Int
  step : Int
  tol : Int
  source : Source
  scale : Int
  offset : Int
  deriving DecidableEq, Repr

/-- The active copy of an axis entry (R150). -/
structure AxisEntry where
  enabled : Bool
  targetAddr : Nat
  feedbackAddr : Option Nat
  processing : Processing
  deriving DecidableEq, Repr

/-- An axis: its entry, its pending copy and its working state (R150, R151, R156). -/
structure Axis where
  entry : AxisEntry
  pending : Option Processing
  lastForwarded : Option Int
  sat : Bool
  clamp : Bool
  stepped : Bool
  previousResult : Option Int
  lastFeedback : Option Int
  clampSince : Bool
  satSince : Bool
  deriving DecidableEq, Repr

/-- The row of R159 chosen at the taking of a target write that is held. -/
inductive WriteRow
  | replay | witness
  deriving DecidableEq, Repr

/-- The write in processing between its taking and its hand-back: the saturated data, the row, and whether a COMMAND
comparison is to be made (R157, R159, R164). A write that is not held begins and ends in one instant. -/
structure WriteInProcessing where
  axis : Nat
  value : Int
  row : WriteRow
  compare : Bool
  deriving DecidableEq, Repr

/-! ### Witness unit (chapter 10) -/

inductive Conformance
  | unchecked | conforming | diverged
  deriving DecidableEq, Repr

structure WitnessAxis where
  state : Conformance
  history : List Mark
  worst : Option Int
  count : Nat
  badCount : Nat
  inject : Option Int
  deriving DecidableEq, Repr

structure FrameStart where
  timelineFrame : Nat
  passFrame : Nat
  deriving DecidableEq, Repr

structure DeviationEntry where
  axis : Nat
  worst : Int
  badCount : Nat
  count : Nat
  deriving DecidableEq, Repr

structure DeviationRecord where
  timelineFrame : Nat
  passFrame : Nat
  entries : List DeviationEntry
  deriving DecidableEq, Repr

structure Witness where
  axes : List WitnessAxis
  frameStart : Option FrameStart
  log : List DeviationRecord
  lost : Nat
  deriving DecidableEq, Repr

/-! ### Management port (chapter 11) -/

inductive FramePhase
  | idle | code | length | arguments | response | ignored
  deriving DecidableEq, Repr

inductive ResetCause
  | power | pin | command
  deriving DecidableEq, Repr

/-- The response of a taken command: the status byte, the result bytes and the number of bytes shifted out (R190). -/
structure Response where
  status : Byte
  result : List Byte
  shifted : Nat
  deriving DecidableEq, Repr

structure Port where
  phase : FramePhase
  code : Option Byte
  length : Option Byte
  args : List Byte
  /-- MODEL's own: the bytes of the request still to come before the command's row, each with the counts until it since the
  one before (log entry 8) -/
  incoming : List (Nat × Byte)
  response : Option Response
  resetPending : Bool
  flags : BitVec 16
  mask : BitVec 16
  resetCause : ResetCause
  powerSeen : Bool
  /-- the select line is high (no frame) -/
  selectHigh : Bool
  deriving DecidableEq, Repr

/-- A hardware reset in force, its sources, the pin's level and the counts of the span still to pass (R198, R206). -/
structure ResetControl where
  inForce : Bool
  byPower : Bool
  byPin : Bool
  byCommand : Bool
  pinHeld : Bool
  spanLeft : Nat
  deriving DecidableEq, Repr

/-! ### Events between blocks -/

/-- What the timebase hands on with a boundary: its KIND, its LOCK state, the new S, whether a timeline advance was made, and
whether the timeline limit was reached (R13). -/
structure HandedOn where
  kind : BoundaryKind
  lock : LockState
  position : Option Nat
  advanced : Bool
  limit : Bool
  deriving DecidableEq, Repr

/-- What one block has sent to another and the other has not yet taken, at the present instant (log entry 1): a boundary on
its way to the witness unit, with the frame it opens and whether it was made in RUNNING (R175, R176); a boundary on its way
to the pass controller, with what it hands on and the declared word before and after it (R13, R79, R176); a divergence
report (R183); a drain report (R94); the requests at a free port on their way to the arbiter's decision (R144). -/
inductive Delivery
  | witness (closes : Bool) (start : FrameStart)
  | controller (boundary : HandedOn) (old new : Byte) (declarationFirst reportsLate : Bool)
  | divergence
  | drain
  | slot
  deriving DecidableEq, Repr

/-! ### The part -/

structure State where
  timebase : Timebase
  directory : Directory
  pass : Pass
  camera : Camera
  recording : Recording
  lineQueue : LineQueue
  interpolator : Interpolator
  memory : MemoryPath
  axes : List Axis
  writeInProcessing : Option WriteInProcessing
  witness : Witness
  port : Port
  resetControl : ResetControl
  /-- MODEL's own: what blocks have sent each other at this instant and not yet taken, in order (log entry 1) -/
  due : List Delivery
  /-- MODEL's own: what the upstream port last answered -/
  lastUpstream : Option UpstreamAnswer
  /-- MODEL's own: how many open orders the part has taken by itself (log entry 1) -/
  openOrders : Nat
  /-- the commands waiting, first in first out -/
  pending : List Instr
  deriving DecidableEq, Repr

/-- The part never stops with a fault: the spec gives it no such behaviour (R192 refuses by a status code). -/
inductive Fault
  deriving DecidableEq, Repr

/-- Why a command has no meaning. -/
inductive Refusal
  /-- Raised by an arm of exec whose command has no meaning yet. Safe: the model stops where the part goes on. -/
  | notModelled (mnemonic : String)
  /-- Raised by UNKNOWN_OR_LENGTH whose code and argument count pass the checks of R191: such a frame is the row of its
  own command. Safe: the model stops where the part goes on; the same frame runs as that row. -/
  | frameOfAnotherCommand
  deriving DecidableEq, Repr

/-! ### Reset values -/

namespace State

def resetTimebase : Timebase :=
  { active := ⟨2083333, 8, 48⟩, pending := none, lock := .free, run := 0, lockPending := false, history := [],
    holdoverCount := 0, interval := none, flywheel := 0, watching := false, pulseNear := false, pulseBefore := false,
    record := none, refTime := 0, position := none, nextPoint := 0, passPulses := 0, advances := 0, frameOffset := 0,
    slips := 0 }

def resetDirectory : Directory :=
  { regionBase := 0, regionSize := 0, entries := List.replicate 32 none, verifyOrder := [], verifyCursor := none }

def resetPass : Pass :=
  { state := .idle, context := none, pending := none, preroll := none, hasRun := false, summary := none }

def resetCamera : Camera :=
  { receiver := .hunting, held := none, ring := [], rule := .fourOfFive, declared := 0, wordCount := 0, errorCount := 0 }

def resetRecording : Recording := { isOpen := false, queue := [], writer := none, highWater := 0 }

def emptyLineQueue : LineQueue :=
  { geometry := none, lines := [], assembly := none, nextFetch := none, currentLine := none }

def resetMemory : MemoryPath :=
  { upstream := none, downstream := none, urgentRun := 0, blockedAddress := none, protectBlocks := 0, partialBlocks := 0 }

def resetAxis : Axis :=
  { entry := { enabled := false, targetAddr := 0, feedbackAddr := none,
               processing := { min := -8388608, max := 8388607, step := 0, tol := 0, source := .none, scale := 16384,
                               offset := 0 } },
    pending := none, lastForwarded := none, sat := false, clamp := false, stepped := false, previousResult := none,
    lastFeedback := none, clampSince := false, satSince := false }

def resetWitnessAxis : WitnessAxis :=
  { state := .unchecked, history := [], worst := none, count := 0, badCount := 0, inject := none }

def resetWitness : Witness :=
  { axes := List.replicate 16 resetWitnessAxis, frameStart := none, log := [], lost := 0 }

/-- The flag RESET alone, bit 14 (R198, R202). -/
def resetFlags : BitVec 16 := 0x4000

/-- The state right after a hardware reset with power-on among its sources, select high (R25, R48, R50, R82, R96, R114,
R128, R148, R150, R156, R187, R198; log entry 4). -/
def reset : State :=
  { timebase := resetTimebase, directory := resetDirectory, pass := resetPass, camera := resetCamera,
    recording := resetRecording, lineQueue := emptyLineQueue, interpolator := ⟨none, none⟩, memory := resetMemory,
    axes := List.replicate 16 resetAxis, writeInProcessing := none, witness := resetWitness,
    port := { phase := .idle, code := none, length := none, args := [], incoming := [], response := none,
              resetPending := false,
              flags := resetFlags, mask := 0, resetCause := .power, powerSeen := true, selectHigh := true },
    resetControl := ⟨false, false, false, false, false, 0⟩,
    due := [], lastUpstream := none, openOrders := 0, pending := [] }

end State

end Sys2Proof.Machine
end

