-- ==== Sys2Proof/Machine/Flags.lean ====
section
/-! DEFINITION. The sixteen event flags, the alert line, and the flag bits of a line's tag word. -/

namespace Sys2Proof.Machine

/-- The sixteen events (R193). -/
inductive Event
  | lock | camera | pass | slip | starve | tag | clamp | saturate
  | protect | partialWrite | diverge | devlog | devlost | verify | reset | overrun
  deriving DecidableEq, Repr

/-- The bit of each event flag (R202). -/
def Event.bit : Event → Nat
  | .lock => 0 | .camera => 1 | .pass => 2 | .slip => 3 | .starve => 4 | .tag => 5 | .clamp => 6 | .saturate => 7
  | .protect => 8 | .partialWrite => 9 | .diverge => 10 | .devlog => 11 | .devlost => 12 | .verify => 13
  | .reset => 14 | .overrun => 15

/-- The flag word with this event's flag alone. -/
def Event.mask (ev : Event) : BitVec 16 := BitVec.twoPow 16 ev.bit

/-- A block raises an event by setting its flag (R193). -/
def State.raise (s : State) (ev : Event) : State :=
  { s with port := { s.port with flags := s.port.flags ||| ev.mask } }

/-- A flag is cleared. -/
def State.lower (s : State) (ev : Event) : State :=
  { s with port := { s.port with flags := s.port.flags &&& ~~~ ev.mask } }

/-- Whether a flag is set. -/
def State.flag (s : State) (ev : Event) : Bool := s.port.flags.getLsbD ev.bit

/-- DEVLOG is a level flag: set exactly while the deviation log holds a record (R180, R193). -/
def State.followLog (s : State) : State :=
  if s.witness.log.isEmpty then s.lower .devlog else s.raise .devlog

/-- The alert line: some flag is both set and enabled, and no hardware reset is in force (R196). -/
def State.alert (s : State) : Bool := !s.resetControl.inForce && (s.port.flags &&& s.port.mask) != 0

/-- The FLAGS field of a tag word, bits 24 to 27 (R201). -/
def LineFlags.tagBits (f : LineFlags) : Word :=
  (if f.unset then 0x01000000 else 0) ||| (if f.clamped then 0x02000000 else 0) |||
  (if f.saturated then 0x04000000 else 0) ||| (if f.coincident then 0x08000000 else 0)

/-- The tag word the record writer forms: INDEX modulo 65536, TAKE, FLAGS, other bits 0 (R32, R201). -/
def tagWord (index take : Nat) (f : LineFlags) : Word :=
  BitVec.ofNat 32 (index % 65536 + take % 64 * 65536) ||| f.tagBits

/-- A tag is good for a line when its INDEX is the line's index modulo 65536 and its TAKE the root's number; no other
bit takes part (R32, R201). -/
def tagGood (tag : Word) (index take : Nat) : Bool :=
  tag.toNat % 65536 == index % 65536 && tag.toNat / 65536 % 64 == take

end Sys2Proof.Machine
end

