-- ==== Sys2Proof/Machine/Operands.lean ====
section
/-! DEFINITION. How argument fields are read (codes, clamped numbers, sets of axes, signed values), and how the fields of
a result are laid out in bytes (R192, R202). -/

namespace Sys2Proof.Machine

/-! ### Argument fields -/

/-- A numeric value outside its range is clamped to the nearer bound (R192). -/
def clampNat (lo hi v : Nat) : Nat := max lo (min v hi)

/-- A signed value bounded to a range. -/
def clampInt (lo hi v : Int) : Int := if v < lo then lo else if hi < v then hi else v

/-- A count that stops at its limit. -/
def stopAt (limit v : Nat) : Nat := min v limit

/-- An enumerated yes/no argument: 0 no, 1 yes (R49, R152). -/
def readYesNo (b : Byte) : Option Bool :=
  if b = 0 then some false else if b = 1 then some true else none

/-- K is given as its own value (R49). -/
def readK (b : Byte) : Option Nat :=
  if b = 1 ∨ b = 2 ∨ b = 4 ∨ b = 8 ∨ b = 16 then some b.toNat else none

def readTrigger (b : Byte) : Option Trigger :=
  if b = 0 then some .immediate else if b = 1 then some .camera else none

def readInterp (b : Byte) : Option Interp :=
  if b = 0 then some .step else if b = 1 then some .linear else if b = 2 then some .cubic else none

def readPolicy (b : Byte) : Option Policy :=
  if b = 0 then some .continue else if b = 1 then some .park else if b = 2 then some .stop else none

def readSource (b : Byte) : Option Source :=
  if b = 0 then some .none else if b = 1 then some .command else if b = 2 then some .following else none

def readCameraRule (b : Byte) : Option CameraRule :=
  if b = 0 then some .fourOfFive else if b = 1 then some .eightOfTen else none

/-- A take number is 1 to 32. -/
def takeInRange (t : Nat) : Bool := decide (1 ≤ t ∧ t ≤ 32)

/-- The axes of a set in ascending order: the tracks of a take in track order (R29). -/
def trackList (tracks : AxisSet) : List Nat := (List.range 16).filter fun a => tracks.getLsbD a

/-- The number n of tracks. -/
def trackCount (tracks : AxisSet) : Nat := (trackList tracks).length

/-- The track place of an axis, counted from 1, if it is a track (R120). -/
def trackPlace (tracks : AxisSet) (axis : Nat) : Option Nat :=
  ((trackList tracks).findIdx? fun a => a == axis).map fun i => i + 1

/-- The set of axes of a list of axis numbers. -/
def axisSet (axes : List Nat) : AxisSet := axes.foldl (fun acc a => acc ||| BitVec.twoPow 16 a) 0

/-- Saturation to the signed 24-bit sample range (R33, R158). -/
def saturate24 (v : Int) : Int := clampInt (-8388608) 8388607 v

/-- A sample value sign-extended to a 32-bit word (R136, R201). -/
def sampleWord (v : Int) : Word := BitVec.ofInt 32 v

/-! ### Fields of a result -/

/-- A numeric field of n bytes, most significant byte first (R202). -/
def beBytes : Nat → Nat → List Byte
  | 0, _ => []
  | n + 1, v => BitVec.ofNat 8 (v / 256 ^ n) :: beBytes n v

/-- A signed field: two's complement in its own width (R202). -/
def signedBytes (n : Nat) (v : Int) : List Byte := beBytes n (v % (256 ^ n : Nat)).toNat

/-- A yes/no field or a presence byte: 1 yes, 0 no (R202). -/
def boolByte (b : Bool) : Byte := if b then 1 else 0

/-- An optional field: a presence byte, then the field, or n zero bytes when it is absent (R202). -/
def optBytes {α : Type} (n : Nat) (f : α → List Byte) : Option α → List Byte
  | some x => 1 :: f x
  | none => 0 :: List.replicate n 0

/-- A list of a varying number of items: a one-byte count, then places for the greatest number of items, unused places
0; `width` is the bytes of one item (R202). -/
def listBytes {α : Type} (places width : Nat) (f : α → List Byte) (xs : List α) : List Byte :=
  BitVec.ofNat 8 xs.length :: xs.flatMap f ++ List.replicate ((places - xs.length) * width) 0

/-- A code of one byte. -/
def codeByte (n : Nat) : Byte := BitVec.ofNat 8 n

/-- An enumerator whose code the spec does not list (log entry 2). -/
def unlisted (c : Config.UnlistedCode) : Byte := Config.codeOf c

/-! ### The listed codes (R202) -/

def LockState.codeNat : LockState → Nat
  | .free => 0 | .acquire => 1 | .locked => 2 | .holdover => 3

def PassState.codeNat : PassState → Nat
  | .idle => 0 | .armed => 1 | .preroll => 2 | .running => 3 | .parked => 4 | .ending => 5 | .complete => 6

def ResetCause.codeNat : ResetCause → Nat
  | .power => 0 | .pin => 1 | .command => 2

/-- FREE is 0 (R204). -/
def TakeState.codeNat : TakeState → Nat
  | .recording => 1 | .verifying => 2 | .ready => 3 | .rejected => 4

def PassOutcome.codeNat : PassOutcome → Nat
  | .takeEnd => 0 | .stopped => 1 | .cut => 2 | .full => 3 | .overrun => 4 | .divergedStop => 5 | .aborted => 6

def Request.codeNat : Request → Nat
  | .stop => 1 | .park => 2 | .cut => 3 | .divergedStop => 4 | .resume => 5

def Origin.codeNat : Origin → Nat
  | .first => 1 | .resume => 2

def PassMode.codeNat : PassMode → Nat
  | .record => 0 | .replay => 1 | .witness => 2

def Interp.codeNat : Interp → Nat
  | .step => 0 | .linear => 1 | .cubic => 2

def Trigger.codeNat : Trigger → Nat
  | .immediate => 0 | .camera => 1

def Policy.codeNat : Policy → Nat
  | .continue => 0 | .park => 1 | .stop => 2

def CameraRule.codeNat : CameraRule → Nat
  | .fourOfFive => 0 | .eightOfTen => 1

def Source.codeNat : Source → Nat
  | .none => 0 | .command => 1 | .following => 2

/-! ### The camera word (R201) -/

/-- ROLL, SPEED and MARK of a camera status word. -/
def wordRoll (w : Byte) : Bool := w.getLsbD 0
def wordSpeed (w : Byte) : Bool := w.getLsbD 1
def wordMark (w : Byte) : Nat := w.toNat / 4

/-! ### Status codes (R202) -/

inductive Status
  | ok | adjusted | unknown | length | range | state | busy | conflict | overlap | noRegion | noTake | inUse | axis
  deriving DecidableEq, Repr

/-- The value of each status in the status byte. -/
def Status.byte : Status → Byte
  | .ok => 0x00 | .adjusted => 0x01 | .unknown => 0x80 | .length => 0x81 | .range => 0x82 | .state => 0x83
  | .busy => 0x84 | .conflict => 0x85 | .overlap => 0x86 | .noRegion => 0x87 | .noTake => 0x88 | .inUse => 0x89
  | .axis => 0x8A

/-- OK and ADJUSTED accept, every other status refuses (R192). -/
def Status.accepted : Status → Bool
  | .ok => true
  | .adjusted => true
  | _ => false

/-- OK, or ADJUSTED when a value was clamped (R192). -/
def okOr (adjusted : Bool) : Status := if adjusted then .adjusted else .ok

end Sys2Proof.Machine
end

