-- ==== Sys2Proof/Machine/Frames.lean ====
section
/-! DEFINITION. The request frames of the management port: each command's code and argument bytes (R191, R202), and the
reading of a taken frame back into its command. -/

namespace Sys2Proof.Machine

/-- A request: the code byte and the argument bytes; the declared length is their number (R189). -/
structure Frame where
  code : Byte
  args : List Byte
  deriving DecidableEq, Repr

/-- A two-, three- or four-byte field, most significant byte first (R202). -/
def bytes2 (v : BitVec 16) : List Byte := [v.extractLsb' 8 8, v.extractLsb' 0 8]
def bytes3 (v : BitVec 24) : List Byte := [v.extractLsb' 16 8, v.extractLsb' 8 8, v.extractLsb' 0 8]
def bytes4 (v : BitVec 32) : List Byte :=
  [v.extractLsb' 24 8, v.extractLsb' 16 8, v.extractLsb' 8 8, v.extractLsb' 0 8]

/-- The field that two, three or four bytes carry. -/
def field2 (a b : Byte) : BitVec 16 := a ++ b
def field3 (a b c : Byte) : BitVec 24 := a ++ (b ++ c)
def field4 (a b c d : Byte) : BitVec 32 := a ++ (b ++ (c ++ d))

/-- The number of argument bytes of each code of the command table; none for a code that names no command (R191). -/
def argCount (code : Byte) : Option Nat :=
  match code.toNat with
  | 0x01 => some 0
  | 0x02 => some 0
  | 0x03 => some 2
  | 0x04 => some 2
  | 0x0F => some 0
  | 0x10 => some 6
  | 0x11 => some 0
  | 0x20 => some 3
  | 0x21 => some 0
  | 0x22 => some 10
  | 0x23 => some 1
  | 0x24 => some 1
  | 0x25 => some 1
  | 0x26 => some 8
  | 0x27 => some 1
  | 0x30 => some 17
  | 0x31 => some 11
  | 0x32 => some 11
  | 0x33 => some 0
  | 0x34 => some 0
  | 0x35 => some 0
  | 0x36 => some 0
  | 0x37 => some 0
  | 0x38 => some 0
  | 0x39 => some 0
  | 0x40 => some 1
  | 0x41 => some 0
  | 0x50 => some 0
  | 0x51 => some 0
  | 0x52 => some 3
  | 0x53 => some 0
  | 0x60 => some 0
  | 0x70 => some 26
  | 0x71 => some 1
  | 0x72 => some 1
  | 0x73 => some 2
  | 0x80 => some 6
  | 0x81 => some 0
  | 0x82 => some 1
  | _ => none

/-- The request frame of each management command; the pin and bus events have none, and UNKNOWN_OR_LENGTH is its own
frame. -/
def frameOf : Instr → Option Frame
  | .readStatus => some ⟨0x01, []⟩
  | .readEvents => some ⟨0x02, []⟩
  | .clearEvents named => some ⟨0x03, bytes2 named⟩
  | .setEnable mask => some ⟨0x04, bytes2 mask⟩
  | .resetPart => some ⟨0x0F, []⟩
  | .setTimebase nNom window holdoverLimit => some ⟨0x10, bytes4 nNom ++ [window] ++ [holdoverLimit]⟩
  | .readTimebase => some ⟨0x11, []⟩
  | .setRegion base size => some ⟨0x20, [base] ++ bytes2 size⟩
  | .readRegion => some ⟨0x21, []⟩
  | .declare take base lines k tracks => some ⟨0x22, [take] ++ bytes3 base ++ bytes3 lines ++ [k] ++ bytes2 tracks⟩
  | .delete take => some ⟨0x23, [take]⟩
  | .protect take => some ⟨0x24, [take]⟩
  | .unprotect take => some ⟨0x25, [take]⟩
  | .aliasTake take parent offset length => some ⟨0x26, [take] ++ [parent] ++ bytes3 offset ++ bytes3 length⟩
  | .readTake take => some ⟨0x27, [take]⟩
  | .recordArm take base maxLines k tracks trigger requireLock preroll pace length => some ⟨0x30, [take] ++ bytes3 base ++ bytes3 maxLines ++ [k] ++ bytes2 tracks ++ [trigger] ++ [requireLock] ++ [preroll] ++ bytes2 pace ++ bytes2 length⟩
  | .replayArm take startFrame pace interp trigger requireLock preroll resumePreroll policy => some ⟨0x31, [take] ++ bytes2 startFrame ++ bytes2 pace ++ [interp] ++ [trigger] ++ [requireLock] ++ [preroll] ++ [resumePreroll] ++ [policy]⟩
  | .witnessArm take startFrame pace interp trigger requireLock preroll resumePreroll policy => some ⟨0x32, [take] ++ bytes2 startFrame ++ bytes2 pace ++ [interp] ++ [trigger] ++ [requireLock] ++ [preroll] ++ [resumePreroll] ++ [policy]⟩
  | .stop => some ⟨0x33, []⟩
  | .park => some ⟨0x34, []⟩
  | .resume => some ⟨0x35, []⟩
  | .abort => some ⟨0x36, []⟩
  | .clear => some ⟨0x37, []⟩
  | .passReset => some ⟨0x38, []⟩
  | .readPass => some ⟨0x39, []⟩
  | .setCamera rule => some ⟨0x40, [rule]⟩
  | .readCamera => some ⟨0x41, []⟩
  | .readRecord => some ⟨0x50, []⟩
  | .readLineQueue => some ⟨0x51, []⟩
  | .readQueuedLine index => some ⟨0x52, bytes3 index⟩
  | .readEvaluation => some ⟨0x53, []⟩
  | .readPath => some ⟨0x60, []⟩
  | .setAxis axis enabled target feedbackPresent feedback min max step tol source scale offset => some ⟨0x70, [axis] ++ [enabled] ++ bytes3 target ++ [feedbackPresent] ++ bytes3 feedback ++ bytes3 min ++ bytes3 max ++ bytes3 step ++ bytes2 tol ++ [source] ++ bytes2 scale ++ bytes3 offset⟩
  | .getAxis axis => some ⟨0x71, [axis]⟩
  | .readAxis axis => some ⟨0x72, [axis]⟩
  | .clearAxisFlags axes => some ⟨0x73, bytes2 axes⟩
  | .inject axis action offset => some ⟨0x80, [axis] ++ [action] ++ bytes4 offset⟩
  | .readDeviation => some ⟨0x81, []⟩
  | .readWitness axis => some ⟨0x82, [axis]⟩
  | .unknownOrLength code args => some ⟨code, args⟩
  | .syncPulse _ _ => none
  | .flywheelBoundary _ => none
  | .substitutedBoundary _ => none
  | .holdoverRunReset => none
  | .samplePoint => none
  | .statusCharacter _ _ _ _ => none
  | .upstreamTransactionTaken _ _ _ _ _ => none
  | .interpolationEnd _ => none
  | .downstreamComplete _ _ => none
  | .selectFall _ => none
  | .selectRise _ _ => none
  | .powerOn _ => none
  | .resetPin _ => none
  | .resetEnd => none
  | .statusStartEdge _ _ => none
  | .statusLineReturnHigh _ => none
  | .resetPinRelease _ => none

/-- The command of a taken frame, read from its code and argument bytes; a frame that fails the checks of R191 is
UNKNOWN_OR_LENGTH. -/
def commandOf (fr : Frame) : Instr :=
  match fr.code.toNat, fr.args with
  | 0x01, [] => .readStatus
  | 0x02, [] => .readEvents
  | 0x03, [b0, b1] => .clearEvents (field2 b0 b1)
  | 0x04, [b0, b1] => .setEnable (field2 b0 b1)
  | 0x0F, [] => .resetPart
  | 0x10, [b0, b1, b2, b3, b4, b5] => .setTimebase (field4 b0 b1 b2 b3) b4 b5
  | 0x11, [] => .readTimebase
  | 0x20, [b0, b1, b2] => .setRegion b0 (field2 b1 b2)
  | 0x21, [] => .readRegion
  | 0x22, [b0, b1, b2, b3, b4, b5, b6, b7, b8, b9] => .declare b0 (field3 b1 b2 b3) (field3 b4 b5 b6) b7 (field2 b8 b9)
  | 0x23, [b0] => .delete b0
  | 0x24, [b0] => .protect b0
  | 0x25, [b0] => .unprotect b0
  | 0x26, [b0, b1, b2, b3, b4, b5, b6, b7] => .aliasTake b0 b1 (field3 b2 b3 b4) (field3 b5 b6 b7)
  | 0x27, [b0] => .readTake b0
  | 0x30, [b0, b1, b2, b3, b4, b5, b6, b7, b8, b9, b10, b11, b12, b13, b14, b15, b16] => .recordArm b0 (field3 b1 b2 b3) (field3 b4 b5 b6) b7 (field2 b8 b9) b10 b11 b12 (field2 b13 b14) (field2 b15 b16)
  | 0x31, [b0, b1, b2, b3, b4, b5, b6, b7, b8, b9, b10] => .replayArm b0 (field2 b1 b2) (field2 b3 b4) b5 b6 b7 b8 b9 b10
  | 0x32, [b0, b1, b2, b3, b4, b5, b6, b7, b8, b9, b10] => .witnessArm b0 (field2 b1 b2) (field2 b3 b4) b5 b6 b7 b8 b9 b10
  | 0x33, [] => .stop
  | 0x34, [] => .park
  | 0x35, [] => .resume
  | 0x36, [] => .abort
  | 0x37, [] => .clear
  | 0x38, [] => .passReset
  | 0x39, [] => .readPass
  | 0x40, [b0] => .setCamera b0
  | 0x41, [] => .readCamera
  | 0x50, [] => .readRecord
  | 0x51, [] => .readLineQueue
  | 0x52, [b0, b1, b2] => .readQueuedLine (field3 b0 b1 b2)
  | 0x53, [] => .readEvaluation
  | 0x60, [] => .readPath
  | 0x70, [b0, b1, b2, b3, b4, b5, b6, b7, b8, b9, b10, b11, b12, b13, b14, b15, b16, b17, b18, b19, b20, b21, b22, b23, b24, b25] => .setAxis b0 b1 (field3 b2 b3 b4) b5 (field3 b6 b7 b8) (field3 b9 b10 b11) (field3 b12 b13 b14) (field3 b15 b16 b17) (field2 b18 b19) b20 (field2 b21 b22) (field3 b23 b24 b25)
  | 0x71, [b0] => .getAxis b0
  | 0x72, [b0] => .readAxis b0
  | 0x73, [b0, b1] => .clearAxisFlags (field2 b0 b1)
  | 0x80, [b0, b1, b2, b3, b4, b5] => .inject b0 b1 (field4 b2 b3 b4 b5)
  | 0x81, [] => .readDeviation
  | 0x82, [b0] => .readWitness b0
  | _, _ => .unknownOrLength fr.code fr.args

/-- A taken frame passes the checks of code and argument count (R191). -/
def Frame.passes (fr : Frame) : Bool := argCount fr.code == some fr.args.length

end Sys2Proof.Machine
end

