-- ==== Sys2Proof/Machine/Ops.lean ====
section
/-! DEFINITION. The named operations every family uses: summary counts, directory entries, axes, the timeline position,
and the frame of a management command with its response. -/

namespace Sys2Proof.Machine

/-! ### Pass summary (R72) -/

/-- A change of the summary, if there is one. -/
def State.onSummary (s : State) (f : Summary → Summary) : State :=
  { s with pass := { s.pass with summary := s.pass.summary.map f } }

/-- A report to the summary: it counts while the pass is in any state but IDLE (R72). -/
def State.report (s : State) (f : Summary → Summary) : State :=
  if s.pass.state = .idle then s else s.onSummary f

def Summary.addSaturate (m : Summary) : Summary := { m with saturates := stopAt Config.countLimit (m.saturates + 1) }
def Summary.addStarve (m : Summary) : Summary := { m with starves := stopAt Config.countLimit (m.starves + 1) }
def Summary.addTagFail (m : Summary) : Summary := { m with tagFails := stopAt Config.countLimit (m.tagFails + 1) }
def Summary.addRecord (m : Summary) : Summary := { m with records := stopAt Config.countLimit (m.records + 1) }
def Summary.addLost (m : Summary) : Summary := { m with lost := stopAt Config.countLimit (m.lost + 1) }
def Summary.addClamp (m : Summary) : Summary := { m with clamps := stopAt Config.countLimit (m.clamps + 1) }

/-! ### Events between blocks (log entry 1) -/

/-- An event of this instant that the receiving block takes later. -/
def State.deliverLater (s : State) (d : Delivery) : State := { s with due := s.due ++ [d] }

/-- A report to the pass controller. -/
def Delivery.isReport : Delivery → Bool
  | .witness _ _ => false
  | .controller _ _ _ _ _ => false
  | .divergence => true
  | .drain => true
  | .slot => false

/-- A boundary on its way to a block. -/
def Delivery.isBoundary : Delivery → Bool
  | .witness _ _ => true
  | .controller _ _ _ _ _ => true
  | .divergence => false
  | .drain => false
  | .slot => false

/-! ### Directory entries (R29) -/

/-- The entry of a take number, absent when the entry is FREE or the number is outside 1 to 32. -/
def Directory.entry (d : Directory) (t : Nat) : Option TakeEntry :=
  if t = 0 then none else (d.entries[t - 1]?).join

/-- A take number's entry is written. -/
def Directory.setEntry (d : Directory) (t : Nat) (e : Option TakeEntry) : Directory :=
  if t = 0 then d else { d with entries := d.entries.set (t - 1) e }

def State.entry (s : State) (t : Nat) : Option TakeEntry := s.directory.entry t

def State.setEntry (s : State) (t : Nat) (e : Option TakeEntry) : State :=
  { s with directory := s.directory.setEntry t e }

/-- A change of the entry of a take number, if it is not FREE. -/
def State.onEntry (s : State) (t : Nat) (f : TakeEntry → TakeEntry) : State :=
  s.setEntry t ((s.entry t).map f)

/-- The root of a take: itself, or an alias's PARENT (R43, R44). -/
def TakeEntry.root (e : TakeEntry) (t : Nat) : Nat :=
  match e.kind with
  | .storage _ _ => t
  | .aliasOf parent _ => parent

/-- A take region exists (R26). -/
def State.hasRegion (s : State) : Bool := s.directory.regionSize != 0

/-- A byte address lies in the take region (R26). -/
def State.inRegion (s : State) (addr : Nat) : Bool :=
  decide (s.directory.regionBase * 65536 ≤ addr ∧ addr < (s.directory.regionBase + s.directory.regionSize) * 65536)

/-! ### Axes -/

def State.axis (s : State) (a : Nat) : Axis := s.axes.getD a State.resetAxis

def State.onAxis (s : State) (a : Nat) (f : Axis → Axis) : State :=
  { s with axes := s.axes.modify a f }

def State.witnessAxis (s : State) (a : Nat) : WitnessAxis := s.witness.axes.getD a State.resetWitnessAxis

def State.onWitnessAxis (s : State) (a : Nat) (f : WitnessAxis → WitnessAxis) : State :=
  { s with witness := { s.witness with axes := s.witness.axes.modify a f } }

/-- The axis whose ENABLED entry has this address as TARGET_ADDR (R133). -/
def State.targetAxis (s : State) (addr : Nat) : Option Nat :=
  s.axes.findIdx? fun ax => ax.entry.enabled && ax.entry.targetAddr == addr

/-- The axis whose ENABLED entry has this address as FEEDBACK_ADDR, present (R133). -/
def State.feedbackAxis (s : State) (addr : Nat) : Option Nat :=
  s.axes.findIdx? fun ax => ax.entry.enabled && ax.entry.feedbackAddr == some addr

/-! ### The pass -/

/-- pace16: the pace in Q16.16 (00 §4). -/
def State.pace16 (s : State) : Nat := ((s.pass.context.map (·.pace)).getD 0) * 16

/-- The mode of the context. -/
def State.mode (s : State) : Option PassMode := s.pass.context.map (·.mode)

/-- A pass that reads a take: REPLAY or WITNESS. -/
def State.readsTake (s : State) : Bool := s.mode == some .replay || s.mode == some .witness

/-- Every change of pass state raises PASS (R50). -/
def State.setPass (s : State) (p : PassState) : State :=
  if s.pass.state = p then s else ({ s with pass := { s.pass with state := p } } : State).raise .pass

/-- RUNNING or PARKED: the states in which pulses are counted and the offset is kept (R1, R20). -/
def State.runningOrParked (s : State) : Bool := s.pass.state == .running || s.pass.state == .parked

/-! ### Timebase readings -/

/-- The window W = floor(N_NOM × WINDOW / 256) (R21). -/
def TimebaseSettings.w (t : TimebaseSettings) : Nat := t.nNom * t.window / 256

/-- N, the current period of the boundary record; N_NOM before the first boundary (R12). -/
def Timebase.period (t : Timebase) : Nat := (t.record.map (·.period)).getD t.active.nNom

/-- P = S + floor(pace16 × min(e, N) / N), capped at the end of frame 65535 (R15). -/
def State.runningPosition (s : State) : Nat :=
  let n := s.timebase.period
  min ((s.timebase.position.getD 0) + s.pace16 * min s.timebase.flywheel n / n) (Config.timelineLimit - 1)

/-- The position at this instant, by the pass state (R14). -/
def State.position (s : State) : Option Nat :=
  match s.pass.state with
  | .idle => none
  | .running => some s.runningPosition
  | _ => s.timebase.position

/-! ### Management commands -/

/-- What a command's body gives: the state after its effect, its status and its result. -/
structure Answer where
  state : State
  status : Status
  result : List Byte

/-- A refused command changes nothing and has an empty result (R192). -/
def refuse (s : State) (st : Status) : Answer := ⟨s, st, []⟩

/-- A command done as given, with an empty result. -/
def accept (s : State) : Answer := ⟨s, .ok, []⟩

/-- The request bytes of a frame that have not come yet are received (R189). -/
def State.receive (s : State) (fr : Frame) : State :=
  { s with port := { s.port with
      phase := .arguments, code := some fr.code, length := some (BitVec.ofNat 8 fr.args.length), args := fr.args,
      incoming := [] } }

/-- One byte of a request is complete before the last: the code, the declared length, an argument byte (R189). The byte that
would complete the request belongs to the command's row. -/
def Port.clockByte (p : Port) (b : Byte) : Port :=
  match p.phase with
  | .code => { p with code := some b, phase := .length }
  | .length => if b = 0 then p else { p with length := some b, phase := .arguments }
  | .arguments =>
    if p.args.length + 1 < (p.length.map BitVec.toNat).getD 0 then { p with args := p.args ++ [b] } else p
  | _ => p

/-- The first of the early bytes of the request arrives. -/
def State.nextByte (s : State) : State :=
  match s.port.incoming with
  | (_, b) :: rest => { s with port := ({ s.port with incoming := rest } : Port).clockByte b }
  | [] => s

/-- The part of the request received so far is the beginning of this frame (R189). -/
def Port.agrees (p : Port) (fr : Frame) : Bool :=
  match p.phase with
  | .code => true
  | .length => p.code == some fr.code
  | .arguments =>
    p.code == some fr.code && p.length == some (BitVec.ofNat 8 fr.args.length) && fr.args.take p.args.length == p.args
  | _ => false

/-- The response is formed and the phase becomes RESPONSE (R189, R190). -/
def State.respond (s : State) (a : Status) (result : List Byte) : State :=
  { s with port := { s.port with phase := .response, response := some ⟨a.byte, result, 0⟩ } }

/-- The bytes of a response on data out: status, result length, result (R190). -/
def Response.bytes (r : Response) : List Byte := r.status :: BitVec.ofNat 8 r.result.length :: r.result

/-- In RESPONSE every byte clocked shifts one byte of the response out (R190). -/
def State.shiftOut (s : State) (n : Nat) : State :=
  { s with port := { s.port with
      response := s.port.response.map fun r => { r with shifted := stopAt r.bytes.length (r.shifted + n) } } }

/-- The byte the part shifts out next: 0xFF while a reset is in force, the next response byte in RESPONSE, 0 otherwise
(R189, R190, R200). -/
def State.dataOutByte (s : State) : Byte :=
  if s.resetControl.inForce || s.port.phase == .ignored then 0xFF
  else match s.port.phase, s.port.response with
    | .response, some r => r.bytes.getD r.shifted 0
    | _, _ => 0

end Sys2Proof.Machine
end

