-- ==== Sys2Proof/Machine/Directory.lean ====
section
/-! DEFINITION. The take directory's shared operations: extents, protection, the verify order and the end of a recording
(chapter 2). -/

namespace Sys2Proof.Machine

/-! ### Extents (R30, R31) -/

/-- The bytes of a line of n tracks (R30). -/
def lineBytes (n : Nat) : Nat := (1 + n) * 4

/-- The extent of a STORAGE entry: its first byte and its number of bytes; an ALIAS entry has none (R30). -/
def TakeEntry.extent (e : TakeEntry) : Option (Nat × Nat) :=
  match e.kind with
  | .storage base _ => some (base, e.lines * lineBytes (trackCount e.tracks))
  | .aliasOf _ _ => none

/-- Two byte ranges share a byte. -/
def rangesMeet (a b : Nat × Nat) : Bool := decide (a.1 < b.1 + b.2 ∧ b.1 < a.1 + a.2)

/-- Some STORAGE entry other than take t, not FREE, shares a byte with the range (R31 step 3). -/
def Directory.meetsOther (d : Directory) (t : Nat) (range : Nat × Nat) : Bool :=
  (List.range 32).any fun i =>
    i + 1 != t &&
      match (d.entry (i + 1)).bind TakeEntry.extent with
      | some ext => rangesMeet ext range
      | none => false

/-- The check of an extent of `lines` lines of n tracks at `base` for take t; none grants it (R31). -/
def State.extentCheck (s : State) (t base lines n : Nat) : Option Status :=
  let bytes := lines * lineBytes n
  if !s.hasRegion then some .noRegion
  else if 0x1000000 < base + bytes || decide (base < s.directory.regionBase * 65536)
      || decide ((s.directory.regionBase + s.directory.regionSize) * 65536 < base + bytes) then some .overlap
  else if s.directory.meetsOther t (base, bytes) then some .overlap
  else none

/-! ### Protection (R34) -/

/-- Writes into this entry's extent are blocked: RECORDING, VERIFYING, or PROTECTED yes (R34). -/
def TakeEntry.guards (e : TakeEntry) : Bool :=
  match e.kind with
  | .storage _ guarded => guarded || e.state == .recording || e.state == .verifying
  | .aliasOf _ _ => false

/-- The word at a byte address is protected (R34). -/
def Directory.wordProtected (d : Directory) (addr : Nat) : Bool :=
  d.entries.any fun e =>
    match e with
    | some e => e.guards && (match e.extent with
        | some (base, bytes) => decide (base ≤ addr ∧ addr < base + bytes)
        | none => false)
    | none => false

/-! ### Changing an entry -/

/-- The PROTECTED field is written; an ALIAS entry has none of its own (R29, R35). -/
def TakeEntry.setGuarded (e : TakeEntry) (g : Bool) : TakeEntry :=
  match e.kind with
  | .storage base _ => { e with kind := .storage base g }
  | .aliasOf _ _ => e

/-- The PROTECTED field of a STORAGE entry; no for an alias (R204). -/
def TakeEntry.guarded (e : TakeEntry) : Bool :=
  match e.kind with
  | .storage _ g => g
  | .aliasOf _ _ => false

/-- BASE; 0 for an alias (R204). -/
def TakeEntry.base (e : TakeEntry) : Nat :=
  match e.kind with
  | .storage base _ => base
  | .aliasOf _ _ => 0

/-- The alias OFFSET; 0 for a STORAGE take (R100). -/
def TakeEntry.aliasOffset (e : TakeEntry) : Nat :=
  match e.kind with
  | .storage _ _ => 0
  | .aliasOf _ off => off

/-- Some ALIAS entry names take t as PARENT (R45). -/
def Directory.namedByAlias (d : Directory) (t : Nat) : Bool :=
  d.entries.any fun e =>
    match e with
    | some e => (match e.kind with | .aliasOf parent _ => parent == t | .storage _ _ => false)
    | none => false

/-- Take t is the take of a pass that is not in IDLE (R45). -/
def State.passHolds (s : State) (t : Nat) : Bool :=
  s.pass.state != .idle && s.pass.context.map (·.take) == some t

/-! ### The end of a recording (R38) -/

/-- The entry after leaving RECORDING: READY with the lines written and PROTECTED yes, or FREE when none was written. -/
def TakeEntry.leaveRecording (e : TakeEntry) (truncated : Bool) : Option TakeEntry :=
  if e.written = 0 then none
  else some { (e.setGuarded true) with state := .ready, lines := e.written, truncated := truncated, written := 0 }

/-- The entry of the pass's take leaves RECORDING, if it is RECORDING (R38). -/
def State.finishRecording (s : State) (truncated : Bool) : State :=
  match s.pass.context with
  | none => s
  | some c =>
    match s.entry c.take with
    | none => s
    | some e => if e.state = .recording then s.setEntry c.take (e.leaveRecording truncated) else s

/-! ### The verify order (R39 to R42) -/

/-- The cursor for a verify order: line 0 of the take at its head (R40, R41). -/
def freshCursor (order : List Nat) : Option Nat := if order.isEmpty then none else some 0

/-- A verify read of the take engine in flight is marked so that its tag is discarded (R42). -/
def State.dropDownstream (s : State) (owner : DownstreamOwner) : State :=
  { s with memory := { s.memory with
      downstream := s.memory.downstream.map fun d => if d.owner = owner then { d with discard := true } else d } }

/-- A take joins the tail of the verify order; it starts its scan when it is the head (R39, R40). -/
def State.verifyAppend (s : State) (t : Nat) : State :=
  let cursor := if s.directory.verifyOrder.isEmpty then some 0 else s.directory.verifyCursor
  { s with directory := { s.directory with verifyOrder := s.directory.verifyOrder ++ [t], verifyCursor := cursor } }

/-- A take leaves the verify order; when it was the head its scan stops, a read in flight is discarded and the next take
starts at line 0 (R42). -/
def State.verifyRemove (s : State) (t : Nat) : State :=
  let order := s.directory.verifyOrder.erase t
  if s.directory.verifyOrder.head? = some t then
    ({ s with directory := { s.directory with verifyOrder := order, verifyCursor := freshCursor order } } : State).dropDownstream
      .verifyRead
  else { s with directory := { s.directory with verifyOrder := order } }

/-- The scan of the head ends: the entry takes its new state, the head leaves the order, VERIFY is raised (R41). -/
def State.verifyEnd (s : State) (t : Nat) (f : TakeEntry → TakeEntry) : State :=
  let s := s.onEntry t f
  let order := s.directory.verifyOrder.tail
  ({ s with directory := { s.directory with verifyOrder := order, verifyCursor := freshCursor order } } : State).raise .verify

/-- A verify read of the head's line at the cursor completes with its tag word (R40, R41). -/
def State.verifyReadComplete (s : State) (tag : Word) : State :=
  match s.directory.verifyOrder.head?, s.directory.verifyCursor with
  | some t, some i =>
    match s.entry t with
    | none => s
    | some e =>
      if tagGood tag i t then
        if i + 1 < e.lines then { s with directory := { s.directory with verifyCursor := some (i + 1) } }
        else s.verifyEnd t fun e => { e with state := .ready }
      else s.verifyEnd t fun e => { e with state := .rejected, failLine := some i }
  | _, _ => s

end Sys2Proof.Machine
end

