-- ==== Sys2Proof/Machine/PassEnds.lean ====
section
/-! DEFINITION. How a pass ends and how requests wait: the single pending slot, ENDING and COMPLETE, the drain
(chapter 3, R38, R47, R61, R62, R66 to R68, R94). -/

namespace Sys2Proof.Machine

/-- A request enters the slot, replacing any before it (R61). -/
def State.placeRequest (s : State) (r : Request) : State :=
  { s with pass := { s.pass with pending := some r } }

/-- The slot is emptied (R61). -/
def State.emptySlot (s : State) : State := { s with pass := { s.pass with pending := none } }

/-- The outcome is written into the summary (R72). -/
def State.setOutcome (s : State) (o : PassOutcome) : State :=
  s.onSummary fun m => { m with outcome := some o }

/-- A REPLAY pass that completes by END counts for its take; the alias's own count for an alias (R47). -/
def State.countReplay (s : State) (o : PassOutcome) : State :=
  match s.pass.context with
  | some c =>
    if c.mode = .replay ∧ o = .takeEnd then
      s.onEntry c.take fun e => { e with passCount := stopAt 65535 (e.passCount + 1) }
    else s
  | none => s

/-- The pass ends: a RECORD pass enters ENDING, a REPLAY or WITNESS pass COMPLETE; any pending request is discarded
(R60, R62, R66, R67). -/
def State.endPass (s : State) (o : PassOutcome) : State :=
  let s := (s.setOutcome o).emptySlot
  if s.mode = some .record then s.setPass .ending else (s.countReplay o).setPass .complete

/-- The take engine reports the last line or an overrun captured at position p: a pass still in RUNNING, or parked by the
same boundary, enters ENDING with the position frozen at p; a pass already in ENDING keeps its outcome (R67, R89, R90). -/
def State.reportCaptureEnd (s : State) (o : PassOutcome) (p : Nat) : State :=
  if s.runningOrParked then
    ({ s with timebase := { s.timebase with position := some p } } : State).endPass o
  else s

/-- In ENDING with the record queue empty the drain is reported: the take becomes READY and the pass COMPLETE
(R38, R68, R94). -/
def State.drainCheck (s : State) : State :=
  if s.pass.state = .ending ∧ s.recording.queue = [] then
    (s.finishRecording ((s.pass.summary.bind (·.outcome)) == some .overrun)).setPass .complete
  else s

/-- The take engine reports the drain when the queue is empty in ENDING; the report arrives at once, or later in the same
instant (R94). -/
def State.drainReport (s : State) (late : Bool) : State :=
  if late then
    if s.pass.state = .ending ∧ s.recording.queue = [] then s.deliverLater .drain else s
  else s.drainCheck

end Sys2Proof.Machine
end

