-- ==== Sys2Proof/Machine/Conformance.lean ====
section
/-! DEFINITION. The witness unit's shared operations: taking a comparison, closing a frame, the deviation log
(chapter 10). -/

namespace Sys2Proof.Machine

/-- A mark is added at the newest end of a history of a given depth; the oldest is dropped (R7, R181). -/
def addToHistory (depth : Nat) (history : List Mark) (m : Mark) : List Mark :=
  (history ++ [m]).drop (history.length + 1 - depth)

def badMarks (history : List Mark) : Nat := history.count .bad

/-- The history holds 16 marks, all good (R182). -/
def sixteenGood (history : List Mark) : Bool :=
  history.length == Config.comparisonDepth && badMarks history == 0

/-- The conformance machine after a mark has been added (R182). -/
def conformanceStep (st : Conformance) (history : List Mark) : Conformance :=
  match st with
  | .unchecked => if sixteenGood history then .conforming else if 4 ≤ badMarks history then .diverged else .unchecked
  | .conforming => if 4 ≤ badMarks history then .diverged else .conforming
  | .diverged => if sixteenGood history then .conforming else .diverged

/-- A comparison is good when its magnitude is at most TOL (R173). -/
def judge (tol e : Int) : Mark := if e.natAbs ≤ tol.toNat then .good else .bad

/-- The comparison after a pending inject offset, saturated (R171). -/
def injected (inject : Option Int) (e : Int) : Int :=
  match inject with
  | some off => clampInt (-Config.comparisonLimit) Config.comparisonLimit (e + off)
  | none => e

/-- WORST after a comparison: on equal magnitudes the earlier value stays (R174). -/
def worstOf (worst : Option Int) (e : Int) : Int :=
  match worst with
  | none => e
  | some w => if w.natAbs < e.natAbs then e else w

/-- The axis's witness state after a taken comparison (R171, R173, R174, R181, R182). -/
def WitnessAxis.take (w : WitnessAxis) (tol e : Int) : WitnessAxis :=
  let e := injected w.inject e
  let m := judge tol e
  let history := addToHistory Config.comparisonDepth w.history m
  { state := conformanceStep w.state history
    history := history
    worst := some (worstOf w.worst e)
    count := stopAt 65535 (w.count + 1)
    badCount := if m = .bad then stopAt 255 (w.badCount + 1) else w.badCount
    inject := none }

/-- The per-frame accumulators are emptied (R174, R175). -/
def WitnessAxis.emptyFrame (w : WitnessAxis) : WitnessAxis := { w with worst := none, count := 0, badCount := 0 }

/-- UNCHECKED with the history and the accumulators emptied (R184, R186). -/
def WitnessAxis.uncheck (w : WitnessAxis) : WitnessAxis :=
  { (w.emptyFrame) with state := .unchecked, history := [] }

/-- A divergence report reaches the pass controller: in RUNNING it acts by POLICY, otherwise it is dropped (R65). -/
def State.divergenceReport (s : State) : State :=
  if s.pass.state = .running then
    match s.pass.context.bind (·.policy) with
    | some .park => s.placeRequest .park
    | some .stop => s.placeRequest .divergedStop
    | _ => s
  else s

/-- The witness unit reports an entry into DIVERGED; the report arrives at once, or later in the same instant (R183). -/
def State.reportDivergence (s : State) (late : Bool) : State :=
  if late then s.deliverLater .divergence else s.divergenceReport

/-- The witness unit takes comparisons of a REPLAY or WITNESS pass in RUNNING (R170). -/
def State.takesComparisons (s : State) : Bool := s.pass.state == .running && s.readsTake

/-- A comparison reaches the witness unit: taken or dropped (R170), and the conformance change raises DIVERGE and reports
an entry into DIVERGED (R182, R183). -/
def State.comparison (s : State) (a : Nat) (e : Int) (late : Bool) : State :=
  if s.takesComparisons then
    let before := s.witnessAxis a
    let after := before.take (s.axis a).entry.processing.tol e
    let s := s.onWitnessAxis a fun w => w.take (s.axis a).entry.processing.tol e
    if before.state ≠ .diverged ∧ after.state = .diverged then (s.raise .diverge).reportDivergence late
    else if before.state = .diverged ∧ after.state = .conforming then s.raise .diverge
    else s
  else s

/-- The entries of a deviation record: every axis with BAD above 0, in ascending order (R177). -/
def deviationEntries : Nat → List WitnessAxis → List DeviationEntry
  | _, [] => []
  | a, w :: rest =>
    if 0 < w.badCount then ⟨a, w.worst.getD 0, w.badCount, w.count⟩ :: deviationEntries (a + 1) rest
    else deviationEntries (a + 1) rest

/-- A formed record is appended, or discarded and counted lost when the log is full; RECORDS and LOST are reported
(R178, R180). -/
def State.appendDeviation (s : State) (r : DeviationRecord) : State :=
  let s := s.report Summary.addRecord
  if s.witness.log.length < Config.deviationLogDepth then
    ({ s with witness := { s.witness with log := s.witness.log ++ [r] } } : State).followLog
  else
    (({ s with witness := { s.witness with lost := stopAt 65535 (s.witness.lost + 1) } } : State).raise .devlost).report
      Summary.addLost

/-- The frame in progress is closed: a record is formed when some axis had a bad comparison (R175, R177). -/
def State.closeFrame (s : State) : State :=
  let entries := deviationEntries 0 s.witness.axes
  if entries.isEmpty then s
  else
    let start := s.witness.frameStart.getD ⟨0, 0⟩
    s.appendDeviation ⟨start.timelineFrame, start.passFrame, entries⟩

/-- The accumulators of every axis are emptied (R175, R186). -/
def State.emptyAccumulators (s : State) : State :=
  { s with witness := { s.witness with axes := s.witness.axes.map WitnessAxis.emptyFrame } }

/-- The frame that the boundary just made opens: the whole frames of S and the advance count (R175). -/
def State.openedFrame (s : State) : FrameStart := ⟨(s.timebase.position.getD 0) / 65536, s.timebase.advances⟩

/-- A boundary reaches the witness unit with the frame it opens; `closes` when it was made in RUNNING (R175). -/
def State.witnessBoundary (s : State) (closes : Bool) (start : FrameStart) : State :=
  let s := (if closes then s.closeFrame else s).emptyAccumulators
  if s.pass.state = .idle then s
  else { s with witness := { s.witness with frameStart := some start } }

/-- The deviation log is emptied and DEVLOG follows it (R180). -/
def State.emptyLog (s : State) : State :=
  ({ s with witness := { s.witness with log := [] } } : State).followLog

/-- ABORT, CLEAR and PASS RESET end the frame in progress without a record (R186). -/
def State.endFrame (s : State) : State :=
  let s := s.emptyAccumulators
  { s with witness := { s.witness with frameStart := none } }

end Sys2Proof.Machine
end

