-- ==== Sys2Proof/Machine/Lines.lean ====
section
/-! DEFINITION. The line queue's shared operations: fetching, entry, retirement, lookahead, coherence (chapter 6). -/

namespace Sys2Proof.Machine

/-- The pass keeps a line queue: REPLAY or WITNESS, not IDLE (R99). -/
def State.queueActive (s : State) : Bool := s.pass.state != .idle && s.readsTake

/-- A line's tag is good for line i of the pass's take, by the root's numbers (R44, R103). -/
def Geometry.tagGood (g : Geometry) (i : Nat) (words : List Word) : Bool :=
  Machine.tagGood (words.headD 0) (g.offset + i) g.root

/-- The byte address of word w of line i of the pass's take (R101). -/
def Geometry.wordAddress (g : Geometry) (i w : Nat) : Nat :=
  g.base + ((g.offset + i) * (1 + g.trackCount) + w) * 4

/-! ### Fetching (R101 to R103) -/

/-- The fetcher starts a line when the four conditions of R101 hold together. -/
def State.startFetch (s : State) : State :=
  match s.lineQueue.geometry, s.lineQueue.nextFetch, s.lineQueue.assembly with
  | some g, some i, none =>
    if s.queueActive ∧ s.pass.state ≠ .ending ∧ s.lineQueue.lines.length < Config.lineQueueDepth ∧ i < g.lines then
      { s with lineQueue := { s.lineQueue with assembly := some ⟨i, [], false⟩, nextFetch := some (i + 1) } }
    else s
  | _, _, _ => s

/-- A complete line is checked by its tag and joins the queue at its tail (R103). -/
def State.lineEntry (s : State) (g : Geometry) (i : Nat) (words : List Word) : State :=
  let good := g.tagGood i words
  let s := ({ s with lineQueue := { s.lineQueue with lines := s.lineQueue.lines ++ [⟨i, words, good⟩], assembly := none } } :
    State)
  if good then s else (s.raise .tag).report Summary.addTagFail

/-- A fetch read completes with the next word of the line in assembly (R102). -/
def State.fetchReadComplete (s : State) (data : Word) : State :=
  match s.lineQueue.geometry, s.lineQueue.assembly with
  | some g, some a =>
    let words := a.words ++ [data]
    if words.length = 1 + g.trackCount then s.lineEntry g a.index words
    else { s with lineQueue := { s.lineQueue with assembly := some ⟨a.index, words, false⟩ } }
  | _, _ => s

/-! ### The current line and retirement (R104 to R106) -/

/-- Lines below CURRENT_LINE − 1 are retired (R105). -/
def LineQueue.retire (q : LineQueue) (cur : Nat) : LineQueue :=
  { q with lines := q.lines.filter fun l => cur ≤ l.index + 1 }

/-- The fetcher that has fallen behind CURRENT_LINE − 1 restarts there; a stale line in assembly is abandoned and a read
in flight for it is discarded (R106). -/
def State.restartFetch (s : State) (cur : Nat) : State :=
  match s.lineQueue.nextFetch with
  | some i =>
    if i + 1 < cur then
      let s := ({ s with lineQueue := { s.lineQueue with nextFetch := some (cur - 1) } } : State)
      match s.lineQueue.assembly with
      | some a =>
        if a.index + 1 < cur then
          ({ s with lineQueue := { s.lineQueue with assembly := none } } : State).dropDownstream .fetchRead
        else { s with lineQueue := { s.lineQueue with nextFetch := some (max (cur - 1) (a.index + 1)) } }
      | none => s
    else s
  | none => s

/-- An evaluation of the position at line index s (before clamping): CURRENT_LINE never decreases, then retirement
(R104, R105). -/
def State.evaluateLine (st : State) (line : Nat) : State :=
  match st.lineQueue.geometry, st.lineQueue.currentLine with
  | some g, some cur =>
    let cur := max cur (min line (g.lines - 1))
    ({ st with lineQueue := { (st.lineQueue.retire cur) with currentLine := some cur } } : State).restartFetch cur
  | _, _ => st

/-- The lines per frame of the pass. -/
def State.passK (s : State) : Nat := (s.pass.context.map (·.k)).getD 1

/-- A boundary reaches the take engine: an evaluation at the S it hands on (R104). -/
def State.lineQueueBoundary (s : State) : State :=
  if s.queueActive then s.evaluateLine ((s.timebase.position.getD 0) * s.passK / 65536) else s

/-! ### Lookahead and urgency (R107) -/

/-- The queued lines beyond the four a cubic interpolation at CURRENT_LINE needs (R107). -/
def LineQueue.lookahead (q : LineQueue) : Nat :=
  match q.currentLine with
  | some cur => q.lines.countP fun l => cur + 2 < l.index
  | none => 0

/-- The take still has unfetched lines (R107). -/
def LineQueue.unfetched (q : LineQueue) : Bool :=
  q.assembly.isSome || (match q.geometry, q.nextFetch with
    | some g, some i => decide (i < g.lines)
    | _, _ => false)

/-- The take engine is urgent on the line queue's account (R107). -/
def State.lineUrgent (s : State) : Bool :=
  s.readsTake && (s.pass.state == .armed || s.pass.state == .preroll || s.pass.state == .running || s.pass.state == .parked)
    && decide (s.lineQueue.lookahead < 4) && s.lineQueue.unfetched

/-- The lines readiness requires are queued (R55, R114). -/
def State.linesReady (s : State) : Bool :=
  match s.lineQueue.geometry, s.pass.context with
  | some g, some c =>
    let s0 := c.startFrame * c.k
    let lo := s0 - 1
    let hi := min (s0 + 2) (g.lines - 1)
    (List.range (hi + 1 - lo)).all fun d => s.lineQueue.lines.any fun l => l.index == lo + d
  | _, _ => false

/-! ### Coherence (R110 to R113) -/

/-- The bits of a bus word that a set of lanes carries: lane 0 is bits 7 to 0 (R201). -/
def laneMask (lanes : BitVec 4) : Word :=
  (if lanes.getLsbD 0 then 0x000000FF else 0) ||| (if lanes.getLsbD 1 then 0x0000FF00 else 0) |||
  (if lanes.getLsbD 2 then 0x00FF0000 else 0) ||| (if lanes.getLsbD 3 then 0xFF000000 else 0)

/-- A word after a write of some of its lanes (R111). -/
def mergeLanes (old new : Word) (lanes : BitVec 4) : Word :=
  (old &&& ~~~ laneMask lanes) ||| (new &&& laneMask lanes)

/-- The word of the pass's take that a byte address concerns: line i and word w (R110). -/
def State.noticeTarget (s : State) (addr : Nat) : Option (Nat × Nat) :=
  match s.lineQueue.geometry with
  | none => none
  | some g =>
    match s.entry g.root with
    | none => none
    | some e =>
      if g.base ≤ addr ∧ addr < g.base + e.lines * lineBytes g.trackCount then
        let q := (addr - g.base) / 4
        let r := q / (1 + g.trackCount)
        let w := q % (1 + g.trackCount)
        if g.offset ≤ r ∧ r - g.offset < g.lines then some (r - g.offset, w) else none
      else none

/-- Word w of a list of words is merged. -/
def mergeWord (words : List Word) (w : Nat) (data : Word) (lanes : BitVec 4) : List Word :=
  words.modify w fun old => mergeLanes old data lanes

/-- A queued line after a notice for its word w; an update of the tag word is checked again (R111, R113). -/
def QueuedLine.notice (l : QueuedLine) (g : Geometry) (w : Nat) (data : Word) (lanes : BitVec 4) : QueuedLine :=
  let words := mergeWord l.words w data lanes
  if w = 0 then { l with words := words, usable := g.tagGood l.index words } else { l with words := words }

/-- A coherence notice of a forwarded write that completed (R110 to R113). -/
def State.coherenceNotice (s : State) (addr : Nat) (data : Word) (lanes : BitVec 4) : State :=
  if s.queueActive then
    match s.lineQueue.geometry, s.noticeTarget addr with
    | some g, some (i, w) =>
      let turnedBad := s.lineQueue.lines.any fun l =>
        l.index == i && l.usable && !(l.notice g w data lanes).usable
      let lines := s.lineQueue.lines.map fun l => if l.index = i then l.notice g w data lanes else l
      let assembly := s.lineQueue.assembly.map fun a =>
        if a.index = i then { a with words := mergeWord a.words w data lanes } else a
      let s := ({ s with lineQueue := { s.lineQueue with lines := lines, assembly := assembly } } : State)
      if turnedBad then s.raise .tag else s
    | _, _ => s
  else s

/-- The line queue is emptied and the line in assembly abandoned; a read in flight is discarded at the port (R114). -/
def State.clearLineQueue (s : State) : State :=
  ({ s with lineQueue := State.emptyLineQueue } : State).dropDownstream .fetchRead

end Sys2Proof.Machine
end

