-- ==== Sys2Proof/Machine/Recorder.lean ====
section
/-! DEFINITION. Capturing lines at sample points and writing them out (chapter 5, R17, R84 to R95). -/

namespace Sys2Proof.Machine

/-- The samples of a captured line: each track's last forwarded value, 0 where there is none (R84). -/
def State.captureSamples (s : State) (tracks : AxisSet) : List Int :=
  (trackList tracks).map fun a => (s.axis a).lastForwarded.getD 0

/-- The flags of a captured line; the markers flag the first line of a group only (R85, R86). -/
def State.captureFlags (s : State) (tracks : AxisSet) (coincident : Bool) : LineFlags :=
  { unset := (trackList tracks).any fun a => (s.axis a).lastForwarded.isNone
    clamped := !coincident && (trackList tracks).any fun a => (s.axis a).clampSince
    saturated := !coincident && (trackList tracks).any fun a => (s.axis a).satSince
    coincident := coincident }

/-- The capture markers of some axes are cleared (R85, R83). -/
def State.clearMarkers (s : State) (axes : List Nat) : State :=
  axes.foldl (fun s a => s.onAxis a fun ax => { ax with clampSince := false, satSince := false }) s

/-- A queue that was empty gives the writer its first word: the sample in track place 1 (R92). -/
def writerFor (queue : List RecordLine) : Option WriterPosition :=
  if queue.isEmpty then none else some ⟨1, false⟩

/-- A line joins the tail of the record queue (R84, R88). -/
def State.appendLine (s : State) (line : RecordLine) : State :=
  let queue := s.recording.queue ++ [line]
  let writer := if s.recording.queue.isEmpty then writerFor queue else s.recording.writer
  { s with recording := { s.recording with queue := queue, writer := writer,
                                           highWater := max s.recording.highWater queue.length } }

def State.closeRecording (s : State) : State := { s with recording := { s.recording with isOpen := false } }

/-- The capture of line j at position p: dropped when CLOSED, an overrun when the queue is full, otherwise appended, and
the last line of the reservation closes the recording (R84, R85, R89, R90). -/
def State.captureLine (s : State) (c : PassContext) (p j : Nat) (coincident : Bool) : State :=
  if !s.recording.isOpen then s
  else if Config.recordQueueDepth ≤ s.recording.queue.length then
    (s.closeRecording.raise .overrun).reportCaptureEnd .overrun p
  else
    let line : RecordLine := ⟨j, s.captureSamples c.tracks, s.captureFlags c.tracks coincident⟩
    let s := (s.appendLine line).clearMarkers (trackList c.tracks)
    if c.maxLines = some (j + 1) then s.closeRecording.reportCaptureEnd .full p else s

/-- A group of sample-point events: lines j, j + 1, … in ascending order, every one after the first coincident
(R17, R86). -/
def State.captureGroup (s : State) (c : PassContext) (p : Nat) : Nat → Nat → Bool → State
  | 0, _, _ => s
  | n + 1, j, coincident => (s.captureLine c p j coincident).captureGroup c p n (j + 1) true

/-- The timebase evaluates the position at p for a RECORD pass: one sample-point event for each line index reached, and
the next sample point moves past them (R17). -/
def State.raisePoints (s : State) (p : Nat) : State :=
  match s.pass.context with
  | some c =>
    if c.mode = .record then
      let reached := p * c.k / 65536 + 1
      let j := s.timebase.nextPoint
      if j < reached then
        ({ s with timebase := { s.timebase with nextPoint := reached } } : State).captureGroup c p (reached - j) j false
      else s
    else s
  | none => s

/-! ### The writer (R92) -/

/-- The word after word w of a line of n tracks: samples 1 to n, then the tag, 0. -/
def nextWriterWord (n w : Nat) : Nat := if w < n then w + 1 else 0

/-- A record write completes: the writer goes on to the next word, and the completion of the tag write takes the line out
of the queue and counts it as written, and may drain the queue (R36, R92, R94). -/
def State.recordWriteComplete (s : State) (late : Bool) : State :=
  match s.pass.context, s.recording.writer with
  | some c, some wp =>
    if wp.word = 0 then
      let queue := s.recording.queue.tail
      let s := ({ s with recording := { s.recording with queue := queue, writer := writerFor queue } } : State)
      (s.onEntry c.take fun e => { e with written := e.written + 1 }).drainReport late
    else
      { s with recording := { s.recording with writer := some ⟨nextWriterWord (trackCount c.tracks) wp.word, false⟩ } }
  | _, _ => s

/-- The word the writer writes: its address and data (R92, R201). -/
def State.writerWord (s : State) : Option (Nat × Word) :=
  match s.pass.context, s.recording.queue, s.recording.writer with
  | some c, line :: _, some wp =>
    let n := trackCount c.tracks
    let data := if wp.word = 0 then tagWord line.index c.take line.flags
      else sampleWord (line.samples.getD (wp.word - 1) 0)
    some (c.base.getD 0 + (line.index * (1 + n) + wp.word) * 4, data)
  | _, _, _ => none

/-- The record queue is discarded and the recording closed; a write in flight completes at the port uncounted (R95). -/
def State.discardRecording (s : State) : State :=
  ({ s with recording := { s.recording with isOpen := false, queue := [], writer := none } } : State).dropDownstream .recordWrite

end Sys2Proof.Machine
end

