-- ==== Sys2Proof/Machine/Arbiter.lean ====
section
/-! DEFINITION. The memory path's shared operations: classification, completion upstream, the grant with its checks, the
arbiter, and `settle`, which ends every step that may free the port or make a request (chapter 8). -/

namespace Sys2Proof.Machine

/-- All four byte lanes are enabled (R134). -/
def fullWord (lanes : BitVec 4) : Bool := lanes == 0xF

/-- CLASS and AXIS of an address, by the window table and the region as they stand; PLAIN while a reset is in force
(R133, R148). -/
def State.classify (s : State) (addr : Nat) : TxnClass × Option Nat :=
  if s.resetControl.inForce then (.plain, none)
  else match s.targetAxis addr with
    | some a => (.target, some a)
    | none => match s.feedbackAxis addr with
      | some a => (.feedback, some a)
      | none => if s.inRegion addr then (.region, none) else (.plain, none)

/-- The upstream transaction completes: ready is asserted and the record is removed (R131). -/
def State.completeUpstream (s : State) (readData : Word) : State :=
  match s.memory.upstream with
  | some t =>
    { s with memory := { s.memory with upstream := none },
             lastUpstream := some ⟨t.address, t.write, if t.write then t.data else readData⟩ }
  | none => s

/-- A write is blocked for addressing a target word: PARTIAL is raised and counted (R137, R143). -/
def State.countPartial (s : State) : State :=
  ({ s with memory := { s.memory with partialBlocks := stopAt 65535 (s.memory.partialBlocks + 1) } } : State).raise
    .partialWrite

/-- A write is blocked by protection: PROTECT, the count, and the record of the first blocked address (R141). -/
def State.countProtect (s : State) (addr : Nat) : State :=
  ({ s with memory := { s.memory with
      protectBlocks := stopAt 65535 (s.memory.protectBlocks + 1),
      blockedAddress := some (s.memory.blockedAddress.getD addr) } } : State).raise .protect

/-! ### The take engine's request (R40, R92, R93, R101, R144) -/

/-- A verify read is in flight whose tag will be used. -/
def State.verifyInFlight (s : State) : Bool :=
  match s.memory.downstream with
  | some d => d.owner == .verifyRead && !d.discard
  | none => false

/-- The transaction the take engine has to issue next: pass work first, a verify read when there is none; none while its own
read or write is in flight (R92, R101, R144). -/
def State.takeRequest (s : State) : Option DownstreamTxn :=
  if s.resetControl.inForce then none
  else match s.recording.writer with
    | some wp =>
      if wp.inFlight then none
      else s.writerWord.map fun (addr, data) => ⟨.recordWrite, addr, true, 0xF, data, false, false⟩
    | none =>
      match s.lineQueue.geometry, s.lineQueue.assembly with
      | some g, some a =>
        if a.inFlight then none
        else some ⟨.fetchRead, g.wordAddress a.index a.words.length, false, 0xF, 0, false, false⟩
      | _, _ =>
        match s.directory.verifyOrder.head?, s.directory.verifyCursor with
        | some t, some i =>
          if s.verifyInFlight then none
          else (s.entry t).map fun e =>
            ⟨.verifyRead, e.base + i * lineBytes (trackCount e.tracks), false, 0xF, 0, false, false⟩
        | _, _ => none

/-- The take engine has pass work to request the port for: the writer whenever the record queue holds a line, also while its
own write is in flight (R93), the fetcher while it has a read to issue (R101, R144). That a fetch read or a verify read in
flight is no request is the model's reading (DEDUCED, log entry 22). -/
def State.passWork (s : State) : Bool :=
  !s.resetControl.inForce && (s.recording.writer.isSome ||
    (s.lineQueue.geometry.isSome && match s.lineQueue.assembly with
      | some a => !a.inFlight
      | none => false))

/-- The take engine has a request, as READ PATH shows it (R93, R144, R149; log entry 22). -/
def State.takeRequests (s : State) : Bool := s.passWork || s.takeRequest.isSome

/-- A request is urgent when it is pass work and the take engine is urgent on the line queue's or the record queue's
account (R93, R107, R146). -/
def State.takeUrgent (s : State) : Bool :=
  s.passWork && (s.lineUrgent || decide (12 ≤ s.recording.queue.length))

/-- The take engine's transaction starts on the downstream port (R132). -/
def State.startTake (s : State) (r : DownstreamTxn) : State :=
  let s := ({ s with memory := { s.memory with downstream := some r } } : State)
  match r.owner with
  | .recordWrite => { s with recording := { s.recording with
      writer := s.recording.writer.map fun w => { w with inFlight := true } } }
  | .fetchRead => { s with lineQueue := { s.lineQueue with
      assembly := s.lineQueue.assembly.map fun a => { a with inFlight := true } } }
  | _ => s

/-! ### The grant of a pass-through transaction (R140 to R143) -/

/-- The pass-through transaction starts downstream (R132). -/
def State.startPassThrough (s : State) (t : UpstreamTxn) (notice : Bool) : State :=
  { s with memory := { s.memory with
      upstream := some { t with phase := .downstream },
      downstream := some ⟨.passThrough, t.address, t.write, t.lanes, t.forwardData.getD t.data, false, notice⟩ } }

/-- What the checks at the grant decide for a pass-through transaction: blocked for addressing an enabled target word,
blocked by protection, or forwarded, with or without a coherence notice (R140, R143, R148). -/
inductive GrantDecision
  | blockPartial | blockProtected | forward (notice : Bool)
  deriving DecidableEq, Repr

def State.grantDecision (s : State) (t : UpstreamTxn) : GrantDecision :=
  if s.resetControl.inForce || !t.write then .forward false
  else if t.cls != .target && (s.targetAxis t.address).isSome then .blockPartial
  else
    let inRegion := t.cls == .region || s.inRegion t.address
    if inRegion && s.directory.wordProtected t.address then .blockProtected else .forward inRegion

/-- The pass-through transaction granted the port starts or is blocked (R140, R141, R143). -/
def State.grantPassThrough (s : State) (t : UpstreamTxn) : State :=
  match s.grantDecision t with
  | .blockPartial => s.countPartial.completeUpstream 0
  | .blockProtected => (s.countProtect t.address).completeUpstream 0
  | .forward notice => s.startPassThrough t notice

/-! ### The arbiter (R144, R145) -/

/-- The upstream transaction that requests the port (R144). -/
def State.waitingUpstream (s : State) : Option UpstreamTxn :=
  s.memory.upstream.filter fun t => t.phase == .waiting

def State.setUrgentRun (s : State) (n : Nat) : State := { s with memory := { s.memory with urgentRun := n } }

/-- The take engine is served alone: the count is incremented up to 4 when it is urgent, 0 otherwise (R145). -/
def State.grantTake (s : State) (r : DownstreamTxn) : State :=
  (s.setUrgentRun (if s.takeUrgent then min 4 (s.memory.urgentRun + 1) else 0)).startTake r

/-- One decision of the table of R145 between the requests present; a blocked pass-through grant is decided again with
pass-through no longer waiting. -/
def State.arbitrate (s : State) : State :=
  if s.memory.downstream.isSome then s
  else match s.waitingUpstream, s.takeRequest with
    | none, none => s
    | none, some r => s.grantTake r
    | some t, none => (s.setUrgentRun 0).grantPassThrough t
    | some t, some r =>
      if s.takeUrgent && decide (s.memory.urgentRun < 4) then s.grantTake r
      else
        let s := (s.setUrgentRun 0).grantPassThrough t
        if s.memory.downstream.isSome then s else s.grantTake r

/-- The end of a step: the fetcher starts a line when it may, and a free slot is decided (R101, R144); while a reset is in
force only pass-through traffic is served (R148). -/
def State.settle (s : State) : State := if s.resetControl.inForce then s.arbitrate else s.startFetch.arbitrate

end Sys2Proof.Machine
end

