-- ==== Sys2Proof/Machine/Interpolation.lean ====
section
/-! DEFINITION. The interpolator's arithmetic and its captured requests (chapter 7). -/

namespace Sys2Proof.Machine

/-! ### Line selection (R118, R119) -/

/-- The slot numbers, in order. -/
def slotNumbers : List Int := [-1, 0, 1, 2]

/-- The clamped line indices of the four slots at line index s of a take of `lines` lines: edge replication (R119). -/
def neededLines (s lines : Nat) : List Nat :=
  [min (s - 1) (lines - 1), min s (lines - 1), min (s + 1) (lines - 1), min (s + 2) (lines - 1)]

/-- Where a REPLAY or WITNESS write taken now reads the take: READ_AT, the line index s and the phase u (R118, R119). -/
def State.readPlace (s : State) (g : Geometry) : ReadAt × Nat × Nat :=
  let at_ (p : Nat) : Nat × Nat := (p * s.passK / 65536, p * s.passK % 65536)
  match s.pass.state with
  | .complete => (.lastLine, g.lines - 1, 0)
  | .running => (.position s.runningPosition, at_ s.runningPosition)
  | _ => (.frozen (s.timebase.position.getD 0), at_ (s.timebase.position.getD 0))

/-- The copy of a queued line, if it is queued (R108). -/
def LineQueue.copyOf (q : LineQueue) (i : Nat) : Option QueuedLine := q.lines.find? fun l => l.index == i

/-- The interpolator captures its inputs (R117): the evaluation of the position comes first (R104, R108), and a missing
needed line is one starvation (R109). -/
def State.requestInterpolation (s : State) (a : Nat) (mode : PassMode) : State :=
  match s.lineQueue.geometry, s.pass.context with
  | some g, some c =>
    let (readAt, sIndex, phase) := s.readPlace g
    let s := s.evaluateLine sIndex
    let slots := (neededLines sIndex g.lines).map fun i => (⟨i, s.lineQueue.copyOf i⟩ : SlotInput)
    let p := (s.axis a).entry.processing
    let req : InterpRequest :=
      { axis := a, mode := mode, interp := c.interp.getD .step, readAt := readAt, sIndex := sIndex, phase := phase,
        slots := slots, scale := p.scale, offset := p.offset, place := (trackPlace c.tracks a).getD 1 }
    let s := ({ s with interpolator := { s.interpolator with inFlight := some req } } : State)
    if slots.any fun sl => sl.line.isNone then (s.raise .starve).report Summary.addStarve else s
  | _, _ => s

/-! ### Samples and substitution (R120, R121) -/

/-- A slot is good when its copy is present and usable (R121). -/
def SlotInput.good (sl : SlotInput) : Bool :=
  match sl.line with
  | some l => l.usable
  | none => false

/-- The sample word of the axis's track place, as a signed number (R120). -/
def SlotInput.raw (sl : SlotInput) (place : Nat) : Int :=
  match sl.line with
  | some l => (l.words.getD place 0).toInt
  | none => 0

/-- The position in the list of the slot whose sample slot number k uses: itself when good, else the nearest good slot
below, else the nearest good slot above (R121). -/
def substitute (good : List Bool) (k : Nat) : Option Nat :=
  let isGood := fun i => good.getD i false
  match (List.range (k + 1)).reverse.find? isGood with
  | some i => some i
  | none => (List.range good.length).find? isGood

/-- For each slot the position of the slot whose sample it uses. -/
def InterpRequest.used (r : InterpRequest) : List (Option Nat) :=
  (List.range r.slots.length).map (substitute (r.slots.map SlotInput.good))

/-- For each slot the raw sample it uses, when some slot is good. -/
def InterpRequest.rawSamples (r : InterpRequest) : List Int :=
  r.used.map fun u => match u with
    | some i => (r.slots.getD i ⟨0, none⟩).raw r.place
    | none => 0

/-! ### Weights (R123, R124) -/

/-- The four weights over the common denominator 2^49, at phase u (R123, R124). -/
def weights (m : Interp) (u : Int) : List Int :=
  let one : Int := 65536
  match m with
  | .step => [0, 2 * one ^ 3, 0, 0]
  | .linear => [0, 2 * one ^ 2 * (one - u), 2 * one ^ 2 * u, 0]
  | .cubic =>
    [-u ^ 3 + 2 * u ^ 2 * one - u * one ^ 2, 3 * u ^ 3 - 5 * u ^ 2 * one + 2 * one ^ 3,
     -3 * u ^ 3 + 4 * u ^ 2 * one + u * one ^ 2, u ^ 3 - u ^ 2 * one]

/-- The sum of the products of weights and samples. -/
def weightedSum (ws ys : List Int) : Int := (List.zipWith (· * ·) ws ys).sum

/-- A / 2^63 rounded once, convergently: half goes to the even neighbour (R126). -/
def roundHalfEven (a : Int) : Int :=
  let d : Int := 9223372036854775808
  let q := a / d
  let rem := a % d
  if 2 * rem < d then q else if d < 2 * rem then q + 1 else if q % 2 = 0 then q else q + 1

/-- The accumulated value A = OFFSET × 2^63 + SCALE × Σ (R125). -/
def accumulate (scale offset sum : Int) : Int := offset * 9223372036854775808 + scale * sum

/-- The rounded value of the request, before its saturation (R125, R126). -/
def InterpRequest.rounded (r : InterpRequest) : Int :=
  roundHalfEven (accumulate r.scale r.offset
    (weightedSum (weights r.interp r.phase) (r.rawSamples.map saturate24)))

/-- A sample used with a weight other than zero lies outside the 24-bit range (R120). -/
def InterpRequest.sampleSaturates (r : InterpRequest) : Bool :=
  (List.zip (weights r.interp r.phase) r.rawSamples).any fun (w, y) => w != 0 && saturate24 y != y

/-- The outcome of the request: a value when some slot is good, else a hold of the previous result, else unavailable
(R121, R122, R127). -/
def InterpRequest.outcome (r : InterpRequest) (previous : Option Int) : InterpOutcome :=
  if r.slots.any SlotInput.good then .value (saturate24 r.rounded)
  else match previous with
    | some p => .hold p
    | none => .unavailable

/-- The interpolation counts a saturation: of a used sample or of its result (R120, R127). -/
def InterpRequest.saturates (r : InterpRequest) : Bool :=
  r.slots.any SlotInput.good && (r.sampleSaturates || saturate24 r.rounded != r.rounded)

/-- The slots of the last evaluation record (R130). -/
def InterpRequest.slotRecords (r : InterpRequest) : List SlotRecord :=
  List.zipWith (fun sl u => ⟨sl.index, sl.good, u.map fun i => slotNumbers.getD i 0⟩) r.slots r.used

/-- The last evaluation record (R130). -/
def InterpRequest.evalRecord (r : InterpRequest) (o : InterpOutcome) : EvalRecord :=
  { axis := r.axis, mode := r.mode, interp := r.interp, readAt := r.readAt, sIndex := r.sIndex, phase := r.phase,
    slots := r.slotRecords, outcome := o, saturated := r.saturates }

/-- The interpolation ends with an outcome: the record, the saturation's SAT, SATURATE and count, and the previous result
(R120, R127, R128, R130). -/
def State.finishInterpolation (s : State) (r : InterpRequest) (o : InterpOutcome) : State :=
  let s := ({ s with interpolator := ⟨none, some (r.evalRecord o)⟩ } : State)
  let s := if r.saturates then
      ((s.onAxis r.axis fun ax => { ax with sat := true }).raise .saturate).report Summary.addSaturate
    else s
  match o with
  | .value v => s.onAxis r.axis fun ax => { ax with previousResult := some v }
  | _ => s

end Sys2Proof.Machine
end

