-- ==== Sys2Proof/Machine/Targets.lean ====
section
/-! DEFINITION. The axis unit's shared operations: saturation at the taking, the three bounds, the hand-back, feedback,
pending settings (chapter 9). -/

namespace Sys2Proof.Machine

/-! ### The three bounds (R161, R162) -/

/-- What the bounds make of a candidate: the forwarded value, and whether a soft limit and the step limit changed it. -/
structure Bounded where
  value : Int
  clamped : Bool
  stepped : Bool
  deriving DecidableEq, Repr

/-- The step limit around the last forwarded value (R161 step 2). -/
def stepLimit (step : Int) (last : Option Int) (c : Int) : Int :=
  match last with
  | some l => if step = 0 then c else clampInt (l - step) (l + step) c
  | none => c

/-- Soft limit, step limit, soft limit again (R161), with what each changed (R162). -/
def applyBounds (p : Processing) (last : Option Int) (c : Int) : Bounded :=
  let c1 := clampInt p.min p.max c
  let c2 := stepLimit p.step last c1
  let c3 := clampInt p.min p.max c2
  ⟨c3, c1 != c || c3 != c2, c2 != c1⟩

/-- RECORD_INFO's CLAMPS follows the summary while the pass's entry is RECORDING (R37, R162). -/
def State.followClamps (s : State) : State :=
  match s.pass.context, s.pass.summary with
  | some c, some m =>
    s.onEntry c.take fun e =>
      if e.state = .recording then { e with recordInfo := e.recordInfo.map fun i => { i with clamps := m.clamps } } else e
  | _, _ => s

/-- One clamp is reported while the pass is not IDLE (R162). -/
def State.reportClamp (s : State) : State :=
  let s := s.report Summary.addClamp
  if s.mode = some .record ∧ s.pass.state ≠ .idle then s.followClamps else s

/-- The memory path fixes FORWARD_DATA and the transaction waits for the port (R136). -/
def State.fixForward (s : State) (v : Int) : State :=
  { s with memory := { s.memory with
      upstream := s.memory.upstream.map fun t => { t with forwardData := some (sampleWord v), phase := .waiting } } }

/-- The hand-back: the candidate is bounded with the limits as they stand, the value is recorded and handed to the memory
path (R161, R162, R163). -/
def State.handBack (s : State) (a : Nat) (c : Int) : State :=
  let ax := s.axis a
  let b := applyBounds ax.entry.processing ax.lastForwarded c
  let changed := b.clamped || b.stepped
  let s := s.onAxis a fun ax =>
    { ax with lastForwarded := some b.value, clamp := ax.clamp || b.clamped, stepped := ax.stepped || b.stepped,
              clampSince := ax.clampSince || changed }
  let s := if changed then (s.raise .clamp).reportClamp else s
  s.fixForward b.value

/-! ### The taking of a target write (R157 to R159) -/

/-- The saturation of the written data at the taking (R158). -/
def State.saturateWrite (s : State) (a : Nat) (v : Int) : State :=
  if saturate24 v = v then s
  else ((s.onAxis a fun ax => { ax with sat := true, satSince := true }).raise .saturate).report Summary.addSaturate

/-- The axis is a track of the pass's take (R159). -/
def State.isTrack (s : State) (a : Nat) : Bool :=
  match s.pass.context with
  | some c => c.tracks.getLsbD a
  | none => false

/-- The row of R159 for a write taken now; none is v itself, not held. -/
def State.writeRow (s : State) (a : Nat) : Option WriteRow :=
  if !s.isTrack a then none
  else match s.mode, s.pass.state with
    | some .replay, .armed => some .replay
    | some .replay, .preroll => some .replay
    | some .replay, .running => some .replay
    | some .replay, .parked => some .replay
    | some .replay, .complete => some .replay
    | some .witness, .running => if (s.axis a).entry.processing.source = .command then some .witness else none
    | _, _ => none

/-- The mode of the interpolation a row requests. -/
def WriteRow.mode : WriteRow → PassMode
  | .replay => .replay
  | .witness => .witness

/-- The axis unit takes a full-word target write with data v: it is handed back at once, or held for an interpolation
(R157 to R160, R164). -/
def State.takeTargetWrite (s : State) (a : Nat) (v : Int) : State :=
  let row := s.writeRow a
  let compare := s.pass.state == .running && (s.axis a).entry.processing.source == .command
  let s := s.saturateWrite a v
  match row with
  | none => s.handBack a (saturate24 v)
  | some row =>
    ({ s with writeInProcessing := some ⟨a, saturate24 v, row, compare⟩ } : State).requestInterpolation a row.mode

/-- The candidate of a held write from the interpolation's outcome (R160). -/
def WriteInProcessing.candidate (w : WriteInProcessing) (o : InterpOutcome) : Int :=
  match w.row, o with
  | .replay, .value r => r
  | .replay, .hold r => r
  | _, _ => w.value

/-- The comparison of a held write, v less the interpolator's result (R164). -/
def WriteInProcessing.difference (w : WriteInProcessing) (o : InterpOutcome) : Option Int :=
  if w.compare then
    match o with
    | .value r => some (w.value - r)
    | .hold r => some (w.value - r)
    | .unavailable => none
  else none

/-- A held write is handed back and its comparison handed over (R160, R163, R164). -/
def State.finishWrite (s : State) (w : WriteInProcessing) (o : InterpOutcome) (late : Bool) : State :=
  let s := (({ s with writeInProcessing := none } : State).handBack w.axis (w.candidate o))
  match w.difference o with
  | some e => s.comparison w.axis e late
  | none => s

/-- A write held when the pass returns to IDLE is finished as in IDLE, its interpolation without an outcome (R129, R166). -/
def State.finishHeldWrite (s : State) : State :=
  match s.writeInProcessing with
  | some w =>
    ({ s with writeInProcessing := none, interpolator := { s.interpolator with inFlight := none } } : State).handBack w.axis
      w.value
  | none => s

/-! ### Feedback (R139, R165) -/

/-- A full-word feedback read of an axis completes with the data returned (R165). -/
def State.observeFeedback (s : State) (a : Nat) (data : Word) (late : Bool) : State :=
  let ax := s.axis a
  if ax.entry.feedbackAddr.isNone then s
  else
    let f := saturate24 data.toInt
    let s := s.onAxis a fun ax => { ax with lastFeedback := some f }
    match ax.lastForwarded with
    | some l =>
      if ax.entry.processing.source = .following ∧ s.takesComparisons then s.comparison a (f - l) late else s
    | none => s

/-! ### Pending settings (R151) -/

/-- A pending copy becomes active and absent (R151). -/
def Axis.activate (ax : Axis) : Axis :=
  match ax.pending with
  | some p => { ax with entry := { ax.entry with processing := p }, pending := none }
  | none => ax

/-- A boundary reaches the axis unit, or PASS RESET is taken: every pending copy becomes active (R71, R151). -/
def State.activatePending (s : State) : State := { s with axes := s.axes.map Axis.activate }

end Sys2Proof.Machine
end

