-- ==== Sys2Proof/Machine/PassSteps.lean ====
section
/-! DEFINITION. What the pass controller and the camera status receiver do at a boundary (chapters 3 and 4). -/

namespace Sys2Proof.Machine

/-! ### The camera status receiver (R76 to R78) -/

def CameraRule.capacity : CameraRule → Nat
  | .fourOfFive => 5 | .eightOfTen => 10

def CameraRule.needed : CameraRule → Nat
  | .fourOfFive => 4 | .eightOfTen => 8

/-- The held word or NONE is filed; at capacity the oldest slot is dropped (R77). -/
def Camera.fileSlot (c : Camera) : Camera :=
  { c with ring := (c.ring ++ [c.held]).drop (c.ring.length + 1 - c.rule.capacity), held := none }

/-- The word held in enough slots of the ring (R78). -/
def Camera.agreeing (c : Camera) : Option Byte :=
  (c.ring.filterMap id).find? fun w => decide (c.rule.needed ≤ c.ring.count (some w))

/-- A boundary reaches the receiver: a slot is filed, and an agreeing word that differs becomes the declared word and
raises CAMERA (R77, R78). -/
def State.cameraBoundary (s : State) : State :=
  let c := s.camera.fileSlot
  match c.agreeing with
  | some w =>
    if w = c.declared then { s with camera := c }
    else ({ s with camera := { c with declared := w } } : State).raise .camera
  | none => { s with camera := c }

/-! ### Declarations (R59, R64) -/

/-- A new declared word reaches the pass controller: with TRIGGER CAMERA a fall of ROLL ends a pre-roll or is a cut
(R59, R64). -/
def State.declarationReaches (s : State) (old new : Byte) : State :=
  if wordRoll old ∧ ¬ wordRoll new ∧ s.pass.context.map (·.trigger) = some .camera then
    match s.pass.state with
    | .preroll =>
      let back : PassState := match s.pass.preroll with
        | some ⟨_, .resume⟩ => .parked
        | _ => .armed
      ({ s with pass := { s.pass with preroll := none } } : State).setPass back
    | .running => s.placeRequest .cut
    | .parked => s.placeRequest .cut
    | _ => s
  else s

/-! ### Entering RUNNING (R58) -/

/-- RECORD_INFO becomes present (R37). -/
def State.makeRecordInfo (s : State) : State :=
  match s.pass.context with
  | some c =>
    if c.mode = .record then
      s.onEntry c.take fun e =>
        { e with recordInfo := some ⟨s.timebase.active.nNom, c.pace, wordMark s.camera.declared,
                                     (s.pass.summary.map (·.clamps)).getD 0⟩ }
    else s
  | none => s

/-- The first entry to RUNNING copies MARK and makes RECORD_INFO (R58). -/
def State.firstRun (s : State) : State :=
  if s.pass.hasRun then s
  else (({ s with pass := { s.pass with hasRun := true } } : State).onSummary fun m =>
      { m with mark := some (wordMark s.camera.declared) }).makeRecordInfo

/-- The pass enters RUNNING at a boundary, and the timebase evaluates P = S (R17, R58). -/
def State.enterRunning (s : State) : State :=
  let s := ({ s with pass := { s.pass with preroll := none, pending := none } } : State).firstRun.setPass .running
  s.raisePoints (s.timebase.position.getD 0)

/-! ### The boundary by pass state (R56, R57, R60, R66, R67) -/

/-- The pass is ready (R55). -/
def State.ready (s : State) : Bool := s.mode == some .record || s.linesReady

/-- The trigger holds at a boundary with this LOCK state (R13, R56). -/
def State.triggerHolds (s : State) (lock : LockState) : Bool :=
  match s.pass.context with
  | some c =>
    s.ready && (!c.requireLock || lock == .locked)
      && (c.trigger == .immediate || (wordRoll s.camera.declared && wordSpeed s.camera.declared))
  | none => false

/-- A pending request is applied at a boundary and the slot is emptied (R60 to R65). -/
def State.applyRequest (s : State) : Request → State
  | .stop => s.endPass .stopped
  | .cut => s.endPass .cut
  | .divergedStop => s.endPass .divergedStop
  | .park => s.emptySlot.setPass .parked
  | .resume => s.enterRunning

def State.applyPending (s : State) : State :=
  match s.pass.pending with
  | some r => s.applyRequest r
  | none => s

/-- The end condition of the mode at a boundary taken in RUNNING, and its outcome; LENGTH and the end of the take are looked
at only when the boundary made a timeline advance (R60, R66, R67). -/
def State.endCondition (s : State) (b : HandedOn) : Option PassOutcome :=
  match s.pass.context with
  | none => none
  | some c =>
    if b.limit then some (if c.mode = .record then .full else .takeEnd)
    else if !b.advanced then none
    else if c.mode = .record then
      if s.timebase.advances = (if c.length.getD 0 = 0 then 65536 else c.length.getD 0) then some .stopped else none
    else match s.lineQueue.geometry with
      | some g => if (g.lines - 1) * 65536 ≤ (b.position.getD 0) * c.k then some .takeEnd else none
      | none => none

/-- PREROLL is entered with a count and an origin (R56, R63). -/
def State.enterPreroll (s : State) (n : Nat) (o : Origin) : State :=
  ({ s with pass := { s.pass with preroll := some ⟨n, o⟩ } } : State).setPass .preroll

/-- A boundary reaches the pass controller with what the timebase hands on (R13, R56, R57, R60). -/
def State.passBoundary (s : State) (b : HandedOn) : State :=
  match s.pass.state with
  | .armed =>
    if s.triggerHolds b.lock then
      match (s.pass.context.map (·.preroll)).getD 0 with
      | 0 => s.enterRunning
      | n => s.enterPreroll n .first
    else s
  | .preroll =>
    match s.pass.preroll with
    | some p =>
      if p.count ≤ 1 then s.enterRunning
      else { s with pass := { s.pass with preroll := some { p with count := p.count - 1 } } }
    | none => s.enterRunning
  | .running =>
    match s.endCondition b with
    | some o => s.endPass o
    | none => s.applyPending
  | .parked => s.applyPending
  | _ => s

/-- The declared word as the pass controller reads it. -/
def State.withDeclared (s : State) (w : Byte) : State := { s with camera := { s.camera with declared := w } }

/-- A boundary that the camera status receiver has taken, and the declaration it made of `new` after `old`, reach the pass
controller in the order given; a boundary that comes first is taken with the old word (R56, R59, R64, R79). DESIGN CHOICE
(log entry 25): the two come one right after the other, so no divergence report or other event of the instant comes between
them, which R61, R79 and R183 leave open. -/
def State.controllerBoundary (s : State) (old new : Byte) (declarationFirst : Bool) (b : HandedOn) : State :=
  if new = old then s.passBoundary b
  else if declarationFirst then (s.declarationReaches old new).passBoundary b
  else (((s.withDeclared old).passBoundary b).withDeclared new).declarationReaches old new

/-! ### The end of a pass by command (R38, R70, R95, R114, R147, R166, R186) -/

/-- The frame offset brought up to date; a change raises SLIP and is reported (R20). -/
def State.updateOffset (s : State) : State :=
  let off := clampInt (-32767) 32767 ((s.timebase.passPulses : Int) - s.timebase.advances)
  if off = s.timebase.frameOffset then s
  else
    let slips := stopAt 65535 (s.timebase.slips + 1)
    (({ s with timebase := { s.timebase with frameOffset := off, slips := slips } } : State).raise .slip).report fun m =>
      { m with frameOffset := off, slips := slips }

/-- The pass returns to IDLE: no position, no pre-roll, no request, and no report on its way finds a pass to act on (R14,
R65, R69, R70, R94). -/
def State.toIdle (s : State) : State :=
  ({ s with due := s.due.filter fun d => !d.isReport
            pass := { s.pass with pending := none, preroll := none }
            timebase := { s.timebase with position := none } } : State).setPass .idle

/-- What ABORT does, in its order (R70), with the held write finished as in IDLE (R166) and the witness frame ended
(R186). -/
def State.abortPass (s : State) : State :=
  let s := s.updateOffset
  let s := (s.setOutcome .aborted).toIdle
  let s := s.clearLineQueue.discardRecording
  let s := s.finishRecording true
  s.endFrame.finishHeldWrite

end Sys2Proof.Machine
end

