-- ==== Sys2Proof/Machine/Boundaries.lean ====
section
/-! DEFINITION. The timebase's shared operations: lock states and marks, the making of a boundary, the evaluation of a
pulse (chapter 1). -/

namespace Sys2Proof.Machine

/-! ### Lock states and marks (R3 to R10) -/

/-- Every change of lock state raises LOCK (R10). -/
def State.setLock (s : State) (l : LockState) : State :=
  if s.timebase.lock = l then s else ({ s with timebase := { s.timebase with lock := l } } : State).raise .lock

/-- The watch of R9 over the last flywheel boundary ends. -/
def State.clearWatch (s : State) : State :=
  { s with timebase := { s.timebase with watching := false, pulseNear := false, pulseBefore := false } }

/-- Every entry to FREE empties the run, lock pending, the holdover count and the history (R3). -/
def State.enterFree (s : State) : State :=
  ({ s with timebase := { s.timebase with run := 0, lockPending := false, holdoverCount := 0, history := [] } } :
    State).clearWatch.setLock .free

/-- A mark made in LOCKED joins the history; 3 or more bad marks begin HOLDOVER (R7). -/
def State.addMark (s : State) (m : Mark) : State :=
  let history := addToHistory Config.qualificationDepth s.timebase.history m
  let s := ({ s with timebase := { s.timebase with history := history } } : State)
  if 3 ≤ badMarks history then
    ({ s with timebase := { s.timebase with run := 0, holdoverCount := 0 } } : State).setLock .holdover
  else s

/-- LOCKED is entered with the history emptied (R4, R7, R9). -/
def State.enterLocked (s : State) : State :=
  ({ s with timebase := { s.timebase with run := 8, lockPending := false, history := [] } } : State).clearWatch.setLock
    .locked

/-- HOLDOVER becomes FREE by its own limit: a sync loss while the pass is not IDLE (R8, R10). -/
def State.loseSync (s : State) : State := (s.report fun m => { m with syncLost := true }).enterFree

/-! ### What a boundary's cause does to the lock state (R13) -/

/-- A pulse that enters LOCKED: the boundary adds its good mark after the emptying (R7). -/
def State.causeRelock (s : State) : State := s.enterLocked.addMark .good

/-- A regular pulse in LOCKED (R5). -/
def State.causePulse (s : State) : State := s.clearWatch.addMark .good

/-- A substitution in LOCKED (R6). -/
def State.causeSubstituted (s : State) : State := s.clearWatch.addMark .bad

/-- A flywheel boundary: in HOLDOVER it counts, and begins the watch of R9; above HOLDOVER_LIMIT it ends HOLDOVER
(R8, R9). -/
def State.causeFlywheel (s : State) : State :=
  if s.timebase.lock = .holdover then
    let n := s.timebase.holdoverCount + 1
    let s := ({ s with timebase := { s.timebase with
      holdoverCount := n, watching := true, pulseNear := s.timebase.pulseBefore, pulseBefore := false } } : State)
    if s.timebase.active.holdoverLimit < n then s.loseSync else s
  else s

/-- Pending settings become active and the lock state becomes FREE (R23). -/
def State.applySettings (s : State) (p : TimebaseSettings) : State :=
  ({ s with timebase := { s.timebase with active := p, pending := none } } : State).enterFree

/-! ### Making a boundary (R12, R13, R16) -/

/-- The boundary record is written and the flywheel restarts; the period is the interval when this boundary and the one
before opened LOCKED frames, N_NOM otherwise (R11, R12). -/
def State.writeRecord (s : State) (kind : BoundaryKind) : State :=
  let t := s.timebase
  let period := if t.record.map (·.lock) = some .locked ∧ t.lock = .locked then t.flywheel else t.active.nNom
  { s with timebase := { t with record := some ⟨t.refTime, kind, period, t.lock⟩, flywheel := 0 } }

/-- The advance would take S to 65536 frames or beyond (R16). -/
def State.atTimelineLimit (s : State) : Bool :=
  decide (Config.timelineLimit ≤ s.timebase.position.getD 0 + s.pace16)

/-- A timeline advance (R16). -/
def State.advance (s : State) : State :=
  let n := stopAt Config.countLimit (s.timebase.advances + 1)
  ({ s with timebase := { s.timebase with position := some (s.timebase.position.getD 0 + s.pace16), advances := n } } :
    State).report fun m => { m with frames := n }

/-- The sample points at or below S raise their events (R17). -/
def State.raiseToS (s : State) : State := s.raisePoints (s.timebase.position.getD 0)

/-- The boundary's own work up to its record (R13): pending settings, else the cause's lock update; then the record. -/
def State.openFrame (s : State) (kind : BoundaryKind) (cause : State → State) : State :=
  (match s.timebase.pending with
    | some p => s.applySettings p
    | none => cause s).writeRecord kind

/-- The captures of the boundary's own advance come before the pass controller takes the boundary; they do when it takes
the boundary later in the instant. -/
def capturesFirst (order : BoundaryOrder) : Bool := order.captureFirst || order.controllerLate

/-- What the timebase hands on with the boundary it has just made (R13). -/
def State.handedOn (s : State) (kind : BoundaryKind) (advanced limit : Bool) : HandedOn :=
  ⟨kind, s.timebase.lock, s.timebase.position, advanced, limit⟩

/-- The boundary was made in RUNNING: there a timeline advance is made or the timeline limit is reached (R16). -/
def HandedOn.inRunning (b : HandedOn) : Bool := b.advanced || b.limit

/-- The witness unit takes the boundary, at once or later in the instant (R175, R176). -/
def State.toWitness (s : State) (order : BoundaryOrder) (b : HandedOn) : State :=
  if order.witnessLate then s.deliverLater (.witness b.inRunning s.openedFrame)
  else s.witnessBoundary b.inRunning s.openedFrame

/-- The camera status receiver takes the boundary, and the pass controller takes it at once or later in the instant, with
the captures of the boundary's own advance before or after it and the drain report behind it (R67, R79, R89, R90, R94,
R176). -/
def State.toController (s : State) (order : BoundaryOrder) (b : HandedOn) : State :=
  let old := s.camera.declared
  let s := s.cameraBoundary
  let new := s.camera.declared
  if order.controllerLate then
    s.deliverLater (.controller b old new order.declarationFirst order.reportsLate)
  else
    let s := s.controllerBoundary old new order.declarationFirst b
    let s := if b.advanced && s.mode == some .record && !capturesFirst order then s.raiseToS else s
    s.drainReport order.reportsLate

/-- The hand-over of a boundary (R13): axis unit, witness unit, take engine, camera status receiver and pass controller, and
the free slot at the end. -/
def State.handOver (s : State) (order : BoundaryOrder) (b : HandedOn) : State :=
  (((s.activatePending.toWitness order b).lineQueueBoundary).toController order b).settle

/-- A block takes what another sent it at this instant (R94, R175, R176, R183). The arbiter's decision is the `settle` that
follows every delivery (R144). -/
def State.deliver (s : State) : Delivery → State
  | .witness closes start => s.witnessBoundary closes start
  | .controller b old new declarationFirst reportsLate =>
    (s.controllerBoundary old new declarationFirst b).drainReport reportsLate
  | .divergence => s.divergenceReport
  | .drain => s.drainCheck
  | .slot => s

/-- The first of the deliveries of this instant is made. -/
def State.deliverNext (s : State) : State :=
  match s.due with
  | d :: rest => (({ s with due := rest } : State).deliver d).settle
  | [] => s

/-- A boundary is made and handed to every block (R13, R16, R20). -/
def State.makeBoundary (s : State) (kind : BoundaryKind) (order : BoundaryOrder) (cause : State → State) : State :=
  let inRunning := s.pass.state == .running
  let keepsOffset := s.runningOrParked
  let s := s.openFrame kind cause
  let limit := inRunning && s.atTimelineLimit
  let advanced := inRunning && !limit
  let s := if advanced then s.advance else s
  let b := s.handedOn kind advanced limit
  let s := if advanced && s.mode == some .record && capturesFirst order then s.raiseToS else s
  let s := if keepsOffset then s.updateOffset else s
  s.handOver order b

/-! ### The evaluation of a pulse (R2, R4, R5, R9) -/

/-- An interval within N_NOM − W to N_NOM + W (R2). -/
def Timebase.regularInterval (t : Timebase) (i : Nat) : Bool :=
  decide (t.active.nNom ≤ i + t.active.w ∧ i ≤ t.active.nNom + t.active.w)

/-- Regular in FREE and ACQUIRE: by the interval from the previous non-runt pulse (R2). -/
def Timebase.regularByPulse (t : Timebase) : Bool :=
  match t.interval with
  | some i => t.regularInterval i
  | none => false

/-- At most W after the last boundary (R2, HOLDOVER). -/
def Timebase.justAfter (t : Timebase) : Bool := decide (t.flywheel ≤ t.active.w)

/-- At most W before the flywheel's next boundary (R2, HOLDOVER). -/
def Timebase.justBefore (t : Timebase) : Bool := decide (t.active.nNom ≤ t.flywheel + t.active.w)

/-- A pulse evaluated in FREE (R3). -/
def State.pulseInFree (s : State) : State :=
  if s.timebase.regularByPulse then
    ({ s with timebase := { s.timebase with run := 1 } } : State).setLock .acquire
  else { s with timebase := { s.timebase with run := 0 } }

/-- A pulse evaluated in ACQUIRE (R4). -/
def State.pulseInAcquire (s : State) (order : BoundaryOrder) : State :=
  if s.timebase.regularByPulse then
    if 8 ≤ s.timebase.run + 1 then
      if s.runningOrParked then { s with timebase := { s.timebase with run := 8, lockPending := true } }
      else s.makeBoundary .pulse order State.causeRelock
    else { s with timebase := { s.timebase with run := s.timebase.run + 1 } }
  else s.enterFree

/-- A pulse evaluated in LOCKED (R5, R7). -/
def State.pulseInLocked (s : State) (order : BoundaryOrder) : State :=
  if s.timebase.regularInterval s.timebase.flywheel then s.makeBoundary .pulse order State.causePulse
  else s.addMark .bad

/-- A pulse evaluated in HOLDOVER (R9). -/
def State.pulseInHoldover (s : State) (order : BoundaryOrder) : State :=
  let t := s.timebase
  if t.justAfter || t.justBefore then
    if 8 ≤ t.run + 1 then
      if t.justBefore then s.makeBoundary .pulse order State.causeRelock else s.enterLocked
    else { s with timebase := { t with run := t.run + 1, pulseNear := t.pulseNear || t.justAfter,
                                       pulseBefore := t.pulseBefore || t.justBefore } }
  else { s with timebase := { t with run := 0 } }

/-- The evaluation of a non-runt pulse by the rule of the lock state in force (R2). -/
def State.evaluatePulse (s : State) (order : BoundaryOrder) : State :=
  match s.timebase.lock with
  | .free => s.pulseInFree
  | .acquire => s.pulseInAcquire order
  | .locked => s.pulseInLocked order
  | .holdover => s.pulseInHoldover order

/-- A pulse whose interval multiplied by 16 is less than N_NOM is a runt (R1). -/
def Timebase.isRunt (t : Timebase) : Bool :=
  match t.interval with
  | some i => decide (i * 16 < t.active.nNom)
  | none => false

/-- A non-runt pulse is counted when the pass is in RUNNING or PARKED (R1, R19). -/
def State.countPulse (s : State) : State :=
  if s.runningOrParked then
    { s with timebase := { s.timebase with passPulses := stopAt Config.countLimit (s.timebase.passPulses + 1) } }
  else s

/-- A rising edge of the frame sync line at this instant (R1). -/
def State.pulse (s : State) (order : BoundaryOrder) : State :=
  if s.timebase.isRunt then s
  else
    let s := s.countPulse.evaluatePulse order
    { s with timebase := { s.timebase with interval := some 0 } }

end Sys2Proof.Machine
end

