-- ==== Sys2Proof/Machine/Resets.lean ====
section
/-! DEFINITION. The hardware reset: what its begin abandons and what its end leaves (R148, R198 to R200, R206, and every
block's reset values). -/

namespace Sys2Proof.Machine

/-- The upstream transaction when a reset begins: in PHASE AT_AXIS or WAITING it is forwarded as PLAIN with its data as
written; downstream it completes as it stands, handed to no block (R148). -/
def UpstreamTxn.atReset (t : UpstreamTxn) : UpstreamTxn :=
  match t.phase with
  | .downstream => { t with throughReset := true }
  | _ => { t with cls := .plain, axis := none, forwardData := if t.write then some t.data else none, phase := .waiting,
                  throughReset := true }

/-- A hardware reset begins: the take engine's transaction, the interpolation and the write in processing are abandoned,
the record queue and the line queue are emptied, the port takes no command, and a held pass-through transaction goes
downstream as PLAIN (R96, R114, R129, R148, R166, R200). -/
def State.beginReset (s : State) : State :=
  if s.resetControl.inForce then s
  else
    ({ s with
        resetControl := { s.resetControl with inForce := true },
        memory := { s.memory with upstream := s.memory.upstream.map UpstreamTxn.atReset,
                                  downstream := s.memory.downstream.filter fun d => d.owner == .passThrough },
        recording := State.resetRecording,
        lineQueue := State.emptyLineQueue,
        interpolator := { s.interpolator with inFlight := none },
        writeInProcessing := none,
        due := [],
        port := { s.port with phase := .ignored, incoming := [], resetPending := false } } : State).arbitrate

/-- The counts of a span that is still to pass, at least n (R206). -/
def ResetControl.atLeast (r : ResetControl) (n : Nat) : ResetControl := { r with spanLeft := max r.spanLeft n }

/-- The reset cause at the end of a reset: POWER before PIN before COMMAND (R198). -/
def ResetControl.cause (r : ResetControl) : ResetCause :=
  if r.byPower then .power else if r.byPin then .pin else .command

/-- The end of a hardware reset: every block takes its reset values, RESET is set, the cause and power-seen follow the
sources; a pass-through transaction in flight goes on, and a frame under way is ignored (R198, R200). -/
def State.endReset (s : State) : State :=
  let r := State.reset
  { r with
      memory := { r.memory with upstream := s.memory.upstream, downstream := s.memory.downstream },
      port := { r.port with phase := if s.port.selectHigh then .idle else .ignored,
                            resetCause := s.resetControl.cause,
                            powerSeen := s.resetControl.byPower || s.port.powerSeen,
                            selectHigh := s.port.selectHigh },
      lastUpstream := s.lastUpstream, openOrders := s.openOrders, pending := s.pending }

end Sys2Proof.Machine
end

