-- ==== Sys2Proof/Machine/Elapse.lean ====
section
/-! DEFINITION. The passing of reference counts, and the events the part raises by itself when they fall due (R1, R6, R9,
R11, R15, R17, R189, R198). -/

namespace Sys2Proof.Machine

/-- The events the part raises by itself. -/
inductive OwnEvent
  | flywheel | substituted | runReset | samplePoint | resetEnd | delivery | requestByte
  deriving DecidableEq, Repr

/-- The counts until the next early byte of a request, less n. -/
def bytesAfter (n : Nat) : List (Nat × Byte) → List (Nat × Byte)
  | (g, b) :: rest => (g - n, b) :: rest
  | [] => []

/-- n reference counts pass with nothing falling due: the intervals, the flywheel, the reference time, a character in
reception and the gap before the next byte of a request; while a reset is in force only its span (R1, R11, R12, R206). -/
def State.count (s : State) (n : Nat) : State :=
  if s.resetControl.inForce then
    { s with resetControl := { s.resetControl with spanLeft := s.resetControl.spanLeft - n } }
  else
    { s with
        timebase := { s.timebase with
          interval := s.timebase.interval.map fun i => stopAt Config.countLimit (i + n),
          flywheel := stopAt Config.countLimit (s.timebase.flywheel + n),
          refTime := (s.timebase.refTime + n) % 4294967296 }
        camera := { s.camera with receiver := match s.camera.receiver with
          | .receiving t => .receiving (t + n)
          | r => r }
        port := { s.port with incoming := bytesAfter n s.port.incoming } }

/-- The counts from the last boundary to the next boundary the timebase makes by itself (R6, R11). -/
def Timebase.boundaryAt (t : Timebase) : Nat :=
  if t.lock = .locked then t.active.nNom + t.active.w else t.active.nNom

/-- Which boundary that is. -/
def Timebase.boundaryEvent (t : Timebase) : OwnEvent :=
  if t.lock = .locked then .substituted else .flywheel

/-- The counts until that boundary. -/
def State.boundaryIn (s : State) : Nat := s.timebase.boundaryAt - s.timebase.flywheel

/-- The counts until the holdover run reset, while its watch runs without a regular pulse near (R9). -/
def State.runResetIn (s : State) : Option Nat :=
  if s.timebase.lock = .holdover ∧ s.timebase.watching ∧ ¬ s.timebase.pulseNear then
    some (s.timebase.active.w - s.timebase.flywheel)
  else none

/-- The least e at which P reaches or passes the position pt within the frame, if it does (R15, R17). -/
def State.reachedAt (s : State) (pt : Nat) : Option Nat :=
  let start := s.timebase.position.getD 0
  if pt ≤ start then some 0
  else if start + s.pace16 < pt then none
  else some (((pt - start) * s.timebase.period + s.pace16 - 1) / s.pace16)

/-- The counts until the next sample point of a RECORD pass in RUNNING is reached within the frame (R17). -/
def State.pointIn (s : State) : Option Nat :=
  match s.pass.context with
  | some c =>
    if s.pass.state = .running ∧ c.mode = .record ∧ s.timebase.nextPoint < 65536 * c.k then
      (s.reachedAt (s.timebase.nextPoint * (65536 / c.k))).map fun at_ => at_ - s.timebase.flywheel
    else none
  | none => none

/-- The sooner of two events; on equal counts the one named first. -/
def sooner (a : Nat × OwnEvent) : Option (Nat × OwnEvent) → Nat × OwnEvent
  | some b => if b.1 < a.1 then b else a
  | none => a

/-- The next event the part raises by itself and the counts until it. What blocks have sent each other comes first. A sample
point on the very count of a boundary comes before or after it by a free order (log entry 1). -/
def State.nextOwn (s : State) : Option (Nat × OwnEvent) :=
  if s.resetControl.inForce then
    if s.resetControl.pinHeld then none else some (s.resetControl.spanLeft, .resetEnd)
  else if !s.due.isEmpty then some (0, .delivery)
  else
    let boundary := (s.boundaryIn, s.timebase.boundaryEvent)
    let withPoint := match s.pointIn with
      | some p =>
        if p < boundary.1 ∨ p = boundary.1 ∧ Config.pointFirst s.openOrders then (p, OwnEvent.samplePoint) else boundary
      | none => boundary
    some (sooner (sooner withPoint (s.runResetIn.map fun r => (r, .runReset)))
      (s.port.incoming.head?.map fun b => (b.1, .requestByte)))

/-- The free orders of a boundary the part makes by itself (log entry 1). -/
def State.freeOrder (s : State) : BoundaryOrder :=
  { declarationFirst := Config.declarationFirst s.openOrders
    captureFirst := Config.captureFirst s.openOrders
    witnessLate := Config.witnessLate s.openOrders
    controllerLate := Config.controllerLate s.openOrders
    reportsLate := Config.reportsLate s.openOrders }

/-- The run is reset at W after a flywheel boundary of HOLDOVER (R9). -/
def State.resetRun (s : State) : State :=
  { s with timebase := { s.timebase with run := 0, watching := false } }

/-- In RUNNING the timebase evaluates P within the frame and raises the sample points reached (R17, R84). -/
def State.samplePointNow (s : State) : State :=
  if s.pass.state = .running then (s.raisePoints s.runningPosition).settle else s

/-- A flywheel boundary at this instant (R3, R8, R11). -/
def State.flywheelNow (s : State) (order : BoundaryOrder) : State :=
  s.makeBoundary .flywheel order State.causeFlywheel

/-- A substituted boundary at this instant (R6). -/
def State.substituteNow (s : State) (order : BoundaryOrder) : State :=
  s.makeBoundary .substituted order State.causeSubstituted

/-- An event that is due is made by the part itself. -/
def State.fireOwn (s : State) (ev : OwnEvent) : State :=
  let order := s.freeOrder
  let s := { s with openOrders := s.openOrders + 1 }
  match ev with
  | .flywheel => s.flywheelNow order
  | .substituted => s.substituteNow order
  | .runReset => s.resetRun
  | .samplePoint => s.samplePointNow
  | .resetEnd => s.endReset
  | .delivery => s.deliverNext
  | .requestByte => s.nextByte

/-- n reference counts pass, with every event of the part's own that falls due BEFORE the n-th count made at its count.
What falls due on the n-th count itself stays due: the sender's next command may come before it. -/
def State.elapseFuel : Nat → Nat → State → State
  | 0, n, s => s.count n
  | fuel + 1, n, s =>
    match s.nextOwn with
    | some (d, ev) => if d < n then State.elapseFuel fuel (n - d) ((s.count d).fireOwn ev) else s.count n
    | none => s.count n

/-- n reference counts pass (see elapseFuel). Beside the deliveries and bytes that stand waiting, at one count at most a
sample point, a boundary, its run reset and the three deliveries of the boundary fall due, so the fuel suffices. -/
def State.elapse (s : State) (n : Nat) : State :=
  if n = 0 then s else State.elapseFuel (s.due.length + s.port.incoming.length + 8 * n + 8) n s

/-- The step of the part on an empty queue: an event of its own that is due, else one reference count. -/
def State.idle (s : State) : State :=
  match s.nextOwn with
  | some (0, ev) => s.fireOwn ev
  | _ => s.count 1

end Sys2Proof.Machine
end

