-- ==== Sys2Proof/Machine/Taking.lean ====
section
/-! DEFINITION. What comes before and after the taking of a row at one instant: boundaries still on their way to a block are
taken, a decision of the arbiter may wait for another request, a management command is answered. -/

namespace Sys2Proof.Machine

/-- The boundaries of this instant that are still on their way to a block are taken, in their order. Only a comparison, a
report and a bus transaction come between the making of a boundary and its taking (R176, R183); every other event finds the
boundary taken by every block (R13, R84, R151, log entry 1). -/
def State.takeBoundaries (s : State) : State :=
  if s.due.any Delivery.isBoundary then
    ((s.due.filter Delivery.isBoundary).foldl State.deliver { s with due := s.due.filter fun d => !d.isBoundary }).settle
  else s

/-- The end of a bus row: the free slot is decided at once or, `late`, after other events of the same instant, with the
requests present then (R144). The fetcher does not wait (R101). -/
def State.settleAt (s : State) (late : Bool) : State :=
  if late && !s.resetControl.inForce && s.memory.downstream.isNone then s.startFetch.deliverLater .slot else s.settle

/-- A command's frame on the management port: while its request is being received (CODE, LENGTH, ARGUMENTS) the bytes that
have not come yet come and the command is taken; in RESPONSE its bytes are ignored and shift the response out; no edge is
counted in IDLE, and everything is discarded in IGNORED (R188 to R191, R200). A row whose frame is not the one being received
is not that request, and nothing happens (log entry 8). A boundary that is still on its way to a block at this instant is
taken before the command is (R13, R151, log entry 1). -/
def State.takeCommand (s : State) (fr : Frame) (body : State → Answer) : State :=
  if s.port.agrees fr then
    let a := body (s.takeBoundaries.receive fr)
    a.state.respond a.status a.result
  else if s.port.phase = .response then s.shiftOut (2 + fr.args.length)
  else s

end Sys2Proof.Machine
end

