-- ==== Sys2Proof/Machine/TimebaseRows.lean ====
section
/-! DEFINITION. Meanings of the timebase's and the camera line's events: SYNC_PULSE, FLYWHEEL_BOUNDARY,
SUBSTITUTED_BOUNDARY, HOLDOVER_RUN_RESET, SAMPLE_POINT, STATUS_START_EDGE, STATUS_CHARACTER, STATUS_LINE_RETURN_HIGH. -/

namespace Sys2Proof.Machine

/-- What a step answers. -/
abbrev Result := Host.Outcome State Fault Refusal

/-- SYNC_PULSE: a rising edge of the frame sync line (R1). While a reset is in force the line is not sampled (R206). -/
def execSyncPulse (after : Nat) (order : BoundaryOrder) (s : State) : Result :=
  let s := (s.elapse after).takeBoundaries
  .next (if s.resetControl.inForce then s else s.pulse order)

/-- FLYWHEEL_BOUNDARY: the count reaches N_NOM in FREE, ACQUIRE or HOLDOVER (R11). The counts up to it pass first; in
LOCKED, or while a reset is in force, the event does not occur. -/
def execFlywheelBoundary (order : BoundaryOrder) (s : State) : Result :=
  .next (if s.resetControl.inForce ∨ s.timebase.lock = .locked then s
    else (s.elapse s.boundaryIn).takeBoundaries.flywheelNow order)

/-- SUBSTITUTED_BOUNDARY: the count reaches N_NOM + W in LOCKED (R6). -/
def execSubstitutedBoundary (order : BoundaryOrder) (s : State) : Result :=
  .next (if s.resetControl.inForce ∨ s.timebase.lock ≠ .locked then s
    else (s.elapse s.boundaryIn).takeBoundaries.substituteNow order)

/-- HOLDOVER_RUN_RESET: the count reaches W after a flywheel boundary of HOLDOVER with no regular pulse near it (R9). -/
def execHoldoverRunReset (s : State) : Result :=
  .next (if s.resetControl.inForce then s
    else match s.runResetIn with
      | some d => (s.elapse d).resetRun
      | none => s)

/-- SAMPLE_POINT: the position reaches the next sample point within the frame (R17). A boundary before it has been taken by
the pass controller, and no point is raised outside RUNNING (R84, R91, R94). -/
def execSamplePoint (s : State) : Result :=
  .next (if s.resetControl.inForce then s
    else let s := s.takeBoundaries
    match s.pointIn with
      | some d => if d ≤ s.boundaryIn then (s.elapse d).samplePointNow else s
      | none => s)

/-! ### The camera status line -/

/-- The parity bit is even over the eight data bits and itself (R74). -/
def parityGood (data : Byte) (parity : Bool) : Bool :=
  ((List.range 8).countP (fun i => data.getLsbD i) + parity.toNat) % 2 == 0

/-- STATUS_START_EDGE: while hunting, a falling edge begins a possible character; high at the middle of the start bit, it
was a glitch (R74). -/
def execStatusStartEdge (after : Nat) (low : Bool) (s : State) : Result :=
  let s := s.elapse after
  .next (if s.resetControl.inForce then s
    else if s.camera.receiver = .hunting ∧ low then { s with camera := { s.camera with receiver := .receiving 0 } }
    else s)

/-- The receiver after a character's end: a complete one becomes the held word, any other is a receive error (R74, R75). -/
def Camera.character (c : Camera) (data : Byte) (parity stop : Bool) : Camera :=
  let c := if stop && parityGood data parity then
      { c with held := some data, wordCount := stopAt 65535 (c.wordCount + 1) }
    else { c with errorCount := stopAt 65535 (c.errorCount + 1) }
  { c with receiver := if stop then .hunting else .waitingHigh }

/-- STATUS_CHARACTER: the character in reception ends (R74, R75). -/
def execStatusCharacter (after : Nat) (data : Byte) (parity stop : Bool) (s : State) : Result :=
  let s := s.elapse after
  .next (if s.resetControl.inForce then s
    else match s.camera.receiver with
      | .receiving _ => { s with camera := s.camera.character data parity stop }
      | _ => s)

/-- STATUS_LINE_RETURN_HIGH: the receiver that waits for it hunts again (R75). -/
def execStatusLineReturnHigh (after : Nat) (s : State) : Result :=
  let s := s.elapse after
  .next (if s.resetControl.inForce then s
    else if s.camera.receiver = .waitingHigh then { s with camera := { s.camera with receiver := .hunting } }
    else s)

end Sys2Proof.Machine
end

