-- ==== Sys2Proof/Machine/BusRows.lean ====
section
/-! DEFINITION. Meanings of the bus events and of the port's lines and resets: UPSTREAM_TRANSACTION_TAKEN,
INTERPOLATION_END, DOWNSTREAM_COMPLETE, SELECT_FALL, SELECT_RISE, POWER_ON, RESET_PIN, RESET_PIN_RELEASE, RESET_END. -/

namespace Sys2Proof.Machine

/-! ### The upstream port -/

/-- The upstream record at its taking (R131, R133, R135, R138 to R140). -/
def State.newUpstream (s : State) (write : Bool) (addr : Nat) (lanes : BitVec 4) (data : Word) : UpstreamTxn :=
  let (cls, axis) := s.classify addr
  { address := addr, write := write, lanes := lanes, data := data, cls := cls, axis := axis,
    forwardData := if write then some data else none, phase := .waiting, throughReset := false }

/-- A transaction is taken and classified: a full-word TARGET write goes to the axis unit, a partial one is blocked at
once, every other waits for the port (R133 to R140). -/
def State.takeUpstream (s : State) (t : UpstreamTxn) (slotLate : Bool) : State :=
  match t.cls, t.axis, t.write with
  | .target, some a, true =>
    if fullWord t.lanes then
      (({ s with memory := { s.memory with upstream := some { t with forwardData := none, phase := .atAxis } } } :
        State).takeTargetWrite a t.data.toInt).settleAt slotLate
    else
      (({ s with memory := { s.memory with upstream := some t } } : State).countPartial).completeUpstream 0
  | _, _, _ => ({ s with memory := { s.memory with upstream := some t } } : State).settleAt slotLate

/-- UPSTREAM_TRANSACTION_TAKEN (R131). The port carries one transaction at a time: nothing is taken while one is in
progress. -/
def execUpstreamTransactionTaken (presented : Presentation) (write : Bool) (address : BitVec 22) (lanes : BitVec 4)
    (data : Word) (s : State) : Result :=
  let s := s.elapse presented.after
  .next (match s.memory.upstream with
    | some _ => s
    | none => s.takeUpstream (s.newUpstream write (address.toNat * 4) lanes data) presented.slotLate)

/-- INTERPOLATION_END: the interpolation in flight hands over its outcome, and the held write is handed back (R127, R157,
R160 to R164). -/
def execInterpolationEnd (completion : Completion) (s : State) : Result :=
  let s := s.elapse completion.after
  .next (match s.interpolator.inFlight, s.writeInProcessing with
    | some r, some w =>
      let o := r.outcome (s.axis r.axis).previousResult
      ((s.finishInterpolation r o).finishWrite w o completion.late).settleAt completion.slotLate
    | _, _ => s)

/-! ### The downstream port -/

/-- The pass-through transaction completes: upstream at the same instant, with the observation of a full-word feedback
read and the coherence notice of a forwarded region write (R131, R139, R140, R143). -/
def State.passThroughComplete (s : State) (d : DownstreamTxn) (data : Word) (late : Bool) : State :=
  let t := s.memory.upstream
  let s := s.completeUpstream data
  let s := match t with
    | some t =>
      match t.cls, t.axis with
      | .feedback, some a =>
        if !t.write && fullWord t.lanes && !t.throughReset then s.observeFeedback a data late else s
      | _, _ => s
    | none => s
  if d.notice then s.coherenceNotice d.address d.data d.lanes else s

/-- The transaction on the downstream port completes, by its owner (R41, R92, R102, R131). -/
def State.completeDownstream (s : State) (d : DownstreamTxn) (data : Word) (late : Bool) : State :=
  let s := ({ s with memory := { s.memory with downstream := none } } : State)
  if d.discard then s
  else match d.owner with
    | .passThrough => s.passThroughComplete d data late
    | .recordWrite => s.recordWriteComplete late
    | .fetchRead => s.fetchReadComplete data
    | .verifyRead => s.verifyReadComplete data

/-- DOWNSTREAM_COMPLETE: sample memory asserts ready (R132), and the free slot is decided (R144). -/
def execDownstreamComplete (completion : Completion) (data : Word) (s : State) : Result :=
  let s := s.elapse completion.after
  .next (match s.memory.downstream with
    | some d => (s.completeDownstream d data completion.late).settleAt completion.slotLate
    | none => s)

/-! ### The management select line -/

/-- SELECT_FALL: a frame begins in phase CODE, its early bytes still to come (log entry 8); while a reset is in force, or with
select already low, none does (R188, R200). -/
def execSelectFall (opening : FrameOpening) (s : State) : Result :=
  let s := s.elapse opening.after
  .next (if !s.port.selectHigh then s
    else if s.resetControl.inForce then { s with port := { s.port with selectHigh := false } }
    else { s with port := { s.port with selectHigh := false, phase := .code, code := none, length := none, args := [],
                                        incoming := opening.early, response := none } })

/-- The frame ends: the phase is IDLE from any phase, an incomplete request leaves nothing behind, and no more of a
response is shifted out (R188 to R190). -/
def Port.endFrame (p : Port) : Port :=
  if p.phase = .response then { p with phase := .idle, incoming := [] }
  else { p with phase := .idle, code := none, length := none, args := [], incoming := [], response := none }

/-- SELECT_RISE: the frame ends after `clocked` more bytes; a pending RESET PART begins its reset (R188, R190, R199).
DESIGN CHOICE (log entry 24): a rise while a hardware reset is in force leaves the phase IGNORED until the reset ends, by
R200, where R188 lets every rise put it in IDLE. -/
def execSelectRise (after clocked : Nat) (s : State) : Result :=
  let s := s.elapse after
  .next (if s.port.selectHigh then s
    else if s.resetControl.inForce then { s with port := { s.port with selectHigh := true } }
    else
      let s := if s.port.phase = .response then s.shiftOut clocked else s
      let resets := s.port.resetPending
      let s := { s with port := { s.port.endFrame with selectHigh := true, resetPending := false } }
      if resets then
        ({ s with resetControl := { (s.resetControl.atLeast Config.resetSpan) with byCommand := true } } : State).beginReset
      else s)

/-! ### Resets -/

/-- POWER_ON: power-on begins a hardware reset, or joins the one in force; it lasts until the supplies have been within
their ratings for 2 ms (R198, R206). -/
def execPowerOn (up : PowerUp) (s : State) : Result :=
  let s := s.elapse up.after
  let r := { (s.resetControl.atLeast (up.settling + Config.powerSpan)) with byPower := true }
  .next ({ s with resetControl := r } : State).beginReset

/-- RESET_PIN: an assertion of the reset pin that is taken begins a hardware reset, or joins the one in force (R198). -/
def execResetPin (after : Nat) (s : State) : Result :=
  let s := s.elapse after
  .next ({ s with resetControl := { s.resetControl with byPin := true, pinHeld := true } } : State).beginReset

/-- RESET_PIN_RELEASE: the pin rises, and its 20 µs begin (R206). -/
def execResetPinRelease (after : Nat) (s : State) : Result :=
  let s := s.elapse after
  .next (if s.resetControl.pinHeld then
      { s with resetControl := { (s.resetControl.atLeast Config.resetSpan) with pinHeld := false } }
    else s)

/-- RESET_END: the counts that are left of the span pass, and the reset in force ends (R198, R206). The pin held keeps the
reset in force. -/
def execResetEnd (s : State) : Result :=
  .next (if s.resetControl.inForce ∧ ¬ s.resetControl.pinHeld then (s.count s.resetControl.spanLeft).endReset else s)

end Sys2Proof.Machine
end

