-- ==== Sys2Proof/Machine/DirectoryCommands.lean ====
section
/-! DEFINITION. Meanings of SET_TIMEBASE and of the take commands: SET_REGION, DECLARE, DELETE, PROTECT, UNPROTECT,
ALIAS (R21, R22, R27, R35, R39, R43, R45). -/

namespace Sys2Proof.Machine

/-! ### SET TIMEBASE -/

/-- The three values as R21 clamps them. -/
def clampSettings (nNom window holdoverLimit : Nat) : TimebaseSettings :=
  ⟨clampNat 125000 50000000 nNom, clampNat 1 32 window, clampNat 1 255 holdoverLimit⟩

/-- N_NOM, WINDOW and HOLDOVER_LIMIT as result fields (R22, R202). -/
def TimebaseSettings.bytes (t : TimebaseSettings) : List Byte :=
  beBytes 4 t.nNom ++ beBytes 1 t.window ++ beBytes 1 t.holdoverLimit

def State.setTimebase (s : State) (nNom window holdoverLimit : Nat) : Answer :=
  if s.pass.state = .preroll ∨ s.pass.state = .running ∨ s.pass.state = .parked then refuse s .busy
  else
    let t := clampSettings nNom window holdoverLimit
    ⟨{ s with timebase := { s.timebase with pending := some t } }, okOr (t != ⟨nNom, window, holdoverLimit⟩), t.bytes⟩

/-- SET_TIMEBASE (R22). -/
def execSetTimebase (nNom : BitVec 32) (window holdoverLimit : Byte) (s : State) : Result :=
  .next (s.takeCommand ⟨0x10, bytes4 nNom ++ [window] ++ [holdoverLimit]⟩ fun s =>
    s.setTimebase nNom.toNat window.toNat holdoverLimit.toNat)

/-! ### SET REGION -/

/-- The region's base and size in 64 KB units, as result fields (R27, R28). -/
def State.regionBytes (s : State) : List Byte := beBytes 1 s.directory.regionBase ++ beBytes 2 s.directory.regionSize

/-- The region of these units holds the target or feedback address of an ENABLED axis (R27 step 3). -/
def State.regionMeetsAxis (s : State) (base size : Nat) : Bool :=
  let inside := fun a : Nat => decide (base * 65536 ≤ a ∧ a < (base + size) * 65536)
  s.axes.any fun ax => ax.entry.enabled &&
    (inside ax.entry.targetAddr || (match ax.entry.feedbackAddr with | some f => inside f | none => false))

/-- The number of entries that are not FREE (R28). -/
def Directory.inUse (d : Directory) : Nat := d.entries.countP Option.isSome

def State.setRegion (s : State) (base size : Nat) : Answer :=
  let size' := min size (256 - base)
  if 0 < s.directory.inUse then ⟨s, .busy, s.regionBytes⟩
  else if s.regionMeetsAxis base size' then ⟨s, .conflict, s.regionBytes⟩
  else
    let s := ({ s with directory := { s.directory with regionBase := base, regionSize := size' } } : State)
    ⟨s, okOr (size' != size), s.regionBytes⟩

/-- SET_REGION (R27). -/
def execSetRegion (base : Byte) (size : BitVec 16) (s : State) : Result :=
  .next (s.takeCommand ⟨0x20, [base] ++ bytes2 size⟩ fun s => s.setRegion base.toNat size.toNat)

/-! ### DECLARE -/

/-- The entry of an accepted DECLARE: new, or the REJECTED entry with its PROTECTED, TRUNCATED and PASS_COUNT kept
(R39). -/
def declaredEntry (old : Option TakeEntry) (base lines k : Nat) (tracks : AxisSet) : TakeEntry :=
  match old with
  | none =>
    { state := .verifying, kind := .storage base false, lines := lines, k := k, tracks := tracks, truncated := false,
      recordInfo := none, passCount := 0, failLine := none, written := 0 }
  | some e =>
    { e with state := .verifying, kind := .storage base e.guarded, lines := lines, k := k, tracks := tracks,
             failLine := none }

/-- The entry may be declared: FREE or REJECTED (R39 step 3). -/
def mayDeclare : Option TakeEntry → Bool
  | none => true
  | some e => e.state == .rejected

def State.declareTake (s : State) (t base lines : Nat) (k : Byte) (tracks : AxisSet) : Answer :=
  if !takeInRange t then refuse s .noTake
  else if !s.hasRegion then refuse s .noRegion
  else if !mayDeclare (s.entry t) then refuse s .state
  else if base % 4 != 0 || lines == 0 || decide (1048576 < lines) || tracks == 0 then refuse s .range
  else match readK k with
    | none => refuse s .range
    | some kv =>
      match s.extentCheck t base lines (trackCount tracks) with
      | some st => refuse s st
      | none => accept ((s.setEntry t (some (declaredEntry (s.entry t) base lines kv tracks))).verifyAppend t).settle

/-- DECLARE (R39). -/
def execDeclare (take : Byte) (base lines : BitVec 24) (k : Byte) (tracks : AxisSet) (s : State) : Result :=
  .next (s.takeCommand ⟨0x22, [take] ++ bytes3 base ++ bytes3 lines ++ [k] ++ bytes2 tracks⟩ fun s =>
    s.declareTake take.toNat base.toNat lines.toNat k tracks)

/-! ### DELETE -/

def State.deleteTake (s : State) (t : Nat) : Answer :=
  match if takeInRange t then s.entry t else none with
  | none => refuse s .noTake
  | some e =>
    if s.passHolds t || s.directory.namedByAlias t then refuse s .inUse
    else
      let s := s.setEntry t none
      accept ((if e.state = .verifying then s.verifyRemove t else s).settle)

/-- DELETE (R45, R42). -/
def execDelete (take : Byte) (s : State) : Result :=
  .next (s.takeCommand ⟨0x23, [take]⟩ fun s => s.deleteTake take.toNat)

/-! ### PROTECT and UNPROTECT -/

/-- The PROTECTED field of a take, or of an alias's root, is written (R35). -/
def State.protectTake (s : State) (t : Nat) (g : Bool) : Answer :=
  match if takeInRange t then s.entry t else none with
  | none => refuse s .noTake
  | some e =>
    let root := e.root t
    ⟨s.onEntry root fun r => r.setGuarded g, .ok, [codeByte root, boolByte g]⟩

/-- PROTECT (R35). -/
def execProtect (take : Byte) (s : State) : Result :=
  .next (s.takeCommand ⟨0x24, [take]⟩ fun s => s.protectTake take.toNat true)

/-- UNPROTECT (R35). -/
def execUnprotect (take : Byte) (s : State) : Result :=
  .next (s.takeCommand ⟨0x25, [take]⟩ fun s => s.protectTake take.toNat false)

/-! ### ALIAS -/

/-- The root's number, its entry and the resolved offset of an alias of a parent (R43 step 4). -/
def State.resolveAlias (s : State) (parent offset : Nat) (p : TakeEntry) : Option (Nat × TakeEntry × Nat) :=
  (s.entry (p.root parent)).map fun r => (p.root parent, r, p.aliasOffset + offset)

def State.makeAlias (s : State) (t parent offset length : Nat) : Answer :=
  if !takeInRange t || !takeInRange parent then refuse s .noTake
  else match s.entry parent with
    | none => refuse s .noTake
    | some p =>
      if (s.entry t).isSome then refuse s .state
      else if p.state ≠ .ready then refuse s .state
      else match s.resolveAlias parent offset p with
        | none => refuse s .noTake
        | some (root, r, off) =>
          if length = 0 ∨ r.lines < off + length then refuse s .range
          else
            ⟨s.setEntry t (some { state := .ready, kind := .aliasOf root off, lines := length, k := r.k,
                                  tracks := r.tracks, truncated := false, recordInfo := none, passCount := 0,
                                  failLine := none, written := 0 }),
             .ok, beBytes 1 root ++ beBytes 3 off ++ beBytes 3 length⟩

/-- ALIAS (R43). -/
def execAlias (take parent : Byte) (offset length : BitVec 24) (s : State) : Result :=
  .next (s.takeCommand ⟨0x26, [take] ++ [parent] ++ bytes3 offset ++ bytes3 length⟩ fun s =>
    s.makeAlias take.toNat parent.toNat offset.toNat length.toNat)

end Sys2Proof.Machine
end

