-- ==== Sys2Proof/Machine/PassCommands.lean ====
section
/-! DEFINITION. Meanings of the pass commands: RECORD_ARM, REPLAY_ARM, WITNESS_ARM, STOP, PARK, RESUME, ABORT, CLEAR,
PASS_RESET (chapter 3). -/

namespace Sys2Proof.Machine

/-! ### Arming -/

/-- A new pass summary (R52, R54, R72). -/
def newSummary (mode : PassMode) (take startFrame : Nat) : Summary :=
  { mode := mode, take := take, startFrame := startFrame, outcome := none, frames := 0, frameOffset := 0, slips := 0,
    clamps := 0, saturates := 0, starves := 0, tagFails := 0, records := 0, lost := 0, mark := none, syncLost := false }

/-- Every arm: context, summary, ARMED, the position and counts of the timebase (R25, R49, R52, R54). -/
def State.arm (s : State) (c : PassContext) : State :=
  ({ s with
      pass := { s.pass with context := some c, pending := none, preroll := none, hasRun := false,
                            summary := some (newSummary c.mode c.take c.startFrame) },
      timebase := { s.timebase with position := some (c.startFrame * 65536), nextPoint := 0, passPulses := 0, advances := 0,
                                    frameOffset := 0, slips := 0 } } : State).setPass .armed

/-- Every track axis is ENABLED (R51, R53). -/
def State.tracksEnabled (s : State) (tracks : AxisSet) : Bool := (trackList tracks).all fun a => (s.axis a).entry.enabled

/-- The entry of an accepted RECORD ARM (R36). -/
def recordingEntry (base lines k : Nat) (tracks : AxisSet) : TakeEntry :=
  { state := .recording, kind := .storage base false, lines := lines, k := k, tracks := tracks, truncated := false,
    recordInfo := none, passCount := 0, failLine := none, written := 0 }

/-- The recording side at the arm: OPEN, empty, HIGH_WATER 0, every capture marker cleared (R83). -/
def State.openRecording (s : State) : State :=
  ({ s with recording := ⟨true, [], none, 0⟩ } : State).clearMarkers (List.range 16)

def State.recordArm (s : State) (t base maxLines : Nat) (k : Byte) (tracks : AxisSet) (trigger requireLock : Byte)
    (preroll pace length : Nat) : Answer :=
  if s.pass.state ≠ .idle then refuse s .state
  else if !takeInRange t then refuse s .noTake
  else if (s.entry t).isSome then refuse s .state
  else match readK k, readTrigger trigger, readYesNo requireLock with
    | some kv, some trig, some lock =>
      if base % 4 != 0 || tracks == 0 then refuse s .range
      else if !s.tracksEnabled tracks then refuse s .axis
      else
        let lines := clampNat 1 1048576 maxLines
        let pace' := clampNat 1 16384 pace
        match s.extentCheck t base lines (trackCount tracks) with
        | some st => refuse s st
        | none =>
          let c : PassContext :=
            { mode := .record, take := t, startFrame := 0, pace := pace', interp := none, trigger := trig,
              requireLock := lock, preroll := preroll, resumePreroll := 0, policy := none, length := some length,
              maxLines := some lines, k := kv, tracks := tracks, base := some base }
          ⟨((s.setEntry t (some (recordingEntry base lines kv tracks))).arm c).openRecording,
           okOr (lines != maxLines || pace' != pace), beBytes 3 lines ++ beBytes 2 pace'⟩
    | _, _, _ => refuse s .range

/-- RECORD_ARM (R51, R52, R83). -/
def execRecordArm (take : Byte) (base maxLines : BitVec 24) (k : Byte) (tracks : AxisSet)
    (trigger requireLock preroll : Byte) (pace length : BitVec 16) (s : State) : Result :=
  .next (s.takeCommand ⟨0x30, [take] ++ bytes3 base ++ bytes3 maxLines ++ [k] ++ bytes2 tracks ++ [trigger] ++ [requireLock]
      ++ [preroll] ++ bytes2 pace ++ bytes2 length⟩ fun s =>
    s.recordArm take.toNat base.toNat maxLines.toNat k tracks trigger requireLock preroll.toNat pace.toNat length.toNat)

/-- The geometry captured at a REPLAY or WITNESS arm (R100). -/
def State.captureGeometry (s : State) (t : Nat) (e : TakeEntry) : Geometry :=
  let root := e.root t
  { take := t, lines := e.lines, root := root, base := ((s.entry root).map TakeEntry.base).getD 0,
    trackCount := trackCount e.tracks, offset := e.aliasOffset }

/-- The line queue at the arm: emptied, filling from max(s0 − 1, 0), CURRENT_LINE s0 (R54, R100). -/
def State.startQueue (s : State) (g : Geometry) (s0 : Nat) : State :=
  let s := s.clearLineQueue
  { s with lineQueue := { s.lineQueue with geometry := some g, nextFetch := some (s0 - 1), currentLine := some s0 } }

/-- Every axis whose active SOURCE is not NONE becomes UNCHECKED (R54, R184). -/
def State.uncheckSources (s : State) : State :=
  { s with witness := { s.witness with
      axes := s.witness.axes.mapIdx fun a w => if (s.axis a).entry.processing.source = .none then w else w.uncheck } }

/-- Every previous interpolated result becomes absent (R128). -/
def State.forgetResults (s : State) : State :=
  { s with axes := s.axes.map fun ax => { ax with previousResult := none } }

def State.readArm (s : State) (mode : PassMode) (t startFrame pace : Nat) (interp trigger requireLock : Byte)
    (preroll resumePreroll : Nat) (policy : Byte) : Answer :=
  if s.pass.state ≠ .idle then refuse s .state
  else match if takeInRange t then s.entry t else none with
    | none => refuse s .noTake
    | some e =>
      if e.state ≠ .ready then refuse s .state
      else match readInterp interp, readTrigger trigger, readYesNo requireLock, readPolicy policy with
        | some i, some trig, some lock, some pol =>
          if !s.tracksEnabled e.tracks then refuse s .axis
          else if e.lines ≤ startFrame * e.k then refuse s .range
          else
            let pace' := clampNat 1 16384 pace
            let s0 := startFrame * e.k
            let c : PassContext :=
              { mode := mode, take := t, startFrame := startFrame, pace := pace', interp := some i, trigger := trig,
                requireLock := lock, preroll := preroll, resumePreroll := resumePreroll, policy := some pol, length := none,
                maxLines := none, k := e.k, tracks := e.tracks, base := none }
            let g := s.captureGeometry t e
            ⟨((((s.arm c).startQueue g s0).uncheckSources.forgetResults).emptyLog).settle,
             okOr (pace' != pace), beBytes 2 pace' ++ beBytes 3 s0⟩
        | _, _, _, _ => refuse s .range

/-- REPLAY_ARM (R53, R54, R100, R128, R180, R184). -/
def execReplayArm (take : Byte) (startFrame pace : BitVec 16) (interp trigger requireLock preroll resumePreroll policy : Byte)
    (s : State) : Result :=
  .next (s.takeCommand ⟨0x31, [take] ++ bytes2 startFrame ++ bytes2 pace ++ [interp] ++ [trigger] ++ [requireLock] ++ [preroll]
      ++ [resumePreroll] ++ [policy]⟩ fun s =>
    s.readArm .replay take.toNat startFrame.toNat pace.toNat interp trigger requireLock preroll.toNat resumePreroll.toNat
      policy)

/-- WITNESS_ARM (R53, R54, R100, R128, R180, R184). -/
def execWitnessArm (take : Byte) (startFrame pace : BitVec 16)
    (interp trigger requireLock preroll resumePreroll policy : Byte) (s : State) : Result :=
  .next (s.takeCommand ⟨0x32, [take] ++ bytes2 startFrame ++ bytes2 pace ++ [interp] ++ [trigger] ++ [requireLock] ++ [preroll]
      ++ [resumePreroll] ++ [policy]⟩ fun s =>
    s.readArm .witness take.toNat startFrame.toNat pace.toNat interp trigger requireLock preroll.toNat resumePreroll.toNat
      policy)

/-! ### The running pass -/

/-- STOP (R62). -/
def execStop (s : State) : Result :=
  .next (s.takeCommand ⟨0x33, []⟩ fun s => if s.runningOrParked then accept (s.placeRequest .stop) else refuse s .state)

/-- PARK (R63). -/
def execPark (s : State) : Result :=
  .next (s.takeCommand ⟨0x34, []⟩ fun s =>
    if s.pass.state = .running then accept (s.placeRequest .park) else refuse s .state)

/-- RESUME (R63): through the slot, or a resume pre-roll at once with the slot emptied. -/
def execResume (s : State) : Result :=
  .next (s.takeCommand ⟨0x35, []⟩ fun s =>
    if s.pass.state = .parked then
      match (s.pass.context.map (·.resumePreroll)).getD 0 with
      | 0 => accept (s.placeRequest .resume)
      | n => accept (s.emptySlot.enterPreroll n .resume)
    else refuse s .state)

/-! ### The return to IDLE -/

/-- ABORT (R70). -/
def execAbort (s : State) : Result :=
  .next (s.takeCommand ⟨0x36, []⟩ fun s => if s.pass.state = .idle then refuse s .state else accept s.abortPass.settle)

/-- CLEAR (R69, R95, R114, R166, R186). -/
def execClear (s : State) : Result :=
  .next (s.takeCommand ⟨0x37, []⟩ fun s =>
    if s.pass.state = .complete then
      accept (s.toIdle.clearLineQueue.closeRecording.endFrame.finishHeldWrite).settle
    else refuse s .state)

/-- What PASS RESET does in every pass state after the abort (R71, R142, R186). -/
def State.passResetRest (s : State) : State :=
  let s := s.emptyLog.endFrame.activatePending
  { s with
    witness := { s.witness with lost := 0, axes := s.witness.axes.map fun w => { w.uncheck with inject := none } },
    pass := { s.pass with summary := none, context := none, hasRun := false },
    timebase := { s.timebase with passPulses := 0, advances := 0, frameOffset := 0, slips := 0 },
    memory := { s.memory with blockedAddress := none },
    port := { s.port with flags := s.port.flags &&& Event.reset.mask } }

/-- PASS_RESET (R71). DESIGN CHOICE (log entry 23): outside IDLE a free downstream slot is decided after the abort and before
the flags and the blocked-address record are cleared, so a write blocked at that decision loses both; R142 leaves open
whether such a block or the clearing comes first. -/
def execPassReset (s : State) : Result :=
  .next (s.takeCommand ⟨0x38, []⟩ fun s =>
    accept ((if s.pass.state = .idle then s else s.abortPass.settle).passResetRest))

end Sys2Proof.Machine
end

