-- ==== Sys2Proof/Machine/SettingCommands.lean ====
section
/-! DEFINITION. Meanings of CLEAR_EVENTS, SET_ENABLE, RESET_PART, SET_CAMERA, SET_AXIS, CLEAR_AXIS_FLAGS, INJECT,
READ_DEVIATION and UNKNOWN_OR_LENGTH. -/

namespace Sys2Proof.Machine

/-- A 16-bit field of flags, enables or axes, most significant byte first (R202). -/
def flagBytes (v : BitVec 16) : List Byte := bytes2 v

/-! ### The management port -/

/-- The named flags are cleared; DEVLOG stays set while the log holds a record, PROTECT takes the blocked-address record
and RESET takes power-seen with it (R142, R195, R198). -/
def State.clearEvents (s : State) (named : BitVec 16) : State :=
  let seen := s.port.powerSeen && !named.getLsbD Event.reset.bit
  let blocked := if named.getLsbD Event.protect.bit then none else s.memory.blockedAddress
  let cleared : State := { s with
    port := { s.port with flags := s.port.flags &&& ~~~ named, powerSeen := seen }
    memory := { s.memory with blockedAddress := blocked } }
  cleared.followLog

/-- CLEAR_EVENTS (R195). -/
def execClearEvents (named : BitVec 16) (s : State) : Result :=
  .next (s.takeCommand ⟨0x03, bytes2 named⟩ fun s =>
    let s := s.clearEvents named
    ⟨s, .ok, flagBytes s.port.flags⟩)

/-- SET_ENABLE (R196). -/
def execSetEnable (mask : BitVec 16) (s : State) : Result :=
  .next (s.takeCommand ⟨0x04, bytes2 mask⟩ fun s =>
    ⟨{ s with port := { s.port with mask := mask } }, .ok, flagBytes mask⟩)

/-- RESET_PART: the reset is pending until the rise of select (R199). -/
def execResetPart (s : State) : Result :=
  .next (s.takeCommand ⟨0x0F, []⟩ fun s => accept { s with port := { s.port with resetPending := true } })

/-- UNKNOWN or LENGTH for a taken frame (R191). -/
def Frame.refusal (fr : Frame) : Status :=
  match argCount fr.code with
  | none => .unknown
  | some _ => .length

/-- UNKNOWN_OR_LENGTH (R191). A frame whose code and argument count pass is the row of its own command, not this one. -/
def execUnknownOrLength (code : Byte) (args : List Byte) (s : State) : Result :=
  if (Frame.mk code args).passes then .refused .frameOfAnotherCommand
  else .next (s.takeCommand ⟨code, args⟩ fun s => refuse s (Frame.mk code args).refusal)

/-! ### The camera status receiver -/

def State.setCamera (s : State) (rule : Byte) : Answer :=
  match readCameraRule rule with
  | none => refuse s .range
  | some r => ⟨{ s with camera := { s.camera with rule := r, ring := [], wordCount := 0, errorCount := 0 } }, .ok, [rule]⟩

/-- SET_CAMERA (R80). -/
def execSetCamera (rule : Byte) (s : State) : Result :=
  .next (s.takeCommand ⟨0x40, [rule]⟩ fun s => s.setCamera rule)

/-! ### The axis unit -/

/-- The seven processing fields as result fields, in the order of R150 (R152, R155). -/
def Processing.bytes (p : Processing) : List Byte :=
  signedBytes 3 p.min ++ signedBytes 3 p.max ++ signedBytes 3 p.step ++ signedBytes 2 p.tol ++ [codeByte p.source.codeNat]
    ++ signedBytes 2 p.scale ++ signedBytes 3 p.offset

/-- An axis entry as result fields, in the order of R150. -/
def AxisEntry.bytes (e : AxisEntry) : List Byte :=
  [boolByte e.enabled] ++ beBytes 3 e.targetAddr ++ optBytes 3 (beBytes 3) e.feedbackAddr ++ e.processing.bytes

/-- The pass states in which a pass fixes the address fields (R152 check 4). -/
def State.addressesFixed (s : State) : Bool :=
  s.pass.state == .armed || s.pass.state == .preroll || s.pass.state == .running || s.pass.state == .parked

/-- The pass states in which processing fields go to the pending copy (R154). -/
def State.settingsPend (s : State) : Bool :=
  s.pass.state == .preroll || s.pass.state == .running || s.pass.state == .parked

/-- The address fields of two entries agree (R152 check 4). -/
def AxisEntry.sameAddresses (a b : AxisEntry) : Bool :=
  a.enabled == b.enabled && a.targetAddr == b.targetAddr && a.feedbackAddr == b.feedbackAddr

/-- An address is the target or present feedback address of another ENABLED entry (R153). -/
def State.addressTaken (s : State) (a addr : Nat) : Bool :=
  (List.range 16).any fun i =>
    i != a && (s.axis i).entry.enabled &&
      ((s.axis i).entry.targetAddr == addr || (s.axis i).entry.feedbackAddr == some addr)

/-- The address checks of an entry written with ENABLED yes (R153). -/
def State.addressConflict (s : State) (a : Nat) (e : AxisEntry) : Bool :=
  let clash := fun addr => s.addressTaken a addr || s.inRegion addr
  e.feedbackAddr == some e.targetAddr || clash e.targetAddr ||
    (match e.feedbackAddr with | some f => clash f | none => false)

/-- What an accepted SET AXIS does to the axis (R154). -/
def Axis.set (ax : Axis) (e : AxisEntry) (pend : Bool) : Axis :=
  if pend then { ax with pending := some e.processing }
  else
    let dropForwarded := ax.entry.targetAddr != e.targetAddr || (!ax.entry.enabled && e.enabled)
    let dropFeedback := ax.entry.feedbackAddr != e.feedbackAddr
    { ax with entry := e, pending := none,
              lastForwarded := if dropForwarded then none else ax.lastForwarded,
              lastFeedback := if dropFeedback then none else ax.lastFeedback }

/-- Whether an address field of SET AXIS is a multiple of 4 (R152 check 3). -/
def aligned (v : BitVec 24) : Bool := v.toNat % 4 == 0

def State.setAxis (s : State) (axis enabled : Byte) (target : BitVec 24) (present : Byte) (feedback min max step : BitVec 24)
    (tol : BitVec 16) (source : Byte) (scale : BitVec 16) (offset : BitVec 24) : Answer :=
  let a := axis.toNat
  if 16 ≤ a then refuse s .range
  else match readYesNo enabled, readYesNo present, readSource source with
    | some en, some pr, some src =>
      if !aligned target || (pr && !aligned feedback) then refuse s .range
      else
        let step' := clampNat 0 8388607 step.toNat
        let p : Processing :=
          { min := min.toInt, max := max.toInt, step := step', tol := tol.toNat, source := src, scale := scale.toInt,
            offset := offset.toInt }
        let e : AxisEntry := ⟨en, target.toNat, if pr then some feedback.toNat else none, p⟩
        if s.addressesFixed && !(s.axis a).entry.sameAddresses e then refuse s .busy
        else if p.max < p.min then refuse s .range
        else if en && s.addressConflict a e then refuse s .conflict
        else
          ⟨s.onAxis a fun ax => ax.set e s.settingsPend, okOr (step' != step.toNat),
           [axis, unlisted (if s.settingsPend then .copyPending else .copyActive)] ++ e.bytes⟩
    | _, _, _ => refuse s .range

/-- SET_AXIS (R152 to R154). -/
def execSetAxis (axis enabled : Byte) (target : BitVec 24) (feedbackPresent : Byte) (feedback min max step : BitVec 24)
    (tol : BitVec 16) (source : Byte) (scale : BitVec 16) (offset : BitVec 24) (s : State) : Result :=
  .next (s.takeCommand ⟨0x70, [axis] ++ [enabled] ++ bytes3 target ++ [feedbackPresent] ++ bytes3 feedback ++ bytes3 min
      ++ bytes3 max ++ bytes3 step ++ bytes2 tol ++ [source] ++ bytes2 scale ++ bytes3 offset⟩ fun s =>
    s.setAxis axis enabled target feedbackPresent feedback min max step tol source scale offset)

/-- The axes with a sticky flag set (R168). -/
def State.flaggedAxes (s : State) : AxisSet :=
  axisSet ((List.range 16).filter fun a => (s.axis a).sat || (s.axis a).clamp || (s.axis a).stepped)

/-- SAT, CLAMP and STEPPED of the named axes are cleared (R168). -/
def State.clearAxisFlags (s : State) (axes : AxisSet) : State :=
  { s with axes := s.axes.mapIdx fun a ax =>
      if axes.getLsbD a then { ax with sat := false, clamp := false, stepped := false } else ax }

/-- CLEAR_AXIS_FLAGS (R168). -/
def execClearAxisFlags (axes : AxisSet) (s : State) : Result :=
  .next (s.takeCommand ⟨0x73, bytes2 axes⟩ fun s => ⟨s.clearAxisFlags axes, .ok, flagBytes s.flaggedAxes⟩)

/-! ### The witness unit -/

/-- An inject offset as a result field: its range needs four signed bytes (R172, R202). -/
def injectBytes (o : Option Int) : List Byte := optBytes 4 (signedBytes 4) o

def State.setInject (s : State) (axis action : Byte) (offset : Int) : Answer :=
  let a := axis.toNat
  if 16 ≤ a then refuse s .range
  else if action = 0 then
    let off := clampInt (-Config.comparisonLimit) Config.comparisonLimit offset
    ⟨s.onWitnessAxis a fun w => { w with inject := some off }, okOr (off != offset), axis :: injectBytes (some off)⟩
  else if action = 1 then
    ⟨s.onWitnessAxis a fun w => { w with inject := none }, .ok, axis :: injectBytes none⟩
  else refuse s .range

/-- INJECT (R172). -/
def execInject (axis action : Byte) (offset : BitVec 32) (s : State) : Result :=
  .next (s.takeCommand ⟨0x80, [axis] ++ [action] ++ bytes4 offset⟩ fun s => s.setInject axis action offset.toInt)

/-- An entry of a deviation record (R203). -/
def DeviationEntry.bytes (e : DeviationEntry) : List Byte :=
  beBytes 1 e.axis ++ signedBytes 4 e.worst ++ beBytes 1 e.badCount ++ beBytes 2 e.count

/-- A deviation record as returned, before the count of records left (R203). -/
def DeviationRecord.bytes (r : DeviationRecord) : List Byte :=
  beBytes 2 r.timelineFrame ++ beBytes 4 r.passFrame ++ beBytes 1 r.entries.length ++ r.entries.flatMap DeviationEntry.bytes

def State.readDeviation (s : State) : Answer :=
  match s.witness.log with
  | [] => accept s
  | r :: rest =>
    ⟨({ s with witness := { s.witness with log := rest } } : State).followLog, .ok, r.bytes ++ beBytes 1 rest.length⟩

/-- READ_DEVIATION (R179, R180, R203). -/
def execReadDeviation (s : State) : Result := .next (s.takeCommand ⟨0x81, []⟩ State.readDeviation)

end Sys2Proof.Machine
end

