-- ==== Sys2Proof/Machine/Results.lean ====
section
/-! DEFINITION. The results of the READ commands, laid out by R202 to R205: the items a command's rule lists, in the order
listed. -/

namespace Sys2Proof.Machine

/-! ### Timebase and status (R24, R197) -/

def markByte (m : Mark) : Byte := unlisted (match m with | .good => .markGood | .bad => .markBad)

def BoundaryKind.byte (k : BoundaryKind) : Byte :=
  unlisted (match k with | .pulse => .kindPulse | .substituted => .kindSubstituted | .flywheel => .kindFlywheel)

def LockState.byte (l : LockState) : Byte := codeByte l.codeNat

/-- The boundary record: TIME, KIND, PERIOD, LOCK (R12); PERIOD is at most N_NOM + W, below 2^26. -/
def BoundaryRecord.bytes (r : BoundaryRecord) : List Byte :=
  beBytes 4 r.time ++ [r.kind.byte] ++ beBytes 4 r.period ++ [r.lock.byte]

def readTimebaseResult (s : State) : List Byte :=
  let t := s.timebase
  t.active.bytes ++ beBytes 3 t.active.w ++ optBytes 6 TimebaseSettings.bytes t.pending
    ++ [t.lock.byte, codeByte t.run, boolByte t.lockPending] ++ beBytes 2 t.holdoverCount
    ++ listBytes 8 1 (fun m => [markByte m]) t.history ++ optBytes 10 BoundaryRecord.bytes t.record
    ++ beBytes 4 t.refTime ++ beBytes 4 t.flywheel ++ beBytes 4 t.passPulses ++ beBytes 4 t.advances
    ++ signedBytes 2 t.frameOffset ++ beBytes 2 t.slips

/-- ROLL, SPEED and MARK (R81, R197). -/
def wordFields (w : Byte) : List Byte := [boolByte (wordRoll w), boolByte (wordSpeed w), codeByte (wordMark w)]

def readStatusResult (s : State) : List Byte :=
  beBytes 2 Config.family ++ beBytes 1 Config.revision
    ++ [codeByte s.port.resetCause.codeNat, boolByte s.port.powerSeen, s.timebase.lock.byte, codeByte s.pass.state.codeNat]
    ++ optBytes 4 (beBytes 4) s.position ++ wordFields s.camera.declared ++ flagBytes s.port.flags

def readEventsResult (s : State) : List Byte := flagBytes s.port.flags ++ flagBytes s.port.mask

/-! ### Takes (R28, R204) -/

def readRegionResult (s : State) : List Byte :=
  s.regionBytes ++ beBytes 1 s.directory.inUse ++ beBytes 1 s.directory.verifyOrder.length
    ++ optBytes 1 (beBytes 1) s.directory.verifyOrder.head?

def RecordInfo.bytes (i : RecordInfo) : List Byte :=
  beBytes 4 i.nom ++ beBytes 2 i.pace ++ beBytes 1 i.mark ++ beBytes 4 i.clamps

/-- KIND with BASE, and later PARENT and OFFSET, 0 for the other kind (R204). -/
def TakeKind.codeNat : TakeKind → Nat
  | .storage _ _ => 0 | .aliasOf _ _ => 1

def TakeKind.parent : TakeKind → Nat
  | .storage _ _ => 0 | .aliasOf parent _ => parent

/-- The place of a take in the verify order, 1 at the head; 0 when it is not VERIFYING (R46, R204). -/
def State.verifyPlace (s : State) (t : Nat) (e : TakeEntry) : Nat :=
  if e.state = .verifying then (s.directory.verifyOrder.idxOf t) + 1 else 0

/-- The verify cursor of a VERIFYING take at the head (R46). -/
def State.cursorOf (s : State) (t : Nat) (e : TakeEntry) : Option Nat :=
  if e.state = .verifying ∧ s.directory.verifyOrder.head? = some t then s.directory.verifyCursor else none

/-- The root's PROTECTED field of an alias; no for a STORAGE take (R46, R204). -/
def State.rootGuarded (s : State) (e : TakeEntry) : Bool :=
  match e.kind with
  | .storage _ _ => false
  | .aliasOf parent _ => ((s.entry parent).map TakeEntry.guarded).getD false

/-- READ TAKE's layout (R204). -/
def takeBytes (s : State) (t : Nat) (e : TakeEntry) : List Byte :=
  [codeByte e.state.codeNat, codeByte e.kind.codeNat] ++ beBytes 3 e.base ++ beBytes 3 e.lines ++ beBytes 1 e.k
    ++ bytes2 e.tracks ++ [boolByte e.guarded, boolByte e.truncated] ++ beBytes 1 e.kind.parent ++ beBytes 3 e.aliasOffset
    ++ beBytes 2 e.passCount ++ optBytes 3 (beBytes 3) e.failLine ++ optBytes 11 RecordInfo.bytes e.recordInfo
    ++ beBytes 3 (if e.state = .recording then e.written else 0) ++ beBytes 1 (s.verifyPlace t e)
    ++ optBytes 3 (beBytes 3) (s.cursorOf t e) ++ [boolByte (s.rootGuarded e)]

/-- A FREE entry is one byte, STATE 0 (R204). -/
def readTakeResult (s : State) (t : Nat) : List Byte :=
  match s.entry t with
  | none => [0]
  | some e => takeBytes s t e

/-! ### Pass (R205) -/

/-- An enumerated field absent for the mode is 0xFF (R202). -/
def optCode {α : Type} (f : α → Nat) : Option α → Byte
  | some x => codeByte (f x)
  | none => 0xFF

/-- The context block of READ PASS; a numeric field absent for the mode is 0 (R202, R205). -/
def PassContext.bytes (c : PassContext) : List Byte :=
  [codeByte c.mode.codeNat] ++ beBytes 1 c.take ++ beBytes 2 c.startFrame ++ beBytes 2 c.pace
    ++ [optCode Interp.codeNat c.interp, codeByte c.trigger.codeNat, boolByte c.requireLock] ++ beBytes 1 c.preroll
    ++ beBytes 1 c.resumePreroll ++ [optCode Policy.codeNat c.policy] ++ beBytes 2 (c.length.getD 0)
    ++ beBytes 3 (c.maxLines.getD 0) ++ beBytes 1 c.k ++ bytes2 c.tracks ++ beBytes 3 (c.base.getD 0)

def Summary.bytes (m : Summary) : List Byte :=
  [codeByte m.mode.codeNat] ++ beBytes 1 m.take ++ beBytes 2 m.startFrame ++ [optCode PassOutcome.codeNat m.outcome]
    ++ beBytes 4 m.frames ++ signedBytes 2 m.frameOffset ++ beBytes 2 m.slips ++ beBytes 4 m.clamps
    ++ beBytes 4 m.saturates ++ beBytes 4 m.starves ++ beBytes 4 m.tagFails ++ beBytes 4 m.records ++ beBytes 4 m.lost
    ++ optBytes 1 (beBytes 1) m.mark ++ [boolByte m.syncLost]

/-- READ PASS's layout: header, context, summary (R205). -/
def readPassResult (s : State) : List Byte :=
  [codeByte s.pass.state.codeNat, boolByte s.pass.hasRun,
   codeByte ((s.pass.pending.map Request.codeNat).getD 0)]
    ++ beBytes 1 ((s.pass.preroll.map (·.count)).getD 0) ++ [codeByte ((s.pass.preroll.map (·.origin.codeNat)).getD 0)]
    ++ optBytes 4 (beBytes 4) s.position ++ optBytes 23 PassContext.bytes s.pass.context
    ++ optBytes 40 Summary.bytes s.pass.summary

/-! ### Camera (R81) -/

/-- A slot of the ring: a word or NONE (R77, R202). -/
def slotBytes (o : Option Byte) : List Byte := optBytes 1 (fun w => [w]) o

def readCameraResult (s : State) : List Byte :=
  wordFields s.camera.declared ++ [codeByte s.camera.rule.codeNat] ++ listBytes 10 2 slotBytes s.camera.ring
    ++ slotBytes s.camera.held ++ beBytes 2 s.camera.wordCount ++ beBytes 2 s.camera.errorCount

/-! ### Recording and line queue (R97, R115, R116) -/

def WriterPosition.bytes (w : WriterPosition) : List Byte := [codeByte w.word, boolByte w.inFlight]

/-- The count of lines written of the RECORDING entry (R97). -/
def State.writtenCount (s : State) : Option Nat :=
  (s.directory.entries.filterMap id).findSome? fun e => if e.state = .recording then some e.written else none

def readRecordResult (s : State) : List Byte :=
  let r := s.recording
  [unlisted (if r.isOpen then .recordingOpen else .recordingClosed)] ++ beBytes 1 r.queue.length
    ++ optBytes 3 (beBytes 3) (r.queue.head?.map (·.index)) ++ optBytes 2 WriterPosition.bytes r.writer
    ++ beBytes 1 r.highWater ++ beBytes 3 s.timebase.nextPoint ++ optBytes 3 (beBytes 3) s.writtenCount

def Assembly.bytes (a : Assembly) : List Byte :=
  beBytes 3 a.index ++ beBytes 1 a.words.length ++ [boolByte a.inFlight]

def readLineQueueResult (s : State) : List Byte :=
  let q := s.lineQueue
  optBytes 1 (beBytes 1) (q.geometry.map (·.take)) ++ optBytes 3 (beBytes 3) (q.geometry.map (·.lines))
    ++ optBytes 1 (beBytes 1) (q.geometry.map (·.root)) ++ optBytes 3 (beBytes 3) (q.geometry.map (·.offset))
    ++ beBytes 1 q.lines.length ++ optBytes 3 (beBytes 3) (q.lines.head?.map (·.index))
    ++ optBytes 3 (beBytes 3) (q.lines.getLast?.map (·.index)) ++ beBytes 1 (q.lines.countP fun l => !l.usable)
    ++ optBytes 5 Assembly.bytes q.assembly ++ optBytes 3 (beBytes 3) q.nextFetch ++ optBytes 3 (beBytes 3) q.currentLine
    ++ beBytes 1 q.lookahead ++ [boolByte s.lineUrgent]

/-- A 32-bit word as a result field. -/
def wordBytes (w : Word) : List Byte := bytes4 w

/-- The n places for the words read so far of a line in assembly, each marked read or not yet read (R116). -/
def assemblyWords : Nat → List Word → List Byte
  | 0, _ => []
  | n + 1, [] => 0 :: List.replicate 4 0 ++ assemblyWords n []
  | n + 1, w :: rest => 1 :: wordBytes w ++ assemblyWords n rest

/-- READ QUEUED LINE's result: the index, a mark, and the words (R116; the layout is the model's choice, log entry 3). -/
def readQueuedLineResult (s : State) (i : Nat) : List Byte :=
  match s.lineQueue.copyOf i with
  | some l =>
    beBytes 3 i ++ [unlisted (if l.usable then .lineUsable else .lineUnusable)] ++ l.words.flatMap wordBytes
  | none =>
    match s.lineQueue.geometry, s.lineQueue.assembly with
    | some g, some a =>
      if a.index = i then beBytes 3 i ++ [unlisted .lineInAssembly] ++ assemblyWords (1 + g.trackCount) a.words
      else beBytes 3 i ++ [unlisted .lineAbsent]
    | _, _ => beBytes 3 i ++ [unlisted .lineAbsent]

/-! ### Interpolator (R130) -/

/-- READ_AT with its captured position, absent for LAST_LINE. -/
def ReadAt.bytes : ReadAt → List Byte
  | .position p => unlisted .readAtPosition :: optBytes 4 (beBytes 4) (some p)
  | .frozen p => unlisted .readAtFrozen :: optBytes 4 (beBytes 4) (some p)
  | .lastLine => unlisted .readAtLastLine :: optBytes 4 (beBytes 4) none

def SlotRecord.bytes (sl : SlotRecord) : List Byte :=
  beBytes 3 sl.index ++ [boolByte sl.good] ++ optBytes 1 (signedBytes 1) sl.used

def InterpOutcome.byte : InterpOutcome → Byte
  | .value _ => unlisted .outcomeValue
  | .hold _ => unlisted .outcomeHold
  | .unavailable => unlisted .outcomeUnavailable

def InterpOutcome.result : InterpOutcome → Option Int
  | .value r => some r
  | .hold r => some r
  | .unavailable => none

def EvalRecord.bytes (e : EvalRecord) : List Byte :=
  beBytes 1 e.axis ++ [codeByte e.mode.codeNat, codeByte e.interp.codeNat] ++ e.readAt.bytes ++ beBytes 3 e.sIndex
    ++ beBytes 2 e.phase ++ e.slots.flatMap SlotRecord.bytes ++ [e.outcome.byte]
    ++ optBytes 3 (signedBytes 3) e.outcome.result ++ [boolByte e.saturated]

/-- The last evaluation record (R130), 44 bytes when present. -/
def readEvaluationResult (s : State) : List Byte := optBytes 44 EvalRecord.bytes s.interpolator.lastEval

/-! ### Memory path (R149) -/

def directionByte (write : Bool) : Byte := unlisted (if write then .directionWrite else .directionRead)

def TxnClass.byte : TxnClass → Byte
  | .target => unlisted .classTarget
  | .feedback => unlisted .classFeedback
  | .region => unlisted .classRegion
  | .plain => unlisted .classPlain

def TxnPhase.byte (p : TxnPhase) : Byte :=
  unlisted (match p with | .atAxis => .phaseAtAxis | .waiting => .phaseWaiting | .downstream => .phaseDownstream)

/-- The upstream transaction record of READ PATH. DESIGN CHOICE (log entry 3): LANES is one byte with bit i for lane i, and
PHASE comes before FORWARD_DATA, in the order R149 lists them (R131's table has them the other way round). -/
def UpstreamTxn.bytes (t : UpstreamTxn) : List Byte :=
  beBytes 3 t.address ++ [directionByte t.write] ++ beBytes 1 t.lanes.toNat ++ [t.cls.byte] ++ optBytes 1 (beBytes 1) t.axis
    ++ [t.phase.byte] ++ optBytes 4 wordBytes t.forwardData

def DownstreamTxn.bytes (d : DownstreamTxn) : List Byte :=
  [unlisted (if d.owner = .passThrough then .ownerPassThrough else .ownerTakeEngine)] ++ beBytes 3 d.address
    ++ [directionByte d.write]

def readPathResult (s : State) : List Byte :=
  let m := s.memory
  optBytes 14 UpstreamTxn.bytes m.upstream ++ optBytes 5 DownstreamTxn.bytes m.downstream ++ beBytes 1 m.urgentRun
    ++ [boolByte s.takeRequests, boolByte s.takeUrgent] ++ optBytes 3 (beBytes 3) m.blockedAddress
    ++ beBytes 2 m.protectBlocks ++ beBytes 2 m.partialBlocks

/-! ### Axis unit (R155, R167) -/

def getAxisResult (s : State) (a : Nat) : List Byte :=
  (s.axis a).entry.bytes ++ optBytes 17 Processing.bytes (s.axis a).pending

/-- The axis is a track of the take of a pass not in IDLE (R167). -/
def State.isPassTrack (s : State) (a : Nat) : Bool := s.pass.state != .idle && s.isTrack a

def readAxisResult (s : State) (a : Nat) : List Byte :=
  let ax := s.axis a
  let processing := s.writeInProcessing.map (·.axis) == some a
  optBytes 3 (signedBytes 3) ax.lastForwarded ++ [boolByte ax.sat, boolByte ax.clamp, boolByte ax.stepped]
    ++ [boolByte ax.clampSince, boolByte ax.satSince] ++ optBytes 3 (signedBytes 3) ax.previousResult
    ++ optBytes 3 (signedBytes 3) ax.lastFeedback ++ injectBytes (s.witnessAxis a).inject
    ++ [boolByte (s.isPassTrack a), boolByte processing, boolByte (processing && s.interpolator.inFlight.isSome)]

/-! ### Witness unit (R185) -/

def Conformance.byte (c : Conformance) : Byte :=
  unlisted (match c with | .unchecked => .unchecked | .conforming => .conforming | .diverged => .diverged)

def FrameStart.bytes (f : FrameStart) : List Byte := beBytes 2 f.timelineFrame ++ beBytes 4 f.passFrame

def readWitnessResult (s : State) (a : Nat) : List Byte :=
  let w := s.witnessAxis a
  [w.state.byte] ++ listBytes 16 1 (fun m => [markByte m]) w.history ++ beBytes 1 (badMarks w.history)
    ++ optBytes 4 (signedBytes 4) w.worst ++ beBytes 2 w.count ++ beBytes 1 w.badCount ++ injectBytes w.inject
    ++ optBytes 6 FrameStart.bytes s.witness.frameStart ++ beBytes 1 s.witness.log.length ++ beBytes 2 s.witness.lost

end Sys2Proof.Machine
end

