-- ==== Sys2Proof/Machine/ReadCommands.lean ====
section
/-! DEFINITION. Meanings of the READ commands that change nothing but the response. -/

namespace Sys2Proof.Machine

/-- A READ command's body: no effect, and the result read from the state as the command finds it (R192). -/
def readBody (result : State → List Byte) (s : State) : Answer := ⟨s, .ok, result s⟩

/-- READ_STATUS (R197). -/
def execReadStatus (s : State) : Result := .next (s.takeCommand ⟨0x01, []⟩ (readBody readStatusResult))

/-- READ_EVENTS (R195). -/
def execReadEvents (s : State) : Result := .next (s.takeCommand ⟨0x02, []⟩ (readBody readEventsResult))

/-- READ_TIMEBASE (R24). -/
def execReadTimebase (s : State) : Result := .next (s.takeCommand ⟨0x11, []⟩ (readBody readTimebaseResult))

/-- READ_REGION (R28). -/
def execReadRegion (s : State) : Result := .next (s.takeCommand ⟨0x21, []⟩ (readBody readRegionResult))

/-- A take number outside 1 to 32 is refused NO TAKE (R46). -/
def State.readTake (s : State) (take : Byte) : Answer :=
  if takeInRange take.toNat then readBody (fun s => readTakeResult s take.toNat) s else refuse s .noTake

/-- READ_TAKE (R46). -/
def execReadTake (take : Byte) (s : State) : Result := .next (s.takeCommand ⟨0x27, [take]⟩ fun s => s.readTake take)

/-- READ_PASS (R73). -/
def execReadPass (s : State) : Result := .next (s.takeCommand ⟨0x39, []⟩ (readBody readPassResult))

/-- READ_CAMERA (R81). -/
def execReadCamera (s : State) : Result := .next (s.takeCommand ⟨0x41, []⟩ (readBody readCameraResult))

/-- READ_RECORD (R97). -/
def execReadRecord (s : State) : Result := .next (s.takeCommand ⟨0x50, []⟩ (readBody readRecordResult))

/-- READ_LINE_QUEUE (R115). -/
def execReadLineQueue (s : State) : Result := .next (s.takeCommand ⟨0x51, []⟩ (readBody readLineQueueResult))

/-- READ_QUEUED_LINE (R116). -/
def execReadQueuedLine (index : BitVec 24) (s : State) : Result :=
  .next (s.takeCommand ⟨0x52, bytes3 index⟩ (readBody fun s => readQueuedLineResult s index.toNat))

/-- READ_EVALUATION (R130). -/
def execReadEvaluation (s : State) : Result := .next (s.takeCommand ⟨0x53, []⟩ (readBody readEvaluationResult))

/-- READ_PATH (R149). -/
def execReadPath (s : State) : Result := .next (s.takeCommand ⟨0x60, []⟩ (readBody readPathResult))

/-- A READ of one axis refuses RANGE for an axis that does not exist (R155, R167, R185). -/
def State.readOfAxis (s : State) (axis : Byte) (result : State → Nat → List Byte) : Answer :=
  if axis.toNat < 16 then readBody (fun s => result s axis.toNat) s else refuse s .range

/-- GET_AXIS (R155). -/
def execGetAxis (axis : Byte) (s : State) : Result :=
  .next (s.takeCommand ⟨0x71, [axis]⟩ fun s => s.readOfAxis axis getAxisResult)

/-- READ_AXIS (R167). -/
def execReadAxis (axis : Byte) (s : State) : Result :=
  .next (s.takeCommand ⟨0x72, [axis]⟩ fun s => s.readOfAxis axis readAxisResult)

/-- READ_WITNESS (R185). -/
def execReadWitness (axis : Byte) (s : State) : Result :=
  .next (s.takeCommand ⟨0x82, [axis]⟩ fun s => s.readOfAxis axis readWitnessResult)

end Sys2Proof.Machine
end

