-- ==== Sys2Proof/Machine/Dispatch.lean ====
section
/-! DEFINITION. One arm per command of the table. -/

namespace Sys2Proof.Machine

def exec (i : Instr) (s : State) : Host.Outcome State Fault Refusal :=
  match i with
  | .syncPulse after order => Sys2Proof.Machine.execSyncPulse after order s
  | .flywheelBoundary order => Sys2Proof.Machine.execFlywheelBoundary order s
  | .substitutedBoundary order => Sys2Proof.Machine.execSubstitutedBoundary order s
  | .holdoverRunReset => Sys2Proof.Machine.execHoldoverRunReset s
  | .samplePoint => Sys2Proof.Machine.execSamplePoint s
  | .statusCharacter after data parity stop => Sys2Proof.Machine.execStatusCharacter after data parity stop s
  | .upstreamTransactionTaken presented write address lanes data => Sys2Proof.Machine.execUpstreamTransactionTaken presented write address lanes data s
  | .interpolationEnd completion => Sys2Proof.Machine.execInterpolationEnd completion s
  | .downstreamComplete completion data => Sys2Proof.Machine.execDownstreamComplete completion data s
  | .selectFall opening => Sys2Proof.Machine.execSelectFall opening s
  | .selectRise after clocked => Sys2Proof.Machine.execSelectRise after clocked s
  | .powerOn up => Sys2Proof.Machine.execPowerOn up s
  | .resetPin after => Sys2Proof.Machine.execResetPin after s
  | .resetEnd => Sys2Proof.Machine.execResetEnd s
  | .readStatus => Sys2Proof.Machine.execReadStatus s
  | .readEvents => Sys2Proof.Machine.execReadEvents s
  | .clearEvents named => Sys2Proof.Machine.execClearEvents named s
  | .setEnable mask => Sys2Proof.Machine.execSetEnable mask s
  | .resetPart => Sys2Proof.Machine.execResetPart s
  | .setTimebase nNom window holdoverLimit => Sys2Proof.Machine.execSetTimebase nNom window holdoverLimit s
  | .readTimebase => Sys2Proof.Machine.execReadTimebase s
  | .setRegion base size => Sys2Proof.Machine.execSetRegion base size s
  | .readRegion => Sys2Proof.Machine.execReadRegion s
  | .declare take base lines k tracks => Sys2Proof.Machine.execDeclare take base lines k tracks s
  | .delete take => Sys2Proof.Machine.execDelete take s
  | .protect take => Sys2Proof.Machine.execProtect take s
  | .unprotect take => Sys2Proof.Machine.execUnprotect take s
  | .aliasTake take parent offset length => Sys2Proof.Machine.execAlias take parent offset length s
  | .readTake take => Sys2Proof.Machine.execReadTake take s
  | .recordArm take base maxLines k tracks trigger requireLock preroll pace length => Sys2Proof.Machine.execRecordArm take base maxLines k tracks trigger requireLock preroll pace length s
  | .replayArm take startFrame pace interp trigger requireLock preroll resumePreroll policy => Sys2Proof.Machine.execReplayArm take startFrame pace interp trigger requireLock preroll resumePreroll policy s
  | .witnessArm take startFrame pace interp trigger requireLock preroll resumePreroll policy => Sys2Proof.Machine.execWitnessArm take startFrame pace interp trigger requireLock preroll resumePreroll policy s
  | .stop => Sys2Proof.Machine.execStop s
  | .park => Sys2Proof.Machine.execPark s
  | .resume => Sys2Proof.Machine.execResume s
  | .abort => Sys2Proof.Machine.execAbort s
  | .clear => Sys2Proof.Machine.execClear s
  | .passReset => Sys2Proof.Machine.execPassReset s
  | .readPass => Sys2Proof.Machine.execReadPass s
  | .setCamera rule => Sys2Proof.Machine.execSetCamera rule s
  | .readCamera => Sys2Proof.Machine.execReadCamera s
  | .readRecord => Sys2Proof.Machine.execReadRecord s
  | .readLineQueue => Sys2Proof.Machine.execReadLineQueue s
  | .readQueuedLine index => Sys2Proof.Machine.execReadQueuedLine index s
  | .readEvaluation => Sys2Proof.Machine.execReadEvaluation s
  | .readPath => Sys2Proof.Machine.execReadPath s
  | .setAxis axis enabled target feedbackPresent feedback min max step tol source scale offset => Sys2Proof.Machine.execSetAxis axis enabled target feedbackPresent feedback min max step tol source scale offset s
  | .getAxis axis => Sys2Proof.Machine.execGetAxis axis s
  | .readAxis axis => Sys2Proof.Machine.execReadAxis axis s
  | .clearAxisFlags axes => Sys2Proof.Machine.execClearAxisFlags axes s
  | .inject axis action offset => Sys2Proof.Machine.execInject axis action offset s
  | .readDeviation => Sys2Proof.Machine.execReadDeviation s
  | .readWitness axis => Sys2Proof.Machine.execReadWitness axis s
  | .unknownOrLength code args => Sys2Proof.Machine.execUnknownOrLength code args s
  | .statusStartEdge after low => Sys2Proof.Machine.execStatusStartEdge after low s
  | .statusLineReturnHigh after => Sys2Proof.Machine.execStatusLineReturnHigh after s
  | .resetPinRelease after => Sys2Proof.Machine.execResetPinRelease after s

end Sys2Proof.Machine
end

