-- ==== Sys2Proof/WellFormed.lean ====
section
/-! DEFINITION. Which terms are commands of the table. A field of a management frame is as wide as its bytes, and a code
byte that is not listed is an answer of the part and no ill-formed command, so two rows only have ill-formed terms. -/

namespace Sys2Proof

/-- The bytes received so far leave the request of a frame incomplete (R189). -/
def requestOpen : List Byte → Bool
  | _ :: length :: args => decide (args.length < length.toNat)
  | _ => true

/-- A frame is the row UNKNOWN_OR_LENGTH when its length fits the length byte and its code or its argument count fails the
checks of R191; the early bytes of SELECT_FALL leave the last byte of the request to the command's row; every other term is a
command. -/
def Instr.wellFormed : Instr → Bool
  | .unknownOrLength code args => decide (args.length ≤ 255) && !(Machine.Frame.mk code args).passes
  | .syncPulse _ _ => true
  | .flywheelBoundary _ => true
  | .substitutedBoundary _ => true
  | .holdoverRunReset => true
  | .samplePoint => true
  | .statusCharacter _ _ _ _ => true
  | .upstreamTransactionTaken _ _ _ _ _ => true
  | .interpolationEnd _ => true
  | .downstreamComplete _ _ => true
  | .selectFall opening => requestOpen (opening.early.map (·.2))
  | .selectRise _ _ => true
  | .powerOn _ => true
  | .resetPin _ => true
  | .resetEnd => true
  | .readStatus => true
  | .readEvents => true
  | .clearEvents _ => true
  | .setEnable _ => true
  | .resetPart => true
  | .setTimebase _ _ _ => true
  | .readTimebase => true
  | .setRegion _ _ => true
  | .readRegion => true
  | .declare _ _ _ _ _ => true
  | .delete _ => true
  | .protect _ => true
  | .unprotect _ => true
  | .aliasTake _ _ _ _ => true
  | .readTake _ => true
  | .recordArm _ _ _ _ _ _ _ _ _ _ => true
  | .replayArm _ _ _ _ _ _ _ _ _ => true
  | .witnessArm _ _ _ _ _ _ _ _ _ => true
  | .stop => true
  | .park => true
  | .resume => true
  | .abort => true
  | .clear => true
  | .passReset => true
  | .readPass => true
  | .setCamera _ => true
  | .readCamera => true
  | .readRecord => true
  | .readLineQueue => true
  | .readQueuedLine _ => true
  | .readEvaluation => true
  | .readPath => true
  | .setAxis _ _ _ _ _ _ _ _ _ _ _ _ => true
  | .getAxis _ => true
  | .readAxis _ => true
  | .clearAxisFlags _ => true
  | .inject _ _ _ => true
  | .readDeviation => true
  | .readWitness _ => true
  | .statusStartEdge _ _ => true
  | .statusLineReturnHigh _ => true
  | .resetPinRelease _ => true

end Sys2Proof
end

