-- ==== Sys2Proof/Safety.lean ====
section
/-! DEFINITION. What holds of the part between steps, in the terms the statements use: the bounds and shapes the spec gives
its fields, and a queue of well-formed commands. -/

namespace Sys2Proof.Machine

/-- N_NOM, WINDOW and HOLDOVER_LIMIT in the ranges SET TIMEBASE clamps them to (R21, R22). -/
abbrev TimebaseSettings.inRange (t : TimebaseSettings) : Prop :=
  125000 ≤ t.nNom ∧ t.nNom ≤ 50000000 ∧ 1 ≤ t.window ∧ t.window ≤ 32 ∧ 1 ≤ t.holdoverLimit ∧ t.holdoverLimit ≤ 255

/-- The bounds of the timebase: a run of at most 8, at most 8 marks, the holdover count at most its limit, intervals and
counts at their stops, a frame offset within 16 signed bits, a position on the timeline, settings in their ranges (R1, R3,
R7, R8, R11, R14 to R16, R19 to R22). -/
abbrev Timebase.bounded (t : Timebase) : Prop :=
  t.run ≤ 8 ∧ t.history.length ≤ Config.qualificationDepth ∧ t.holdoverCount ≤ t.active.holdoverLimit
    ∧ t.active.inRange ∧ (∀ p ∈ t.pending, p.inRange)
    ∧ (∀ i ∈ t.interval, i ≤ Config.countLimit) ∧ t.flywheel ≤ Config.countLimit ∧ t.refTime < 4294967296
    ∧ (∀ p ∈ t.position, p < Config.timelineLimit) ∧ t.passPulses ≤ Config.countLimit ∧ t.advances ≤ Config.countLimit
    ∧ -32767 ≤ t.frameOffset ∧ t.frameOffset ≤ 32767 ∧ t.slips ≤ 65535

/-- The counts of the pass summary stop at their limits (R72). -/
abbrev Summary.bounded (m : Summary) : Prop :=
  m.frames ≤ Config.countLimit ∧ -32767 ≤ m.frameOffset ∧ m.frameOffset ≤ 32767 ∧ m.slips ≤ 65535
    ∧ m.clamps ≤ Config.countLimit ∧ m.saturates ≤ Config.countLimit ∧ m.starves ≤ Config.countLimit
    ∧ m.tagFails ≤ Config.countLimit ∧ m.records ≤ Config.countLimit ∧ m.lost ≤ Config.countLimit

/-- 32 entries, and PASS_COUNT stops at 65535 (R29, R47). -/
abbrev Directory.bounded (d : Directory) : Prop :=
  d.entries.length = 32 ∧ ∀ x ∈ d.entries, ∀ e ∈ x, e.passCount ≤ 65535

/-- The line queue holds at most 32 lines, and fewer while a line is in assembly, so that the line in assembly finds room
(R99, R101). -/
abbrev LineQueue.bounded (q : LineQueue) : Prop :=
  q.lines.length + q.assembly.toList.length ≤ Config.lineQueueDepth

/-- The receive ring holds at most the slots of its rule, and the two counts stop at 65535 (R74, R75, R77). -/
abbrev Camera.bounded (c : Camera) : Prop :=
  c.ring.length ≤ c.rule.capacity ∧ c.wordCount ≤ 65535 ∧ c.errorCount ≤ 65535

/-- The record queue holds at most 16 lines (R88), and HIGH_WATER is within the same bound (R84). -/
abbrev Recording.bounded (r : Recording) : Prop :=
  r.queue.length ≤ Config.recordQueueDepth ∧ r.highWater ≤ Config.recordQueueDepth

/-- A comparison history holds at most 16 marks and the counts of a frame stop at their limits (R174, R181). -/
abbrev WitnessAxis.bounded (w : WitnessAxis) : Prop :=
  w.history.length ≤ Config.comparisonDepth ∧ w.count ≤ 65535 ∧ w.badCount ≤ 255

/-- At most 64 deviation records, and the lost count stops at 65535 (R178). -/
abbrev Witness.bounded (w : Witness) : Prop :=
  w.log.length ≤ Config.deviationLogDepth ∧ w.lost ≤ 65535 ∧ w.axes.length = 16 ∧ ∀ a ∈ w.axes, a.bounded

/-- The counts of the memory path stop at their limits (R137, R141, R145). -/
abbrev MemoryPath.bounded (m : MemoryPath) : Prop :=
  m.urgentRun ≤ 4 ∧ m.protectBlocks ≤ 65535 ∧ m.partialBlocks ≤ 65535

/-- An interpolation has four slots, and so has its record (R119, R130). -/
abbrev Interpolator.bounded (i : Interpolator) : Prop :=
  (∀ r ∈ i.inFlight, r.slots.length = 4) ∧ ∀ e ∈ i.lastEval, e.slots.length = 4

/-- What has been received of a request fits the frame phase: nothing in CODE, the code in LENGTH, the code, the declared
length and fewer argument bytes than it declares in ARGUMENTS (R188, R189). -/
abbrev Port.receiving (p : Port) : Prop :=
  (p.phase = .code → p.code = none ∧ p.length = none ∧ p.args = [])
    ∧ (p.phase = .length → p.code ≠ none ∧ p.length = none ∧ p.args = [])
    ∧ (p.phase = .arguments → p.code ≠ none ∧ p.args.length < (p.length.map BitVec.toNat).getD 0)

/-- The invariant of the part. -/
structure State.Inv (s : State) : Prop where
  timebase : s.timebase.bounded
  camera : s.camera.bounded
  summary : ∀ m ∈ s.pass.summary, m.bounded
  directory : s.directory.bounded
  recording : s.recording.bounded
  lineQueue : s.lineQueue.bounded
  witness : s.witness.bounded
  memory : s.memory.bounded
  interpolator : s.interpolator.bounded
  port : s.port.receiving
  axes : s.axes.length = 16

/-- Every waiting command is a command of the table. -/
def State.queueWellFormed (s : State) : Bool := s.pending.all Instr.wellFormed

/-- Nothing of a frame has been received but its begin, and no boundary of this instant is still on its way to a block: the
state a management command's effect is stated on (R188, R189). CommandTakenAtItsLastByte brings every other state back to
this one. -/
abbrev State.takesCommand (s : State) : Prop := s.port.phase = .code ∧ s.due.any Delivery.isBoundary = false

/-- What a management command leaves that has been taken: the state of its effect, the frame received, and
the response with nothing of it shifted out yet (R189, R190). -/
def State.answered (effect : State) (fr : Frame) (st : Status) (result : List Byte) : State :=
  { effect with port := { effect.port with
      phase := .response, code := some fr.code, length := some (BitVec.ofNat 8 fr.args.length), args := fr.args,
      incoming := [], response := some ⟨st.byte, result, 0⟩ } }

/-- W of the active settings (R21). -/
def State.window (s : State) : Nat := s.timebase.active.nNom * s.timebase.active.window / 256

/-- The pass pulse count after one more non-runt pulse: counted in RUNNING and PARKED, stopping at 2^32 − 1 (R1, R19). -/
def State.pulsesAfter (s : State) : Nat :=
  if s.pass.state = .running ∨ s.pass.state = .parked then min (s.timebase.passPulses + 1) 4294967295
  else s.timebase.passPulses

/-- A run is safe as long as its steps answer a next state. -/
def State.goesOn (s : State) : Prop := ∃ t, step s = .next t

end Sys2Proof.Machine
end

