-- ==== Sys2Proof/Certificates/Slice0/Obligations.lean ====
section
/-! DEFINITION. The statements for the provers. Where a row carries `after`, the statement speaks of the state once those
counts have passed. A management command's statement is about a command taken in phase CODE with no boundary of the instant
on its way (State.takesCommand); CommandTakenAtItsLastByte brings every other state back to that. -/

open Sys2Proof Sys2Proof.Machine

/-! ### The step, the reset state, the invariant -/

/-- A step takes the command at the front of the queue and is that command's effect on the state with the queue's
rest. On an empty queue, while no reset is in force and no block has anything waiting from another (State.due, log
entry 1), the part's own time goes on (log entry 6): when the flywheel has reached N_NOM, or N_NOM + W in LOCKED, the
step makes the FLYWHEEL or the SUBSTITUTED boundary (R6, R11), in some order of the blocks; when a sample point is
reached it raises it (R17); W after a flywheel boundary of HOLDOVER it resets the run (R9); with nothing due, one
reference count passes: interval and flywheel count up, stopping at 2³² − 1, and the reference time wraps at 2³² (R1,
R11, R12). While a reset is in force only its span passes, and then the reset ends (R198, R206). -/
def Obligations.StepRunsFrontCommand : Prop :=
  (∀ (s : State) (c : Instr) (rest : List Instr), s.pending = c :: rest → step s = exec c { s with pending := rest })
  ∧ (∀ s : State, s.pending = [] → s.resetControl.inForce = false → s.due = [] →
    let t := s.timebase
    let boundary := if t.lock = .locked then t.active.nNom + s.window else t.active.nNom
    let made : State := { s with openOrders := s.openOrders + 1 }
    let own (order : BoundaryOrder) : Instr :=
      if t.lock = .locked then .substitutedBoundary order else .flywheelBoundary order
    let pointDue : Prop := s.pointIn = some 0
    let resetDue : Prop := t.lock = .holdover ∧ t.watching = true ∧ t.pulseNear = false ∧ s.window ≤ t.flywheel
    (boundary ≤ t.flywheel → ¬ pointDue → ∃ order, step s = exec (own order) made)
    ∧ (boundary ≤ t.flywheel → pointDue → step s = exec .samplePoint made ∨ ∃ order, step s = exec (own order) made)
    ∧ (t.flywheel < boundary → pointDue → step s = exec .samplePoint made)
    ∧ (t.flywheel < boundary → ¬ pointDue → resetDue → step s = exec .holdoverRunReset made)
    ∧ (t.flywheel < boundary → ¬ pointDue → ¬ resetDue →
      (∀ b rest, s.port.incoming = (0, b) :: rest → step s = .next made.nextByte)
      ∧ ((∀ b rest, s.port.incoming ≠ (0, b) :: rest) → step s = .next { s with
          timebase := { t with interval := t.interval.map fun i => min 4294967295 (i + 1)
                               flywheel := min 4294967295 (t.flywheel + 1), refTime := (t.refTime + 1) % 4294967296 }
          camera := { s.camera with receiver := match s.camera.receiver with
            | .receiving n => .receiving (n + 1)
            | r => r }
          port := { s.port with incoming := match s.port.incoming with
            | (n, b) :: rest => (n - 1, b) :: rest
            | [] => [] } })))
  ∧ ∀ s : State, s.pending = [] → s.resetControl.inForce = true → s.resetControl.pinHeld = false →
    (s.resetControl.spanLeft = 0 → step s = exec .resetEnd { s with openOrders := s.openOrders + 1 })
    ∧ (0 < s.resetControl.spanLeft → step s = .next { s with
        resetControl := { s.resetControl with spanLeft := s.resetControl.spanLeft - 1 } })

/-- The reset state meets the invariant. -/
def Obligations.ResetMeetsInvariant : Prop := State.reset.Inv

/-- Every step keeps the invariant State.Inv: run at most 8 and at most 8 marks (R3, R7), holdover count at most
HOLDOVER_LIMIT (R8), active and pending settings in their ranges (R21, R22), pulse interval, flywheel, pass pulse
count and advance count at most 2³² − 1 (R1, R11, R19), S on the timeline (R16), frame offset within ±32767 with its
changes at most 65535 (R20), the summary's counts at their stops (R72), 32 entries with PASS_COUNT at most 65535 (R29,
R47), receive ring within its capacity with its two counts at most 65535 (R75, R77), record queue at most 16 (R88),
line queue with the line in assembly at most 32 (R99), four slots in an interpolation and its record (R119, R130),
block counts at most 65535 and urgent run at most 4 (R137, R141, R145), comparison histories at most 16, COUNT at most
65535 and BAD at most 255 (R174, R181), log at most 64 with its lost count at most 65535 (R178), 16 axes, and what has
been received of a request fits the frame phase (R188, R189). -/
def Obligations.EveryStepKeepsInvariant : Prop := ∀ s t : State, s.Inv → step s = .next t → t.Inv

/-- The end of a reset, once the counts left of its span have passed, leaves the values the rules give for a hardware
reset in every block (R25, R48, R50, R82, R96, R114, R128, R130, R148, R150, R156, R187, R198), and its cause is POWER
before PIN before COMMAND. -/
def Obligations.ResetEndLeavesResetValues : Prop :=
  ∀ s : State, s.resetControl.inForce = true → s.resetControl.pinHeld = false →
    ∃ t, exec .resetEnd s = .next t
      ∧ t.timebase.active = ⟨2083333, 8, 48⟩ ∧ t.timebase.pending = none ∧ t.timebase.lock = .free ∧ t.timebase.run = 0
      ∧ t.timebase.lockPending = false ∧ t.timebase.holdoverCount = 0
      ∧ t.timebase.history = [] ∧ t.timebase.record = none ∧ t.timebase.flywheel = 0 ∧ t.timebase.refTime = 0
      ∧ t.timebase.interval = none ∧ t.timebase.position = none ∧ t.timebase.nextPoint = 0 ∧ t.timebase.passPulses = 0
      ∧ t.timebase.advances = 0 ∧ t.timebase.frameOffset = 0 ∧ t.timebase.slips = 0
      ∧ t.directory.regionBase = 0 ∧ t.directory.regionSize = 0 ∧ (∀ n, t.entry n = none) ∧ t.directory.verifyOrder = []
      ∧ t.directory.verifyCursor = none
      ∧ t.pass.state = .idle ∧ t.pass.context = none ∧ t.pass.summary = none ∧ t.pass.pending = none
      ∧ t.pass.hasRun = false ∧ t.pass.preroll = none
      ∧ t.camera.receiver = .hunting ∧ t.camera.held = none ∧ t.camera.ring = [] ∧ t.camera.rule = .fourOfFive
      ∧ t.camera.declared = 0 ∧ t.camera.wordCount = 0 ∧ t.camera.errorCount = 0
      ∧ t.recording = ⟨false, [], none, 0⟩ ∧ t.lineQueue = ⟨none, [], none, none, none⟩
      ∧ t.interpolator.inFlight = none ∧ t.interpolator.lastEval = none ∧ t.writeInProcessing = none
      ∧ t.memory.blockedAddress = none ∧ t.memory.protectBlocks = 0
      ∧ t.memory.partialBlocks = 0 ∧ t.memory.urgentRun = 0
      ∧ (∀ a, (t.axis a).entry = ⟨false, 0, none, ⟨-8388608, 8388607, 0, 0, .none, 16384, 0⟩⟩ ∧ (t.axis a).pending = none
          ∧ (t.axis a).lastForwarded = none ∧ (t.axis a).sat = false ∧ (t.axis a).clamp = false
          ∧ (t.axis a).stepped = false ∧ (t.axis a).previousResult = none ∧ (t.axis a).lastFeedback = none
          ∧ (t.axis a).clampSince = false ∧ (t.axis a).satSince = false)
      ∧ (∀ a, t.witnessAxis a = ⟨.unchecked, [], none, 0, 0, none⟩)
      ∧ t.witness.frameStart = none ∧ t.witness.log = [] ∧ t.witness.lost = 0
      ∧ t.port.flags = 0x4000 ∧ t.port.mask = 0 ∧ t.port.response = none ∧ t.port.resetPending = false
      ∧ t.port.phase = (if s.port.selectHigh = true then .idle else .ignored) ∧ t.resetControl.inForce = false
      ∧ t.port.resetCause = (if s.resetControl.byPower then .power else if s.resetControl.byPin then .pin else .command)
      ∧ t.port.powerSeen = (s.resetControl.byPower || s.port.powerSeen)

/-- POWER_ON and RESET_PIN begin a hardware reset when none is in force: the port takes no command, the interpolation,
the write in processing and the take engine's transaction are abandoned, the record queue and the line queue are
emptied, and a frame's RESET PART is dropped (R96, R114, R129, R148, R166, R198 to R200). POWER_ON leaves at least
100,000 counts (2 ms) after the settling of the supplies, RESET_PIN_RELEASE at least 1000 (20 µs) of the reset still
to pass (R206; counting them from the settling and the release is the model's reading, log entry 10). -/
def Obligations.PowerOnAndPinBeginReset : Prop :=
  (∀ (s : State) (after : Nat), let u := s.elapse after
    (u.resetControl.pinHeld = true → exec (.resetPinRelease after) s = .next { u with
        resetControl := { u.resetControl with pinHeld := false, spanLeft := max u.resetControl.spanLeft 1000 } })
    ∧ (u.resetControl.pinHeld = false → exec (.resetPinRelease after) s = .next u))
  ∧ ∀ (s : State) (after settling : Nat), (s.elapse after).resetControl.inForce = false →
    ∀ c ∈ [Instr.powerOn ⟨after, settling⟩, Instr.resetPin after],
      ∃ t, exec c s = .next t ∧ t.resetControl.inForce = true
        ∧ t.resetControl.byPower = ((s.elapse after).resetControl.byPower || decide (c = .powerOn ⟨after, settling⟩))
        ∧ t.resetControl.pinHeld = ((s.elapse after).resetControl.pinHeld || decide (c = .resetPin after))
        ∧ t.resetControl.spanLeft = (if c = .powerOn ⟨after, settling⟩ then
            max (s.elapse after).resetControl.spanLeft (settling + 100000) else (s.elapse after).resetControl.spanLeft)
        ∧ t.port.phase = .ignored ∧ t.port.resetPending = false ∧ t.dataOutByte = 0xFF ∧ t.alert = false
        ∧ t.interpolator.inFlight = none ∧ t.writeInProcessing = none ∧ t.takeRequest = none
        ∧ t.recording = ⟨false, [], none, 0⟩ ∧ t.lineQueue = ⟨none, [], none, none, none⟩
        ∧ (∀ d, t.memory.downstream = some d → d.owner = .passThrough)
        ∧ t.port.flags = (s.elapse after).port.flags ∧ t.openOrders = (s.elapse after).openOrders

/-! ### The management port -/

/-- Commands and frames agree: every well-formed management command is the command its own frame is read as, so no
argument bit is dropped, and every frame is the frame of the well-formed command it is read as (R189, R191, R202). -/
def Obligations.CommandsAndFramesAgree : Prop :=
  (∀ (c : Instr) (fr : Frame), c.wellFormed = true → frameOf c = some fr → commandOf fr = c ∧ fr.args.length ≤ 255)
  ∧ (∀ fr : Frame, frameOf (commandOf fr) = some fr ∧ (fr.args.length ≤ 255 → (commandOf fr).wellFormed = true))

/-- A refused management command changes nothing but the frame and the response of the port (R192). -/
def Obligations.RefusedCommandChangesNothing : Prop :=
  ∀ (c : Instr) (fr : Frame) (s t : State) (st : Status) (result : List Byte),
    frameOf c = some fr → s.takesCommand → exec c s = .next t →
    t.port.response = some ⟨st.byte, result, 0⟩ → st.accepted = false → t = s.answered fr st result

/-- A management command is taken at its last byte. In LENGTH and ARGUMENTS a row whose frame begins with what has
been received brings the rest and is taken as in CODE; any other row is not the request, and nothing happens (the
model's reading of a row, log entry 8). A boundary of the instant that is still on its way to a block is taken before
the command is (the model's reading of R13 and R151, log entry 1). In RESPONSE its bytes only shift the response out,
in IDLE and IGNORED nothing happens. A byte before the last becomes the code, the declared length or the next argument
byte (R188, R189, R190, R200). -/
def Obligations.CommandTakenAtItsLastByte : Prop :=
  (∀ (c : Instr) (fr : Frame) (s : State), c.wellFormed = true → frameOf c = some fr →
    let p := s.port
    let asInCode : Prop := exec c s = exec c s.takeBoundaries
      ∧ (s.due.any Delivery.isBoundary = false → exec c s = exec c { s with port := { s.port with phase := .code } })
    (p.phase = .response → exec c s = .next { s with port := { s.port with
        response := s.port.response.map fun r =>
          { r with shifted := min (2 + r.result.length) (r.shifted + (2 + fr.args.length)) } } })
    ∧ (p.phase = .idle ∨ p.phase = .ignored → exec c s = .next s)
    ∧ (p.phase = .code → asInCode)
    ∧ (p.phase = .length → (p.code = some fr.code → asInCode) ∧ (p.code ≠ some fr.code → exec c s = .next s))
    ∧ (p.phase = .arguments →
        let begins : Prop := p.code = some fr.code ∧ p.length = some (BitVec.ofNat 8 fr.args.length)
          ∧ fr.args.take p.args.length = p.args
        (begins → asInCode) ∧ (¬ begins → exec c s = .next s)))
  ∧ ∀ (s : State) (gap : Nat) (b : Byte) (rest : List (Nat × Byte)), s.port.incoming = (gap, b) :: rest →
    let p := { s.port with incoming := rest }
    (p.phase = .code → s.nextByte = { s with port := { p with code := some b, phase := .length } })
    ∧ (p.phase = .length → b ≠ 0 → s.nextByte = { s with port := { p with length := some b, phase := .arguments } })
    ∧ (∀ n, p.phase = .arguments → p.length = some n → p.args.length + 1 < n.toNat →
        s.nextByte = { s with port := { p with args := p.args ++ [b] } })

/-- SELECT_FALL begins a frame in phase CODE with nothing received (R188, R189), its early bytes still to come (the
model's operand, log entry 8); SELECT_RISE ends it (R188), and begins the reset of a RESET PART (R199). -/
def Obligations.SelectLineFrames : Prop :=
  ∀ (s : State) (after clocked : Nat) (early : List (Nat × Byte)), let u := s.elapse after
    u.resetControl.inForce = false →
    (u.port.selectHigh = true → exec (.selectFall ⟨after, early⟩) s = .next { u with port := { u.port with
        selectHigh := false, phase := .code, code := none, length := none, args := [],
        incoming := early, response := none } })
    ∧ (u.port.selectHigh = false → u.port.resetPending = false →
        ∃ t, exec (.selectRise after clocked) s = .next t ∧ t.port.selectHigh = true ∧ t.port.phase = .idle
          ∧ t = { u with port := t.port } ∧ t.port.flags = u.port.flags ∧ t.port.mask = u.port.mask)
    ∧ (u.port.selectHigh = false → u.port.resetPending = true →
        ∃ t, exec (.selectRise after clocked) s = .next t ∧ t.port.selectHigh = true ∧ t.port.resetPending = false
          ∧ t.resetControl.inForce = true ∧ t.resetControl.byCommand = true)

/-- CLEAR_EVENTS clears the named flags but DEVLOG while the log holds a record; PROTECT takes the blocked-address
record with it and RESET takes power-seen; nothing else changes. SET_ENABLE replaces the mask. RESET_PART answers OK,
sets reset pending and changes nothing else at that instant (R195, R196, R199). The alert line is asserted in every
state exactly when some flag is both set and enabled and no hardware reset is in force (R196). -/
def Obligations.EventAndResetCommands : Prop :=
  (∀ s : State, s.alert = true ↔ s.resetControl.inForce = false
    ∧ ∃ ev : Event, s.flag ev = true ∧ s.port.mask.getLsbD ev.bit = true)
  ∧ ∀ (s : State) (v : BitVec 16), s.takesCommand →
    (∃ t, exec (.clearEvents v) s = .next t
      ∧ (∀ ev : Event, ev ≠ .devlog → t.flag ev = (s.flag ev && !v.getLsbD ev.bit))
      ∧ t.flag .devlog = !s.witness.log.isEmpty
      ∧ t.memory = { s.memory with blockedAddress := if v.getLsbD 8 then none else s.memory.blockedAddress }
      ∧ t.port.powerSeen = (s.port.powerSeen && !v.getLsbD 14) ∧ t.port.mask = s.port.mask
      ∧ t.port.resetCause = s.port.resetCause
      ∧ t.port.response = some ⟨0, bytes2 t.port.flags, 0⟩
      ∧ t = { s with port := t.port, memory := t.memory })
    ∧ exec (.setEnable v) s =
        .next (({ s with port := { s.port with mask := v } } : State).answered ⟨0x04, bytes2 v⟩ .ok (bytes2 v))
    ∧ exec .resetPart s =
        .next (({ s with port := { s.port with resetPending := true } } : State).answered ⟨0x0F, []⟩ .ok [])

/-- Each READ command answers OK with its result and changes nothing but the port's frame and response; a take number
outside 1 to 32 answers NO_TAKE and an axis number above 15 RANGE (R24, R28, R46, R73, R81, R97, R115, R116, R149,
R155, R185, R197 and, with their own, R130, R167 and R195). A frame whose code names no command answers UNKNOWN, a
known code with another number of argument bytes LENGTH, and nothing else changes (R191). -/
def Obligations.ReadsAndRejectedFrames : Prop :=
  (∀ (s : State) (n : Byte), s.takesCommand →
    exec .readStatus s = .next (s.answered ⟨0x01, []⟩ .ok (readStatusResult s))
    ∧ exec .readEvents s = .next (s.answered ⟨0x02, []⟩ .ok (bytes2 s.port.flags ++ bytes2 s.port.mask))
    ∧ exec .readTimebase s = .next (s.answered ⟨0x11, []⟩ .ok (readTimebaseResult s))
    ∧ exec .readRegion s = .next (s.answered ⟨0x21, []⟩ .ok (readRegionResult s))
    ∧ exec .readPass s = .next (s.answered ⟨0x39, []⟩ .ok (readPassResult s))
    ∧ exec .readCamera s = .next (s.answered ⟨0x41, []⟩ .ok (readCameraResult s))
    ∧ exec .readRecord s = .next (s.answered ⟨0x50, []⟩ .ok (readRecordResult s))
    ∧ exec .readLineQueue s = .next (s.answered ⟨0x51, []⟩ .ok (readLineQueueResult s))
    ∧ (∀ i, exec (.readQueuedLine i) s =
        .next (s.answered ⟨0x52, bytes3 i⟩ .ok (readQueuedLineResult s i.toNat)))
    ∧ exec .readEvaluation s = .next (s.answered ⟨0x53, []⟩ .ok (readEvaluationResult s))
    ∧ exec .readPath s = .next (s.answered ⟨0x60, []⟩ .ok (readPathResult s))
    ∧ exec (.readTake n) s = .next (if 1 ≤ n.toNat ∧ n.toNat ≤ 32 then
        s.answered ⟨0x27, [n]⟩ .ok (readTakeResult s n.toNat) else s.answered ⟨0x27, [n]⟩ .noTake [])
    ∧ exec (.getAxis n) s = .next (if n.toNat ≤ 15 then s.answered ⟨0x71, [n]⟩ .ok (getAxisResult s n.toNat)
      else s.answered ⟨0x71, [n]⟩ .range [])
    ∧ exec (.readAxis n) s = .next (if n.toNat ≤ 15 then s.answered ⟨0x72, [n]⟩ .ok (readAxisResult s n.toNat)
      else s.answered ⟨0x72, [n]⟩ .range [])
    ∧ exec (.readWitness n) s = .next (if n.toNat ≤ 15 then s.answered ⟨0x82, [n]⟩ .ok (readWitnessResult s n.toNat)
      else s.answered ⟨0x82, [n]⟩ .range []))
  ∧ (∀ (s : State) (code : Byte) (args : List Byte), s.takesCommand → args.length ≤ 255 →
    (argCount code = none → exec (.unknownOrLength code args) s = .next (s.answered ⟨code, args⟩ .unknown []))
    ∧ (∀ n, argCount code = some n → n ≠ args.length →
        exec (.unknownOrLength code args) s = .next (s.answered ⟨code, args⟩ .length [])))

/-- Result lengths. READ PASS has 75 bytes (R205), READ TAKE 1 for a FREE entry and 44 for any other (R204), READ
DEVIATION 8 + 8m with m entries (R203). The lengths of READ STATUS, EVENTS, TIMEBASE, REGION, CAMERA, RECORD, LINE
QUEUE, EVALUATION, PATH and of GET AXIS, READ AXIS and READ WITNESS, which R203 to R205 do not lay out, are the
model's reading of R202 (log entry 3): LANES as one byte (DESIGN CHOICE), a presence byte for each optional item,
READ_AT and the ring slot form (DEDUCED); they are the same in every state the invariant allows. -/
def Obligations.ResultLengths : Prop :=
  (∀ (s : State) (t : Nat), (readTakeResult s t).length = if s.entry t = none then 1 else 44)
  ∧ (∀ s : State, (readPassResult s).length = 75)
  ∧ (∀ (s : State) (r : DeviationRecord) (rest : List DeviationRecord), s.witness.log = r :: rest →
      s.readDeviation.result.length = 8 + 8 * r.entries.length)
  ∧ ∀ (s : State) (a : Nat), s.Inv →
      (readStatusResult s).length = 17 ∧ (readEventsResult s).length = 4 ∧ (readTimebaseResult s).length = 61
      ∧ (readRegionResult s).length = 7 ∧ (readCameraResult s).length = 31 ∧ (readRecordResult s).length = 17
      ∧ (readLineQueueResult s).length = 38 ∧ (readEvaluationResult s).length = 45 ∧ (readPathResult s).length = 32
      ∧ (getAxisResult s a).length = 43 ∧ (readAxisResult s a).length = 25 ∧ (readWitnessResult s a).length = 42

/-! ### The timebase

A row of the timebase finds the boundaries before it taken by every block: `u` is the state once its counts have passed and
what was still on its way has been taken (log entry 1). -/

/-- A pulse whose interval multiplied by 16 is less than N_NOM is a runt and changes nothing; while a hardware reset
is in force no pulse does. In FREE a regular pulse moves the timebase to ACQUIRE with a run of 1 and raises LOCK; an
irregular one leaves FREE with a run of 0; neither makes a boundary (R1, R2, R3, R10, R206). -/
def Obligations.PulseRuntOrInFree : Prop :=
  (∀ (s : State) (after i : Nat) (order : BoundaryOrder), let u := (s.elapse after).takeBoundaries
    (u.timebase.interval = some i ∧ i * 16 < u.timebase.active.nNom) ∨ u.resetControl.inForce = true →
    exec (.syncPulse after order) s = .next u)
  ∧ ∀ (s : State) (after : Nat) (order : BoundaryOrder), let u := (s.elapse after).takeBoundaries
    u.resetControl.inForce = false → u.timebase.lock = .free →
    (u.timebase.interval = none →
      exec (.syncPulse after order) s = .next { u with timebase :=
        { u.timebase with run := 0, interval := some 0, passPulses := u.pulsesAfter } })
    ∧ (∀ i, u.timebase.interval = some i → u.timebase.active.nNom ≤ i * 16 →
      (u.timebase.active.nNom ≤ i + u.window ∧ i ≤ u.timebase.active.nNom + u.window →
        exec (.syncPulse after order) s = .next { u with
          timebase := { u.timebase with run := 1, lock := .acquire, interval := some 0, passPulses := u.pulsesAfter }
          port := { u.port with flags := u.port.flags ||| 1 } })
      ∧ (i + u.window < u.timebase.active.nNom ∨ u.timebase.active.nNom + u.window < i →
        exec (.syncPulse after order) s = .next { u with timebase :=
          { u.timebase with run := 0, interval := some 0, passPulses := u.pulsesAfter } }))

/-- In LOCKED an early pulse makes no boundary and adds a bad mark; with the third bad mark of the history HOLDOVER
begins with a run and a holdover count of 0, and LOCK is raised. A regular pulse is a PULSE boundary: the flywheel
restarts, a good mark is added, and the record holds the interval between the two boundaries when the boundary before
it was LOCKED, N_NOM otherwise (R5, R7, R10, R12). The second part is stated for a boundary with no settings pending
that does not end LOCKED. -/
def Obligations.PulseInLocked : Prop :=
  ∀ (s : State) (after i : Nat) (order : BoundaryOrder), let u := (s.elapse after).takeBoundaries
    let marks (m : Mark) : List Mark := (u.timebase.history ++ [m]).drop (u.timebase.history.length - 7)
    u.resetControl.inForce = false → u.timebase.lock = .locked →
    u.timebase.interval = some i → u.timebase.active.nNom ≤ i * 16 →
    (u.timebase.flywheel + u.window < u.timebase.active.nNom →
      ((marks .bad).count .bad < 3 → exec (.syncPulse after order) s = .next { u with timebase :=
          { u.timebase with history := marks .bad, interval := some 0, passPulses := u.pulsesAfter } })
      ∧ (3 ≤ (marks .bad).count .bad → exec (.syncPulse after order) s = .next { u with
          timebase := { u.timebase with history := marks .bad, interval := some 0, passPulses := u.pulsesAfter,
                                        lock := .holdover, run := 0, holdoverCount := 0 }
          port := { u.port with flags := u.port.flags ||| 1 } }))
    ∧ (u.timebase.pending = none → (marks .good).count .bad < 3 →
      u.timebase.active.nNom ≤ u.timebase.flywheel + u.window →
      u.timebase.flywheel ≤ u.timebase.active.nNom + u.window →
      ∃ t, exec (.syncPulse after order) s = .next t
        ∧ t.timebase.record = some ⟨u.timebase.refTime, .pulse,
            if u.timebase.record.map (·.lock) = some .locked then u.timebase.flywheel else u.timebase.active.nNom, .locked⟩
        ∧ t.timebase.flywheel = 0 ∧ t.timebase.history = marks .good ∧ t.timebase.lock = .locked
        ∧ t.timebase.interval = some 0 ∧ t.timebase.passPulses = u.pulsesAfter
        ∧ t.timebase.active = u.timebase.active ∧ t.timebase.refTime = u.timebase.refTime)

/-- A non-runt pulse in ACQUIRE or HOLDOVER. In ACQUIRE an irregular one returns to FREE; a regular one counts up the
run, and the one that brings it to 8 locks with a PULSE boundary, or in RUNNING and PARKED holds the run at 8 with
lock pending (R3, R4, R7). In HOLDOVER an irregular one empties the run; a regular one counts it up, and the one that
brings it to 8 locks: with a PULSE boundary before the flywheel's next boundary, with no boundary and no mark after
the last one (R9). That LOCKED is entered with a run of 8, lock pending off and the holdover count kept, and with the
pulse bookkeeping of R9 (watching, pulseNear, pulseBefore) over, is the model's reading (DEDUCED, log entry 11). The
boundaries are stated with no settings pending. -/
def Obligations.PulseInAcquireOrHoldover : Prop :=
  ∀ (s : State) (after : Nat) (order : BoundaryOrder), let u := (s.elapse after).takeBoundaries
    let nNom := u.timebase.active.nNom
    let counted : Timebase := { u.timebase with interval := some 0, passPulses := u.pulsesAfter }
    let withLock (t : Timebase) : State := { u with timebase := t, port := { u.port with flags := u.port.flags ||| 1 } }
    let regular : Prop := ∃ i, u.timebase.interval = some i ∧ nNom ≤ i + u.window ∧ i ≤ nNom + u.window
    let before : Prop := nNom ≤ u.timebase.flywheel + u.window
    let near : Prop := u.timebase.flywheel ≤ u.window ∨ before
    let inPass : Prop := u.pass.state = .running ∨ u.pass.state = .parked
    let locks : Prop := ∃ t, exec (.syncPulse after order) s = .next t ∧ t.timebase.lock = .locked ∧ t.timebase.run = 8
      ∧ t.timebase.lockPending = false ∧ t.timebase.history = [.good] ∧ t.timebase.flywheel = 0
      ∧ t.timebase.interval = some 0 ∧ t.timebase.passPulses = u.pulsesAfter ∧ t.flag .lock = true
      ∧ t.timebase.record = some ⟨u.timebase.refTime, .pulse,
          if u.timebase.record.map (·.lock) = some .locked then u.timebase.flywheel else nNom, .locked⟩
    u.resetControl.inForce = false → (∀ i, u.timebase.interval = some i → nNom ≤ i * 16) →
    (u.timebase.lock = .acquire →
      (¬ regular → exec (.syncPulse after order) s = .next (withLock { counted with
        lock := .free, run := 0, lockPending := false, holdoverCount := 0, history := [], watching := false,
        pulseNear := false, pulseBefore := false }))
      ∧ (regular → u.timebase.run < 7 →
        exec (.syncPulse after order) s = .next { u with timebase := { counted with run := u.timebase.run + 1 } })
      ∧ (regular → 7 ≤ u.timebase.run → inPass →
        exec (.syncPulse after order) s = .next { u with timebase := { counted with run := 8, lockPending := true } })
      ∧ (regular → 7 ≤ u.timebase.run → ¬ inPass → u.timebase.pending = none → locks))
    ∧ (u.timebase.lock = .holdover →
      (¬ near → exec (.syncPulse after order) s = .next { u with timebase := { counted with run := 0 } })
      ∧ (near → u.timebase.run < 7 → exec (.syncPulse after order) s = .next { u with timebase := { counted with
          run := u.timebase.run + 1
          pulseNear := u.timebase.pulseNear || decide (u.timebase.flywheel ≤ u.window)
          pulseBefore := u.timebase.pulseBefore || decide (nNom ≤ u.timebase.flywheel + u.window) } })
      ∧ (before → 7 ≤ u.timebase.run → u.timebase.pending = none → locks)
      ∧ (near → ¬ before → 7 ≤ u.timebase.run → exec (.syncPulse after order) s = .next (withLock { counted with
          lock := .locked, run := 8, lockPending := false, history := [], watching := false, pulseNear := false,
          pulseBefore := false })))

/-- FLYWHEEL_BOUNDARY, made when the flywheel reaches N_NOM, with no settings pending. In FREE or ACQUIRE the boundary
record holds the reference time, FLYWHEEL, N_NOM and the lock state, and the flywheel restarts; lock state, run, marks and pulse interval are unchanged
(R3, R4, R11, R12). In HOLDOVER it increments the holdover count; the one that takes it above HOLDOVER_LIMIT ends
HOLDOVER: the lock state becomes FREE with run, count and marks emptied, and a pass not in IDLE notes the sync loss
(R3, R8, R10). Counts that pass before a row (log entry 6) count up interval, flywheel and reference time, and nothing
else when nothing falls due before the last of them; up to the next boundary of the part's own, lock state and settings
stand. -/
def Obligations.FlywheelBoundaryMakesFrame : Prop :=
  (∀ (s : State) (n : Nat), 0 < n → s.resetControl.inForce = false →
    let t := s.timebase
    let u := s.elapse n
    let left := (if t.lock = .locked then t.active.nNom + s.window else t.active.nNom) - t.flywheel
    s.boundaryIn = left
    ∧ u.timebase.interval = t.interval.map (fun i => min 4294967295 (i + n))
    ∧ u.timebase.refTime = (t.refTime + n) % 4294967296 ∧ u.resetControl = s.resetControl
    ∧ (n ≤ left → u.timebase.flywheel = min 4294967295 (t.flywheel + n) ∧ u.timebase.lock = t.lock
        ∧ u.timebase.active = t.active ∧ u.timebase.pending = t.pending ∧ u.timebase.record = t.record)
    ∧ (s.due = [] → s.port.incoming = [] → n ≤ left → (∀ d, s.pointIn = some d → n ≤ d) →
        (t.lock = .holdover → t.watching = true → t.pulseNear = false → n ≤ s.window - t.flywheel) →
        u = { s with
          timebase := { t with interval := t.interval.map fun i => min 4294967295 (i + n)
                               flywheel := min 4294967295 (t.flywheel + n), refTime := (t.refTime + n) % 4294967296 }
          camera := { s.camera with receiver := match s.camera.receiver with
            | .receiving k => .receiving (k + n)
            | r => r } }))
  ∧ (∀ s : State, let u := (s.elapse s.boundaryIn).takeBoundaries
    s.resetControl.inForce = false → s.timebase.lock ≠ .locked → s.timebase.flywheel ≤ s.timebase.active.nNom →
    s.timebase.active.nNom ≤ 4294967295 →
    u.timebase.flywheel = s.timebase.active.nNom ∧ u.timebase.lock = s.timebase.lock
      ∧ u.timebase.active = s.timebase.active ∧ u.timebase.pending = s.timebase.pending)
  ∧ (∀ (s : State) (order : BoundaryOrder), let u := (s.elapse s.boundaryIn).takeBoundaries
    s.resetControl.inForce = false → s.timebase.lock ≠ .locked →
    u.timebase.lock = .free ∨ u.timebase.lock = .acquire → u.timebase.pending = none →
    ∃ t, exec (.flywheelBoundary order) s = .next t
      ∧ t.timebase.record = some ⟨u.timebase.refTime, .flywheel, u.timebase.active.nNom, u.timebase.lock⟩
      ∧ t.timebase.flywheel = 0 ∧ t.timebase.lock = u.timebase.lock ∧ t.timebase.run = u.timebase.run
      ∧ t.timebase.history = u.timebase.history ∧ t.timebase.interval = u.timebase.interval
      ∧ t.timebase.active = u.timebase.active ∧ t.timebase.passPulses = u.timebase.passPulses)
  ∧ (∀ (s : State) (order : BoundaryOrder), let u := (s.elapse s.boundaryIn).takeBoundaries
    s.resetControl.inForce = false → s.timebase.lock ≠ .locked → u.timebase.lock = .holdover → u.timebase.pending = none →
    ∃ t, exec (.flywheelBoundary order) s = .next t ∧ t.timebase.flywheel = 0
      ∧ t.timebase.record.map (fun r => (r.time, r.kind, r.period))
          = some (u.timebase.refTime, .flywheel, u.timebase.active.nNom)
      ∧ (u.timebase.holdoverCount + 1 ≤ u.timebase.active.holdoverLimit →
          t.timebase.lock = .holdover ∧ t.timebase.holdoverCount = u.timebase.holdoverCount + 1
            ∧ t.timebase.run = u.timebase.run ∧ t.timebase.history = u.timebase.history)
      ∧ (u.timebase.active.holdoverLimit < u.timebase.holdoverCount + 1 →
          t.timebase.lock = .free ∧ t.timebase.holdoverCount = 0 ∧ t.timebase.run = 0 ∧ t.timebase.history = []
            ∧ t.flag .lock = true
            ∧ (u.pass.state ≠ .idle → t.pass.summary.map (·.syncLost) = u.pass.summary.map (fun _ => true))))

/-- SUBSTITUTED_BOUNDARY, made in LOCKED when the flywheel reaches N_NOM + W, with no settings pending adds a bad mark, which with two others begins HOLDOVER;
the record holds SUBSTITUTED, the lock state after the mark, and the interval only between two boundaries that opened
LOCKED frames (R6, R7, R12). -/
def Obligations.SubstitutedBoundaryMakesFrame : Prop :=
  ∀ (s : State) (order : BoundaryOrder), let u := (s.elapse s.boundaryIn).takeBoundaries
    let marks : List Mark := (u.timebase.history ++ [Mark.bad]).drop (u.timebase.history.length - 7)
    let lock : LockState := if 3 ≤ marks.count .bad then .holdover else .locked
    s.resetControl.inForce = false → s.timebase.lock = .locked →
    (s.timebase.flywheel ≤ s.timebase.active.nNom + s.window → s.timebase.active.nNom + s.window ≤ 4294967295 →
      u.timebase.flywheel = s.timebase.active.nNom + s.window)
    ∧ u.timebase.lock = s.timebase.lock ∧ u.timebase.active = s.timebase.active
    ∧ u.timebase.pending = s.timebase.pending
    ∧ (u.timebase.pending = none → ∃ t, exec (.substitutedBoundary order) s = .next t
      ∧ t.timebase.record = some ⟨u.timebase.refTime, .substituted,
          if u.timebase.record.map (·.lock) = some .locked ∧ lock = .locked then u.timebase.flywheel
          else u.timebase.active.nNom, lock⟩
      ∧ t.timebase.flywheel = 0 ∧ t.timebase.history = marks ∧ t.timebase.lock = lock
      ∧ t.timebase.interval = u.timebase.interval ∧ t.timebase.passPulses = u.timebase.passPulses)

/-- HOLDOVER_RUN_RESET, W counts after a flywheel boundary of HOLDOVER with no regular pulse near it, empties the run
and nothing else (R9). -/
def Obligations.HoldoverRunResetEmptiesRun : Prop :=
  ∀ s : State, s.resetControl.inForce = false → s.timebase.lock = .holdover → s.timebase.watching = true →
    s.timebase.pulseNear = false → let u := s.elapse (s.window - s.timebase.flywheel)
    exec .holdoverRunReset s = .next { u with timebase := { u.timebase with run := 0, watching := false } }

/-- Pending settings become active at the next boundary, of whatever kind, before its record: the lock state becomes
FREE with run, marks and counts emptied, and the record holds the new N_NOM and FREE (R13, R23). The pulse is one that
makes a boundary by the old settings: regular in LOCKED, or the eighth of ACQUIRE outside RUNNING and PARKED, or the
eighth of HOLDOVER before the flywheel's next boundary. -/
def Obligations.PendingSettingsTakeEffectAtBoundary : Prop :=
  let taken (p : TimebaseSettings) (kind : BoundaryKind) (u t : State) : Prop :=
    t.timebase.active = p ∧ t.timebase.pending = none
      ∧ t.timebase.lock = .free ∧ t.timebase.run = 0 ∧ t.timebase.history = [] ∧ t.timebase.lockPending = false
      ∧ t.timebase.holdoverCount = 0 ∧ t.timebase.record = some ⟨u.timebase.refTime, kind, p.nNom, .free⟩
  (∀ (s : State) (order : BoundaryOrder) (p : TimebaseSettings), let u := (s.elapse s.boundaryIn).takeBoundaries
    s.resetControl.inForce = false → u.timebase.pending = some p →
    (s.timebase.lock ≠ .locked → ∃ t, exec (.flywheelBoundary order) s = .next t ∧ taken p .flywheel u t)
    ∧ (s.timebase.lock = .locked → ∃ t, exec (.substitutedBoundary order) s = .next t ∧ taken p .substituted u t))
  ∧ ∀ (s : State) (after : Nat) (order : BoundaryOrder) (p : TimebaseSettings), let u := (s.elapse after).takeBoundaries
    let nNom := u.timebase.active.nNom
    u.resetControl.inForce = false → u.timebase.pending = some p →
    (∀ i, u.timebase.interval = some i → nNom ≤ i * 16) →
    ((u.timebase.lock = .locked ∧ nNom ≤ u.timebase.flywheel + u.window ∧ u.timebase.flywheel ≤ nNom + u.window)
      ∨ (u.timebase.lock = .acquire ∧ 7 ≤ u.timebase.run ∧ u.pass.state ≠ .running ∧ u.pass.state ≠ .parked
        ∧ ∃ i, u.timebase.interval = some i ∧ nNom ≤ i + u.window ∧ i ≤ nNom + u.window)
      ∨ (u.timebase.lock = .holdover ∧ 7 ≤ u.timebase.run ∧ nNom ≤ u.timebase.flywheel + u.window)) →
    ∃ t, exec (.syncPulse after order) s = .next t ∧ taken p .pulse u t

/-- LOCKED is entered by no command but a pulse that completes a run of eight (R4, R9, R10). -/
def Obligations.LockedOnlyByEighthPulse : Prop :=
  ∀ (c : Instr) (s t : State), exec c s = .next t → t.timebase.lock = .locked → s.timebase.lock ≠ .locked →
    ∃ after order, c = .syncPulse after order ∧ 8 ≤ (s.elapse after).timebase.run + 1

/-- A boundary of any kind and the timeline. Made in RUNNING below the timeline's end it advances S by the pace and
counts the advance, in the summary too; made at the timeline limit it leaves both, and the pass ends with FULL or END
when the pass controller takes it; made in any other state it leaves both. The frame offset is brought up to date in
RUNNING and PARKED (R16, R19, R20). A boundary that the pass controller takes later in the instant carries its KIND,
LOCK, the new S, whether an advance was made and whether the limit was reached (R13; that it waits in State.due is log
entry 1). The first part is the FLYWHEEL_BOUNDARY row in FREE or ACQUIRE; which boundary each row makes is stated with
the row. -/
def Obligations.BoundaryAdvancesTimeline : Prop :=
  (∀ (s : State) (order : BoundaryOrder) (c : PassContext) (p : Nat), let u := (s.elapse s.boundaryIn).takeBoundaries
    let advances := min (u.timebase.advances + 1) 4294967295
    s.resetControl.inForce = false → s.timebase.lock ≠ .locked → u.timebase.pending = none →
    u.timebase.lock = .free ∨ u.timebase.lock = .acquire →
    u.pass.state = .running → u.pass.context = some c → u.timebase.position = some p →
    p + c.pace * 16 < 4294967296 →
    ∃ t, exec (.flywheelBoundary order) s = .next t ∧ t.timebase.position = some (p + c.pace * 16)
      ∧ t.timebase.advances = advances ∧ t.pass.summary.map (·.frames) = u.pass.summary.map (fun _ => advances)
      ∧ t.timebase.frameOffset = max (-32767) (min 32767 ((u.timebase.passPulses : Int) - advances)))
  ∧ ∀ (s : State) (kind : BoundaryKind) (order : BoundaryOrder) (c : PassContext) (p : Nat),
    ∀ cause ∈ [State.causeRelock, State.causePulse, State.causeSubstituted, State.causeFlywheel],
    let t := s.makeBoundary kind order cause
    let offset (advances : Nat) : Int := max (-32767) (min 32767 ((s.timebase.passPulses : Int) - advances))
    let advances := min (s.timebase.advances + 1) 4294967295
    let below : Prop := p + c.pace * 16 < 4294967296
    s.pass.context = some c → s.timebase.position = some p →
    (s.pass.state = .running → below → t.timebase.position = some (p + c.pace * 16) ∧ t.timebase.advances = advances
      ∧ t.pass.summary.map (·.frames) = s.pass.summary.map (fun _ => advances)
      ∧ t.timebase.frameOffset = offset advances)
    ∧ (s.pass.state = .running → ¬ below → t.timebase.position = some p ∧ t.timebase.advances = s.timebase.advances
      ∧ t.pass.summary.map (·.frames) = s.pass.summary.map (·.frames)
      ∧ t.timebase.frameOffset = offset s.timebase.advances
      ∧ (order.controllerLate = false → t.pass.summary.map (·.outcome)
            = s.pass.summary.map (fun _ => some (if c.mode = .record then PassOutcome.full else .takeEnd))
          ∧ (c.mode ≠ .record → t.pass.state = .complete)
          ∧ (c.mode = .record → t.pass.state = .ending ∨ t.pass.state = .complete)))
    ∧ (s.pass.state ≠ .running → t.timebase.position = some p ∧ t.timebase.advances = s.timebase.advances
      ∧ t.timebase.frameOffset = if s.pass.state = .parked then offset s.timebase.advances else s.timebase.frameOffset)
    ∧ (order.controllerLate = true → ∃ b ∈ t.due.filterMap fun d => match d with
          | .controller b _ _ _ _ => some b
          | _ => none,
        b.kind = kind ∧ t.timebase.record.map (·.lock) = some b.lock ∧ b.position = t.timebase.position
          ∧ b.advanced = decide (s.pass.state = .running ∧ below)
          ∧ b.limit = decide (s.pass.state = .running ∧ ¬ below))

/-- SAMPLE_POINT of a RECORD pass in RUNNING, at the count at which P first reaches the next sample point (R15, R17). One
evaluation that reaches n points makes a group of n captures in ascending order from one reading: each track's last
forwarded value, 0 and UNSET where there is none, CLAMPED and SATURATED by the markers on the first line alone, which
clears them, COINCIDENT on the later ones (R17, R84 to R86). A capture that finds 16 lines queued captures nothing,
raises OVERRUN and ends the pass as OVERRUN (R89); the last line of the reservation ends it as FULL (R90); both close the
recording, at the position evaluated, and the rest of the group captures nothing; a pass already in ENDING keeps its
outcome. The row makes the group at its P; a boundary that advances the timeline makes it at its new S, whichever block
takes the boundary first. Outside RUNNING, once the boundaries still on their way have been taken, the row raises no
point and captures nothing (R84, R91, R94). -/
def Obligations.SamplePointCapturesLine : Prop :=
  (∀ s : State, s.resetControl.inForce = false → s.takeBoundaries.pass.state ≠ .running →
    exec .samplePoint s = .next s.takeBoundaries)
  ∧ (∀ (s : State) (c : PassContext), s.pass.context = some c → s.pass.state = .running → c.mode = .record →
    let n := (s.timebase.record.map (·.period)).getD s.timebase.active.nNom
    let e := s.timebase.flywheel
    let point := s.timebase.nextPoint * (65536 / c.k)
    let p (x : Nat) : Nat := min (s.timebase.position.getD 0 + c.pace * 16 * min x n / n) 4294967295
    c.k ∈ [1, 2, 4, 8, 16] → s.timebase.nextPoint < 65536 * c.k → 0 < n →
    (∀ d, s.pointIn = some d → point ≤ p (e + d) ∧ ∀ x, x < d → p (e + x) < point)
    ∧ (s.pointIn = none → ∀ x, p x < point) ∧ s.runningPosition = p e)
  ∧ (∀ (s : State) (d : Nat) (c : PassContext), let v := s.takeBoundaries
    let u := v.elapse d
    let tracks := trackList c.tracks
    let j := u.timebase.nextPoint
    s.resetControl.inForce = false → v.pointIn = some d → d ≤ v.boundaryIn → u.pass.state = .running →
    ∃ t, exec .samplePoint s = .next t
      ∧ (let g := u.raisePoints u.runningPosition
        t.recording.queue = g.recording.queue ∧ t.recording.isOpen = g.recording.isOpen
          ∧ t.recording.highWater = g.recording.highWater ∧ t.pass = g.pass ∧ t.timebase = g.timebase ∧ t.axes = g.axes
          ∧ t.directory = g.directory ∧ t.witness = g.witness ∧ t.camera = g.camera
          ∧ ∀ ev : Event, ev ≠ .protect → ev ≠ .partialWrite → t.flag ev = g.flag ev)
      ∧ (u.pass.context = some c → c.mode = .record → u.recording.isOpen = true →
        u.recording.queue.length < 16 → u.runningPosition * c.k / 65536 = j → c.maxLines ≠ some (j + 1) →
        t.recording.queue = u.recording.queue ++ [⟨j, tracks.map fun a => (u.axis a).lastForwarded.getD 0,
          { unset := tracks.any fun a => (u.axis a).lastForwarded.isNone
            clamped := tracks.any fun a => (u.axis a).clampSince
            saturated := tracks.any fun a => (u.axis a).satSince
            coincident := false }⟩]
        ∧ t.timebase.nextPoint = j + 1 ∧ t.recording.isOpen = true
        ∧ t.recording.highWater = max u.recording.highWater (u.recording.queue.length + 1)
        ∧ (∀ a ∈ tracks, (t.axis a).clampSince = false ∧ (t.axis a).satSince = false
            ∧ (t.axis a).lastForwarded = (u.axis a).lastForwarded)
        ∧ (∀ a, a ∉ tracks → t.axis a = u.axis a)
        ∧ t.pass = u.pass ∧ t.directory = u.directory ∧ t.witness = u.witness ∧ t.camera = u.camera
        ∧ (∀ ev : Event, ev ≠ .protect → ev ≠ .partialWrite → t.flag ev = u.flag ev)))
  ∧ (∀ (s : State) (c : PassContext) (p last : Nat), s.pass.context = some c → c.mode = .record → c.maxLines = some last →
    let tracks := trackList c.tracks
    let j := s.timebase.nextPoint
    let n := p * c.k / 65536 + 1 - j
    let room := 16 - s.recording.queue.length
    let captured := min n (min room (last - j))
    let line (i : Nat) : RecordLine := ⟨j + i, tracks.map fun a => (s.axis a).lastForwarded.getD 0,
      { unset := tracks.any fun a => (s.axis a).lastForwarded.isNone
        clamped := decide (i = 0) && tracks.any fun a => (s.axis a).clampSince
        saturated := decide (i = 0) && tracks.any fun a => (s.axis a).satSince
        coincident := decide (0 < i) }⟩
    let overruns : Prop := room < n ∧ room < last - j
    let fills : Prop := last - j ≤ n ∧ last - j ≤ room
    let t := s.raisePoints p
    let ends (o : PassOutcome) : Prop := t.recording.isOpen = false
      ∧ (s.pass.state = .running ∨ s.pass.state = .parked → t.flag .pass = true ∧ t.timebase.position = some p
          ∧ t.pass = { s.pass with state := .ending, pending := none,
                                   summary := s.pass.summary.map fun m => { m with outcome := some o } })
      ∧ (s.pass.state ≠ .running → s.pass.state ≠ .parked →
          t.pass = s.pass ∧ t.timebase.position = s.timebase.position)
    (n = 0 → t = s)
    ∧ (0 < n → s.recording.isOpen = false → t = { s with timebase := { s.timebase with nextPoint := j + n } })
    ∧ (0 < n → s.recording.isOpen = true → j < last → t.timebase.nextPoint = j + n
      ∧ t.recording.queue = s.recording.queue ++ (List.range captured).map line
      ∧ t.flag .overrun = (s.flag .overrun || decide overruns)
      ∧ (overruns → ends .overrun) ∧ (fills → ends .full)
      ∧ (¬ overruns → ¬ fills → t.recording.isOpen = true ∧ t.pass = s.pass
          ∧ t.timebase.position = s.timebase.position)
      ∧ (∀ a, t.axis a = if 0 < captured ∧ a ∈ tracks then { s.axis a with clampSince := false, satSince := false }
          else s.axis a)
      ∧ (0 < captured → t.recording.highWater = max s.recording.highWater (s.recording.queue.length + captured))
      ∧ t.directory = s.directory ∧ t.witness = s.witness ∧ t.camera = s.camera
      ∧ (∀ ev : Event, ev ≠ .overrun → ev ≠ .pass → t.flag ev = s.flag ev)))
  ∧ ∀ (s : State) (kind : BoundaryKind) (order : BoundaryOrder) (c : PassContext) (p : Nat),
    ∀ cause ∈ [State.causeRelock, State.causePulse, State.causeSubstituted, State.causeFlywheel],
    let g := s.raisePoints (p + c.pace * 16)
    let t := s.makeBoundary kind order cause
    s.pass.context = some c → c.mode = .record → s.pass.state = .running → s.timebase.position = some p →
    p + c.pace * 16 < 4294967296 →
    t.recording.queue = g.recording.queue ∧ t.timebase.nextPoint = g.timebase.nextPoint
      ∧ (g.flag .overrun = true → t.flag .overrun = true)

/-! ### The camera status line -/

/-- The line receiver. STATUS_START_EDGE begins a character only while hunting and with the line low in the middle of
the start bit, STATUS_LINE_RETURN_HIGH lets a receiver that waits for it hunt again; neither changes anything else.
STATUS_CHARACTER: with even parity and a high stop bit the word count increments and the data become the held word;
otherwise the error count increments and the held word stays; a low stop bit makes the receiver wait for the line to
return high (R74, R75). -/
def Obligations.StatusLineReceiver : Prop :=
  (∀ (s : State) (after : Nat), let u := s.elapse after
    u.resetControl.inForce = false →
    (u.camera.receiver = .hunting → exec (.statusStartEdge after true) s =
        .next { u with camera := { u.camera with receiver := .receiving 0 } })
    ∧ exec (.statusStartEdge after false) s = .next u
    ∧ (u.camera.receiver ≠ .hunting → ∀ low, exec (.statusStartEdge after low) s = .next u)
    ∧ (u.camera.receiver = .waitingHigh → exec (.statusLineReturnHigh after) s =
        .next { u with camera := { u.camera with receiver := .hunting } })
    ∧ (u.camera.receiver ≠ .waitingHigh → exec (.statusLineReturnHigh after) s = .next u))
  ∧ (∀ (s : State) (after k : Nat) (data : Byte) (parity stop : Bool), let u := s.elapse after
    let ones := (List.range 8).countP (fun i => data.getLsbD i) + parity.toNat
    u.resetControl.inForce = false → u.camera.receiver = .receiving k →
    exec (.statusCharacter after data parity stop) s = .next { u with camera :=
      if stop = true ∧ ones % 2 = 0 then
        { u.camera with receiver := .hunting, held := some data, wordCount := min (u.camera.wordCount + 1) 65535 }
      else { u.camera with receiver := if stop = true then .hunting else .waitingHigh,
                           errorCount := min (u.camera.errorCount + 1) 65535 } })

/-- Every boundary, whatever its kind, lock state and pass state, files the held word or NONE as the newest slot of
the ring, empties the held word, and keeps at most the capacity of the rule, the oldest dropped (R77). After the slot
is filed, a word in at least 4 of 5 or 8 of 10 slots is the declared word, and CAMERA is raised when it differs from
the one before; when it equals that one, or no word agrees, the declared word stays and the receiver raises nothing
(R78). -/
def Obligations.BoundaryFilesSlotAndDeclares : Prop :=
  (∀ (s : State) (kind : BoundaryKind) (order : BoundaryOrder),
    ∀ cause ∈ [State.causeRelock, State.causePulse, State.causeSubstituted, State.causeFlywheel],
      let slots := s.camera.ring ++ [s.camera.held]
      let capacity := match s.camera.rule with | .fourOfFive => 5 | .eightOfTen => 10
      let needed := match s.camera.rule with | .fourOfFive => 4 | .eightOfTen => 8
      let t := s.makeBoundary kind order cause
      t.camera.ring = slots.drop (slots.length - capacity) ∧ t.camera.held = none ∧ t.camera.rule = s.camera.rule
        ∧ t.camera.wordCount = s.camera.wordCount ∧ t.camera.errorCount = s.camera.errorCount
        ∧ t.camera.declared = s.cameraBoundary.camera.declared ∧ s.cameraBoundary.camera.ring = t.camera.ring
        ∧ (∀ w : Byte, needed ≤ t.camera.ring.count (some w) →
            t.camera.declared = w ∧ t.flag .camera = (s.flag .camera || decide (w ≠ s.camera.declared)))
        ∧ ((∀ w : Byte, t.camera.ring.count (some w) < needed) →
            t.camera.declared = s.camera.declared ∧ t.flag .camera = s.flag .camera))
  ∧ (∀ s : State, let ring := s.cameraBoundary.camera.ring
    let needed := match s.camera.rule with | .fourOfFive => 4 | .eightOfTen => 8
    (∀ w : Byte, needed ≤ ring.count (some w) → s.cameraBoundary.camera.declared = w
      ∧ (w ≠ s.camera.declared → s.cameraBoundary.flag .camera = true)
      ∧ (w = s.camera.declared → s.cameraBoundary.port = s.port))
    ∧ ((∀ w : Byte, ring.count (some w) < needed) →
      s.cameraBoundary.camera.declared = s.camera.declared ∧ s.cameraBoundary.port = s.port))

/-! ### The take directory -/

/-- SET_CAMERA with code 0 or 1 sets the rule, empties the ring and both counts, and keeps the declared and the held
word; any other code answers RANGE and changes nothing (R80). SET_TIMEBASE outside PREROLL, RUNNING and PARKED stores
the clamped values as the pending settings, answers OK or ADJUSTED with them and changes nothing else; in those states
it answers BUSY (R21, R22). SET_REGION stores the region, clamped to the end of the 16 MB space, when every entry is
FREE and no ENABLED axis has an address in it; an entry in use answers BUSY, such an address CONFLICT, both with the
region as it stands (R27). -/
def Obligations.SettingCommandsStore : Prop :=
  (∀ (s : State) (rule : Byte), s.takesCommand →
    (∀ r : CameraRule, rule = codeByte r.codeNat → exec (.setCamera rule) s =
      .next (({ s with camera := { s.camera with rule := r, ring := [], wordCount := 0, errorCount := 0 } } :
        State).answered ⟨0x40, [rule]⟩ .ok [rule]))
    ∧ (2 ≤ rule.toNat → exec (.setCamera rule) s = .next (s.answered ⟨0x40, [rule]⟩ .range [])))
  ∧ (∀ (s : State) (n : BitVec 32) (w h : Byte), s.takesCommand →
    let fr : Frame := ⟨0x10, bytes4 n ++ [w] ++ [h]⟩
    let p : TimebaseSettings :=
      ⟨max 125000 (min n.toNat 50000000), max 1 (min w.toNat 32), max 1 (min h.toNat 255)⟩
    (s.pass.state = .preroll ∨ s.pass.state = .running ∨ s.pass.state = .parked →
      exec (.setTimebase n w h) s = .next (s.answered fr .busy []))
    ∧ (s.pass.state ≠ .preroll → s.pass.state ≠ .running → s.pass.state ≠ .parked →
      exec (.setTimebase n w h) s = .next (({ s with timebase := { s.timebase with pending := some p } } : State).answered fr
        (if p = ⟨n.toNat, w.toNat, h.toNat⟩ then .ok else .adjusted)
        (beBytes 4 p.nNom ++ beBytes 1 p.window ++ beBytes 1 p.holdoverLimit))))
  ∧ (∀ (s : State) (base : Byte) (size : BitVec 16), s.takesCommand →
    let fr : Frame := ⟨0x20, [base] ++ bytes2 size⟩
    let units := min size.toNat (256 - base.toNat)
    let standing := beBytes 1 s.directory.regionBase ++ beBytes 2 s.directory.regionSize
    let inside (a : Nat) : Prop := base.toNat * 65536 ≤ a ∧ a < (base.toNat + units) * 65536
    let conflict : Prop := ∃ ax ∈ s.axes, ax.entry.enabled = true ∧
      (inside ax.entry.targetAddr ∨ ∃ f, ax.entry.feedbackAddr = some f ∧ inside f)
    ((∃ e ∈ s.directory.entries, e ≠ none) → exec (.setRegion base size) s = .next (s.answered fr .busy standing))
    ∧ ((∀ e ∈ s.directory.entries, e = none) → conflict →
      exec (.setRegion base size) s = .next (s.answered fr .conflict standing))
    ∧ ((∀ e ∈ s.directory.entries, e = none) → ¬ conflict →
      exec (.setRegion base size) s = .next
        (({ s with directory := { s.directory with regionBase := base.toNat, regionSize := units } } : State).answered fr
          (if size.toNat ≤ 256 - base.toNat then .ok else .adjusted) (beBytes 1 base.toNat ++ beBytes 2 units))))

/-- The extent check: without a region NO_REGION; a range that leaves the region or the 16 MB space, or shares a byte
with the extent of another STORAGE entry, OVERLAP; every other range is granted. The entry's own extent is not
compared (R31). -/
def Obligations.ExtentGrantedExactlyWhenFree : Prop :=
  ∀ (s : State) (t base lines n : Nat), let last := base + lines * ((1 + n) * 4)
    let outside : Prop := 0x1000000 < last ∨ base < s.directory.regionBase * 65536
      ∨ (s.directory.regionBase + s.directory.regionSize) * 65536 < last
    let shared : Prop := ∃ i e b g, 1 ≤ i ∧ i ≤ 32 ∧ i ≠ t ∧ s.entry i = some e ∧ e.kind = .storage b g
      ∧ b < last ∧ base < b + e.lines * ((1 + trackCount e.tracks) * 4)
    (s.directory.regionSize = 0 → s.extentCheck t base lines n = some .noRegion)
    ∧ (s.directory.regionSize ≠ 0 → outside ∨ shared → s.extentCheck t base lines n = some .overlap)
    ∧ (s.directory.regionSize ≠ 0 → ¬ outside → ¬ shared → s.extentCheck t base lines n = none)

/-- An accepted DECLARE makes the entry VERIFYING with the given extent, K and TRACKS (new, or keeping PROTECTED,
TRUNCATED and PASS_COUNT of a REJECTED entry), appends the take to the verify order and answers OK; every other entry,
the pass, the axes and the flags are unchanged (R39). -/
def Obligations.DeclareStartsVerifying : Prop :=
  ∀ (s : State) (take k : Byte) (base lines : BitVec 24) (tracks : AxisSet), s.takesCommand →
    s.directory.entries.length = 32 → 1 ≤ take.toNat → take.toNat ≤ 32 → s.hasRegion = true →
    (s.entry take.toNat = none ∨ ∃ e, s.entry take.toNat = some e ∧ e.state = .rejected) →
    base.toNat % 4 = 0 → 1 ≤ lines.toNat → lines.toNat ≤ 1048576 → tracks ≠ 0 → k.toNat ∈ [1, 2, 4, 8, 16] →
    s.extentCheck take.toNat base.toNat lines.toNat (trackCount tracks) = none →
    ∃ t, exec (.declare take base lines k tracks) s = .next t ∧ t.port.response = some ⟨0, [], 0⟩
      ∧ (s.entry take.toNat = none → t.entry take.toNat = some
          { state := .verifying, kind := .storage base.toNat false, lines := lines.toNat, k := k.toNat, tracks := tracks,
            truncated := false, recordInfo := none, passCount := 0, failLine := none, written := 0 })
      ∧ (∀ e, s.entry take.toNat = some e → t.entry take.toNat = some
          { e with state := .verifying, kind := .storage base.toNat e.guarded, lines := lines.toNat, k := k.toNat,
                   tracks := tracks, failLine := none })
      ∧ (∀ n, n ≠ take.toNat → t.entry n = s.entry n)
      ∧ t.directory.verifyOrder = s.directory.verifyOrder ++ [take.toNat]
      ∧ t.pass = s.pass ∧ t.axes = s.axes ∧ t.timebase = s.timebase ∧ t.witness = s.witness
      ∧ (∀ ev : Event, ev ≠ .protect → ev ≠ .partialWrite → t.flag ev = s.flag ev)
      ∧ t.recording.queue = s.recording.queue ∧ t.lineQueue.lines = s.lineQueue.lines

/-- An accepted DELETE frees the entry, takes a VERIFYING take out of the verify order and answers OK; a take of a
pass not in IDLE, or one an alias names, answers IN_USE and a FREE entry or a number outside 1 to 32 NO_TAKE (R42,
R45). -/
def Obligations.DeleteFreesEntry : Prop :=
  ∀ (s : State) (take : Byte), s.takesCommand →
    (take.toNat = 0 ∨ 32 < take.toNat ∨ s.entry take.toNat = none →
      exec (.delete take) s = .next (s.answered ⟨0x23, [take]⟩ .noTake []))
    ∧ (∀ e, 1 ≤ take.toNat → take.toNat ≤ 32 → s.entry take.toNat = some e →
      ((s.passHolds take.toNat = true ∨ s.directory.namedByAlias take.toNat = true) →
        exec (.delete take) s = .next (s.answered ⟨0x23, [take]⟩ .inUse []))
      ∧ (s.passHolds take.toNat = false → s.directory.namedByAlias take.toNat = false →
        ∃ t, exec (.delete take) s = .next t ∧ t.port.response = some ⟨0, [], 0⟩ ∧ t.entry take.toNat = none
          ∧ (∀ n, n ≠ take.toNat → t.entry n = s.entry n)
          ∧ t.directory.verifyOrder
              = (if e.state = .verifying then s.directory.verifyOrder.erase take.toNat else s.directory.verifyOrder)
          ∧ t.pass = s.pass ∧ t.axes = s.axes ∧ t.timebase = s.timebase
          ∧ (∀ ev : Event, ev ≠ .protect → ev ≠ .partialWrite → t.flag ev = s.flag ev)))

/-- PROTECT and UNPROTECT write the PROTECTED field of the take, or of an alias's root, and answer with the take acted
on and the field, 1 for yes and 0 for no (the yes/no coding of a result is the model's reading of R202, log entry 2);
a FREE entry or a number outside 1 to 32 answers NO_TAKE (R35). -/
def Obligations.ProtectWritesRoot : Prop :=
  ∀ (s : State) (take : Byte), s.takesCommand →
    (take.toNat = 0 ∨ 32 < take.toNat ∨ s.entry take.toNat = none →
      exec (.protect take) s = .next (s.answered ⟨0x24, [take]⟩ .noTake [])
      ∧ exec (.unprotect take) s = .next (s.answered ⟨0x25, [take]⟩ .noTake []))
    ∧ (∀ e root r b g, 1 ≤ take.toNat → take.toNat ≤ 32 → s.entry take.toNat = some e →
        (root = match e.kind with | .storage _ _ => take.toNat | .aliasOf parent _ => parent) →
        s.entry root = some r → r.kind = .storage b g →
      exec (.protect take) s = .next ((s.setEntry root (some { r with kind := .storage b true })).answered
        ⟨0x24, [take]⟩ .ok [codeByte root, 1])
      ∧ exec (.unprotect take) s = .next ((s.setEntry root (some { r with kind := .storage b false })).answered
        ⟨0x25, [take]⟩ .ok [codeByte root, 0]))

/-- An accepted ALIAS of a STORAGE or ALIAS parent makes a READY entry naming the root, with the resolved offset, the
given length and the root's K and TRACKS; an offset and length beyond the root, or a length of 0, answer RANGE (R43). -/
def Obligations.AliasNamesRoot : Prop :=
  ∀ (s : State) (take parent : Byte) (offset length : BitVec 24) (p r : TakeEntry) (root off : Nat),
    s.takesCommand → 1 ≤ take.toNat → take.toNat ≤ 32 → 1 ≤ parent.toNat → parent.toNat ≤ 32 →
    s.entry take.toNat = none → s.entry parent.toNat = some p → p.state = .ready → s.entry root = some r →
    (root, off) = (match p.kind with
      | .storage _ _ => (parent.toNat, offset.toNat)
      | .aliasOf up o => (up, o + offset.toNat)) →
    let fr : Frame := ⟨0x26, [take] ++ [parent] ++ bytes3 offset ++ bytes3 length⟩
    (1 ≤ length.toNat → off + length.toNat ≤ r.lines →
      exec (.aliasTake take parent offset length) s = .next ((s.setEntry take.toNat (some
        { state := .ready, kind := .aliasOf root off, lines := length.toNat, k := r.k, tracks := r.tracks,
          truncated := false, recordInfo := none, passCount := 0, failLine := none, written := 0 })).answered fr .ok
        (beBytes 1 root ++ beBytes 3 off ++ beBytes 3 length.toNat)))
    ∧ (length.toNat = 0 ∨ r.lines < off + length.toNat →
      exec (.aliasTake take parent offset length) s = .next (s.answered fr .range []))

/-- The completion of a verify read of the take at the head: a good tag of a line before the last goes on to the next
line; a good tag of the last makes the take READY, a bad tag REJECTED with FAIL_LINE, and then the take leaves the
order, VERIFY is raised and the next take starts at line 0 (R41). -/
def Obligations.VerifyReadCompletes : Prop :=
  ∀ (s : State) (after take i : Nat) (data : Word) (late slotLate : Bool) (d : DownstreamTxn) (e : TakeEntry),
    let u := s.elapse after
    u.memory.downstream = some d → d.owner = .verifyRead → d.discard = false →
    u.directory.verifyOrder.head? = some take → u.directory.verifyCursor = some i → u.entry take = some e →
    let good : Prop := data.toNat % 65536 = i % 65536 ∧ data.toNat / 65536 % 64 = take
    ∃ t, exec (.downstreamComplete ⟨after, late, slotLate⟩ data) s = .next t
      ∧ (good → i + 1 < e.lines → t.entry take = some e ∧ t.directory.verifyCursor = some (i + 1)
          ∧ t.directory.verifyOrder = u.directory.verifyOrder ∧ t.flag .verify = u.flag .verify)
      ∧ (good → e.lines ≤ i + 1 → t.entry take = some { e with state := .ready } ∧ t.flag .verify = true)
      ∧ (¬ good → t.entry take = some { e with state := .rejected, failLine := some i } ∧ t.flag .verify = true)
      ∧ (¬ good ∨ e.lines ≤ i + 1 → t.directory.verifyOrder = u.directory.verifyOrder.tail
          ∧ t.directory.verifyCursor = if u.directory.verifyOrder.tail = [] then none else some 0)
      ∧ (∀ n, n ≠ take → t.entry n = u.entry n) ∧ t.pass = u.pass ∧ t.axes = u.axes ∧ t.timebase = u.timebase

/-! ### The memory path and its arbiter -/

/-- A partial TARGET write is blocked at its taking: it completes upstream at once, PARTIAL is raised and
PARTIAL_BLOCKS increments, and nothing else changes: no axis, no flag of an axis, no downstream transaction, no
blocked-address record (R134, R137). That lastUpstream shows the written data is the model's own field, log entry 5. -/
def Obligations.PartialTargetWriteIsBlocked : Prop :=
  ∀ (s : State) (after a : Nat) (slotLate : Bool) (address : BitVec 22) (lanes : BitVec 4) (data : Word),
    let u := s.elapse after
    u.memory.upstream = none → u.resetControl.inForce = false → u.targetAxis (address.toNat * 4) = some a → lanes ≠ 0xF →
    exec (.upstreamTransactionTaken ⟨after, slotLate⟩ true address lanes data) s = .next { u with
      memory := { u.memory with partialBlocks := min (u.memory.partialBlocks + 1) 65535 }
      port := { u.port with flags := u.port.flags ||| 0x0200 }
      lastUpstream := some ⟨address.toNat * 4, true, data⟩ }

/-- With both ports free and the take engine without a request, a transaction that is neither a TARGET write nor a
write to a protected word goes downstream at once, unaltered; a write into the region is marked for its coherence
notice; nothing else changes (R131, R135, R138 to R140, R144, R145). With `slotLate` a transaction that is no TARGET
write waits with the port free, and the arbiter's decision comes later in the instant (R144; that it waits in
State.due is log entry 1). -/
def Obligations.UncheckedTransactionGoesDownstream : Prop :=
  ∀ (s : State) (after : Nat) (write : Bool) (address : BitVec 22) (lanes : BitVec 4) (data : Word),
    let u := s.elapse after
    let addr := address.toNat * 4
    u.memory.upstream = none → u.memory.downstream = none → u.resetControl.inForce = false → u.queueActive = false →
    (write = true → u.targetAxis addr = none) →
    (u.takeRequest = none → (write = true → u.inRegion addr = true → u.directory.wordProtected addr = false) →
      ∃ t, exec (.upstreamTransactionTaken ⟨after, false⟩ write address lanes data) s = .next t
      ∧ t.memory.downstream = some ⟨.passThrough, addr, write, lanes, data, false, write && u.inRegion addr⟩
      ∧ t.memory.upstream.map (fun r => (r.address, r.write, r.lanes, r.data, r.phase))
          = some (addr, write, lanes, data, .downstream)
      ∧ t.memory.urgentRun = 0
      ∧ t = { u with memory := { u.memory with upstream := t.memory.upstream, downstream := t.memory.downstream,
                                               urgentRun := 0 } })
    ∧ ∃ t, exec (.upstreamTransactionTaken ⟨after, true⟩ write address lanes data) s = .next t
      ∧ t.memory.upstream.map (fun r => (r.address, r.write, r.lanes, r.data, r.phase))
          = some (addr, write, lanes, data, .waiting)
      ∧ t = { u with memory := { u.memory with upstream := t.memory.upstream }, due := u.due ++ [.slot] }

/-- A write into a protected word of the region is blocked at its grant: it completes upstream at once, PROTECT is
raised, PROTECT_BLOCKS increments, the blocked-address record keeps the first address (R34, R140, R141), and the
urgent run is 0 (R145); a grant decided later in the instant is UncheckedTransactionGoesDownstream's second part. That
lastUpstream shows the written data is the model's own field, log entry 5. -/
def Obligations.ProtectedWriteIsBlocked : Prop :=
  ∀ (s : State) (after : Nat) (address : BitVec 22) (lanes : BitVec 4) (data : Word), let u := s.elapse after
    let addr := address.toNat * 4
    u.memory.upstream = none → u.memory.downstream = none → u.resetControl.inForce = false → u.takeRequest = none →
    u.queueActive = false → u.targetAxis addr = none → u.inRegion addr = true → u.directory.wordProtected addr = true →
    exec (.upstreamTransactionTaken ⟨after, false⟩ true address lanes data) s = .next { u with
      memory := { u.memory with urgentRun := 0, protectBlocks := min (u.memory.protectBlocks + 1) 65535,
                                blockedAddress := some (u.memory.blockedAddress.getD addr) }
      port := { u.port with flags := u.port.flags ||| 0x0100 }
      lastUpstream := some ⟨addr, true, data⟩ }

/-- While no reset is in force the arbiter starts no pass-through write into a word the directory holds protected,
nor, unless it is the TARGET write the axis unit processed, into an enabled axis's target word (R34, R140, R143). -/
def Obligations.ArbiterStartsNoForbiddenWrite : Prop :=
  ∀ (s : State) (d : DownstreamTxn), s.resetControl.inForce = false → s.memory.downstream = none →
    s.settle.memory.downstream = some d → d.owner = .passThrough → d.write = true →
    (s.inRegion d.address = true → s.directory.wordProtected d.address = false)
    ∧ ((s.targetAxis d.address).isSome = true → s.memory.upstream.map (·.cls) = some .target)

/-- The arbiter's table: with both sides waiting the urgent take engine wins below an urgent run of 4 and the run
increments, pass-through wins otherwise and the run is 0; the take engine alone keeps the run at 4 only when urgent,
and a verify read is never urgent (R145, R146). The take engine is urgent exactly when it has pass work and either the
record queue holds 12 or more lines or a REPLAY or WITNESS pass in ARMED, PREROLL, RUNNING or PARKED has fewer than 4
queued lines above CURRENT_LINE + 2 and lines still unfetched (R93, R107, R146); that a fetch read in flight is no pass
work is the model's reading (DEDUCED, log entry 22). A slot won by a pass-through write that its checks block is decided
again for the take engine, from an urgent run of 0 (R141, R143, R145). A completion whose slot is decided later in the instant leaves the
port free; the transaction the motion processor presents at that instant is then present at the decision: it wins over
a take engine that is not urgent, and waits for one that is urgent below a run of 4 (R144; the operand slotLate is log
entry 13). -/
def Obligations.ArbiterTable : Prop :=
  (∀ s : State, s.memory.downstream = none →
    (∀ r, s.takeRequest = some r → (s.waitingUpstream = none ∨ (s.takeUrgent = true ∧ s.memory.urgentRun < 4)) →
      s.arbitrate.memory.downstream = some r
        ∧ s.arbitrate.memory.urgentRun = if s.takeUrgent = true then min 4 (s.memory.urgentRun + 1) else 0)
    ∧ (∀ t notice, s.waitingUpstream = some t → s.grantDecision t = .forward notice →
        (s.takeRequest = none ∨ s.takeUrgent = false ∨ s.memory.urgentRun = 4) →
        s.arbitrate.memory.downstream
          = some ⟨.passThrough, t.address, t.write, t.lanes, t.forwardData.getD t.data, false, notice⟩
        ∧ s.arbitrate.memory.urgentRun = 0)
    ∧ (∀ r, s.takeRequest = some r → r.owner = .verifyRead → s.takeUrgent = false)
    ∧ (∀ t r, s.waitingUpstream = some t → s.takeRequest = some r → s.takeUrgent = false ∨ s.memory.urgentRun = 4 →
        let offCheck : Prop := t.cls ≠ .target ∧ (s.targetAxis t.address).isSome = true
        let guarded : Prop := (t.cls = .region ∨ s.inRegion t.address = true) ∧ s.directory.wordProtected t.address = true
        t.write = true → offCheck ∨ guarded →
        s.arbitrate.memory.downstream = some r ∧ s.arbitrate.memory.upstream = none
          ∧ s.arbitrate.memory.urgentRun = (if s.takeUrgent = true then 1 else 0)
          ∧ (offCheck → s.arbitrate.memory.partialBlocks = min 65535 (s.memory.partialBlocks + 1)
              ∧ s.arbitrate.memory.protectBlocks = s.memory.protectBlocks ∧ s.arbitrate.flag .partialWrite = true)
          ∧ (¬ offCheck → s.arbitrate.memory.protectBlocks = min 65535 (s.memory.protectBlocks + 1)
              ∧ s.arbitrate.memory.blockedAddress = some (s.memory.blockedAddress.getD t.address)
              ∧ s.arbitrate.memory.partialBlocks = s.memory.partialBlocks ∧ s.arbitrate.flag .protect = true)))
  ∧ (∀ s : State, let q := s.lineQueue
    let work : Prop := s.resetControl.inForce = false ∧ (s.recording.writer ≠ none
      ∨ (q.geometry ≠ none ∧ ∃ a, q.assembly = some a ∧ a.inFlight = false))
    let near : Prop := ∀ cur, q.currentLine = some cur → (q.lines.filter fun l => decide (cur + 2 < l.index)).length < 4
    let unfetched : Prop := q.assembly ≠ none ∨ ∃ g i, q.geometry = some g ∧ q.nextFetch = some i ∧ i < g.lines
    let byLines : Prop := (s.mode = some .replay ∨ s.mode = some .witness)
      ∧ s.pass.state ∈ [PassState.armed, .preroll, .running, .parked] ∧ near ∧ unfetched
    s.takeUrgent = true ↔ work ∧ (byLines ∨ 12 ≤ s.recording.queue.length))
  ∧ ∀ (s : State) (after : Nat) (late : Bool) (answer : Word) (d : DownstreamTxn), let u := s.elapse after
    u.memory.downstream = some d → u.resetControl.inForce = false →
    ∃ t, exec (.downstreamComplete ⟨after, late, true⟩ answer) s = .next t ∧ t.memory.downstream = none
      ∧ t.due = (u.completeDownstream d answer late).due ++ [.slot]
      ∧ ∀ (write : Bool) (address : BitVec 22) (lanes : BitVec 4) (data : Word), let addr := address.toNat * 4
        t.memory.upstream = none →
        (write = true → t.targetAxis addr = none ∧ (t.inRegion addr = true → t.directory.wordProtected addr = false)) →
        ∃ v, exec (.upstreamTransactionTaken ⟨0, false⟩ write address lanes data) t = .next v
          ∧ (t.takeRequest = none ∨ t.takeUrgent = false ∨ t.memory.urgentRun = 4 → v.memory.urgentRun = 0
              ∧ v.memory.downstream
                = some ⟨.passThrough, addr, write, lanes, data, false, write && t.inRegion addr⟩)
          ∧ (∀ r, t.takeRequest = some r → t.takeUrgent = true → t.memory.urgentRun < 4 →
              v.memory.downstream = some r ∧ v.memory.urgentRun = t.memory.urgentRun + 1
                ∧ v.memory.upstream.map (fun x => (x.address, x.phase)) = some (addr, .waiting))

/-- The completion of a forwarded transaction. A read returns the data upstream unaltered and ends the transaction;
the pass's state and context and the directory are unchanged (R131, R135, R138, R140). A full-word FEEDBACK read of an
axis with FEEDBACK_ADDR present at its completion records the saturated data as its last observed feedback; with
SOURCE FOLLOWING in a REPLAY or WITNESS pass in RUNNING and a last forwarded value, the comparison f less that value
is taken (R139, R165). Every other read, among them that of an axis whose FEEDBACK_ADDR is absent then, leaves the
axes and the witness unit as they were. That such a read is one of the axis of its taking, and observes nothing when
that axis has no FEEDBACK_ADDR any more at the completion, is the model's reading of R139 and R165 (DEDUCED, log entry
17). A write with no coherence notice to send (PLAIN, FEEDBACK, TARGET) completes
upstream and changes nothing else of any block (R131, R135, R136, R139); that lastUpstream shows the written data is
the model's own field, log entry 5. -/
def Obligations.ForwardedTransactionCompletes : Prop :=
  (∀ (s : State) (after : Nat) (data : Word) (late slotLate : Bool) (d : DownstreamTxn) (r : UpstreamTxn),
    let u := s.elapse after
    u.memory.downstream = some d → d.owner = .passThrough → d.discard = false → d.notice = false →
    u.memory.upstream = some r → r.write = false →
    ∃ t, exec (.downstreamComplete ⟨after, late, slotLate⟩ data) s = .next t
      ∧ t.lastUpstream = some ⟨r.address, false, data⟩
      ∧ t.memory.upstream = none ∧ t.pass.state = u.pass.state ∧ t.pass.context = u.pass.context
      ∧ t.directory = u.directory ∧ t.timebase = u.timebase
      ∧ (r.cls ≠ .feedback ∨ r.lanes ≠ 0xF ∨ r.throughReset = true
            ∨ (∀ a, r.axis = some a → (u.axis a).entry.feedbackAddr = none) →
          t.axes = u.axes ∧ t.pass = u.pass ∧ t.witness = u.witness ∧ t.port = u.port)
      ∧ (∀ a, r.cls = .feedback → r.axis = some a → r.lanes = 0xF → r.throughReset = false → a < u.axes.length →
          a < u.witness.axes.length → (u.axis a).entry.feedbackAddr ≠ none →
          let f : Int := max (-8388608) (min 8388607 data.toInt)
          let follows : Prop := (u.axis a).entry.processing.source = .following ∧ u.pass.state = .running
            ∧ (u.mode = some .replay ∨ u.mode = some .witness)
          t.axis a = { u.axis a with lastFeedback := some f } ∧ (∀ n, n ≠ a → t.axis n = u.axis n)
            ∧ (∀ l, follows → (u.axis a).lastForwarded = some l →
                t.witnessAxis a = (u.witnessAxis a).take (u.axis a).entry.processing.tol (f - l)
                  ∧ ∀ n, n ≠ a → t.witnessAxis n = u.witnessAxis n)
            ∧ (¬ follows ∨ (u.axis a).lastForwarded = none →
                t.witness = u.witness ∧ t.pass = u.pass ∧ t.port = u.port)))
  ∧ ∀ (s : State) (after : Nat) (data : Word) (late slotLate : Bool) (d : DownstreamTxn) (r : UpstreamTxn),
    let u := s.elapse after
    u.memory.downstream = some d → d.owner = .passThrough → d.discard = false → d.notice = false →
    u.memory.upstream = some r → r.write = true →
    ∃ t, exec (.downstreamComplete ⟨after, late, slotLate⟩ data) s = .next t
      ∧ t.lastUpstream = some ⟨r.address, true, r.data⟩ ∧ t.memory.upstream = none
      ∧ t.axes = u.axes ∧ t.pass = u.pass ∧ t.witness = u.witness ∧ t.port = u.port ∧ t.directory = u.directory
      ∧ t.timebase = u.timebase ∧ t.camera = u.camera ∧ t.interpolator = u.interpolator
      ∧ t.writeInProcessing = u.writeInProcessing ∧ t.recording.queue = u.recording.queue
      ∧ t.lineQueue.lines = u.lineQueue.lines

/-- The completion of a forwarded write into the region, to word w of line i of the take of a REPLAY or WITNESS pass
not in IDLE: of the queued line and of the words read of the line in assembly that word takes the enabled lanes; a tag
word of a queued line is checked again, and TAG is raised when it turns bad, with no tag failure counted. In IDLE and
RECORD passes the queue is unchanged (R110 to R113, R140). -/
def Obligations.CoherenceNoticeUpdatesLine : Prop :=
  (∀ (old new : Word) (lanes : BitVec 4) (j : Nat), j < 4 →
    (mergeLanes old new lanes).extractLsb' (8 * j) 8
      = if lanes.getLsbD j then new.extractLsb' (8 * j) 8 else old.extractLsb' (8 * j) 8)
  ∧ ∀ (s : State) (after : Nat) (data : Word) (late slotLate : Bool) (d : DownstreamTxn) (r : UpstreamTxn),
    let u := s.elapse after
    u.memory.downstream = some d → d.owner = .passThrough → d.discard = false → d.notice = true →
    u.memory.upstream = some r → r.write = true →
    ∃ t, exec (.downstreamComplete ⟨after, late, slotLate⟩ data) s = .next t
      ∧ t.memory.upstream = none ∧ t.pass = u.pass
      ∧ t.axes = u.axes ∧ t.directory = u.directory ∧ t.timebase = u.timebase ∧ t.witness = u.witness
      ∧ (u.queueActive = false → t.lineQueue.lines = u.lineQueue.lines ∧ t.flag .tag = u.flag .tag)
      ∧ (∀ (g : Geometry) (e : TakeEntry) (i w : Nat), u.queueActive = true → u.lineQueue.geometry = some g →
          u.entry g.root = some e → i < g.lines → w ≤ g.trackCount → g.offset + i < e.lines →
          d.address = g.base + ((g.offset + i) * (1 + g.trackCount) + w) * 4 →
          let merged (words : List Word) : List Word := words.modify w fun old => mergeLanes old d.data d.lanes
          let good (words : List Word) : Prop :=
            (words.headD 0).toNat % 65536 = (g.offset + i) % 65536 ∧ (words.headD 0).toNat / 65536 % 64 = g.root
          t.lineQueue.lines = u.lineQueue.lines.map (fun l => if l.index = i then
              { l with words := merged l.words, usable := if w = 0 then decide (good (merged l.words)) else l.usable }
            else l)
          ∧ (t.flag .tag = true ↔ u.flag .tag = true ∨ (w = 0 ∧ ∃ l ∈ u.lineQueue.lines, l.index = i ∧ l.usable = true
              ∧ ¬ good (merged l.words)))
          ∧ (∀ a, u.lineQueue.assembly = some a → ∃ b, t.lineQueue.assembly = some b ∧ b.index = a.index
              ∧ b.words = if a.index = i then merged a.words else a.words))

/-! ### The axis unit -/

/-- The three bounds: the soft limit, the step limit around the last forwarded value when STEP is not 0 and there is one,
and the soft limit again give the forwarded value (R161). CLAMP is marked exactly when the first or the third changes the
value, STEPPED exactly when the second does (R162). So the forwarded value lies within the soft limits, MIN and MAX win
over the step limit, and a candidate within all three bounds is forwarded unchanged and marks nothing. -/
def Obligations.BoundsKeepSoftLimits : Prop :=
  ∀ (p : Processing) (last : Option Int) (c : Int), p.min ≤ p.max →
    let b := applyBounds p last c
    let soft (x : Int) : Int := if x < p.min then p.min else if p.max < x then p.max else x
    let near (x : Int) : Int := match last with
      | some l => if p.step = 0 then x else if x < l - p.step then l - p.step else if l + p.step < x then l + p.step else x
      | none => x
    (0 ≤ p.step → b.value = soft (near (soft c))
      ∧ (b.clamped = true ↔ soft c ≠ c ∨ soft (near (soft c)) ≠ near (soft c))
      ∧ (b.stepped = true ↔ near (soft c) ≠ soft c))
    ∧ (p.min ≤ b.value ∧ b.value ≤ p.max)
    ∧ (p.min ≤ c → c ≤ p.max → (∀ l, p.step ≠ 0 → last = some l → l - p.step ≤ c ∧ c ≤ l + p.step) → b = ⟨c, false, false⟩)
    ∧ (∀ l, p.step > 0 → last = some l → p.min ≤ l → l ≤ p.max → l - p.step ≤ b.value ∧ b.value ≤ l + p.step)
    ∧ (p.step = 0 ∨ last = none → (c < p.min → b = ⟨p.min, true, false⟩) ∧ (p.max < c → b = ⟨p.max, true, false⟩))
    ∧ (∀ l, p.step > 0 → last = some l → p.min ≤ c → c ≤ p.max →
        (l + p.step < c → p.min ≤ l + p.step → b = ⟨l + p.step, false, true⟩)
        ∧ (c < l - p.step → l - p.step ≤ p.max → b = ⟨l - p.step, false, true⟩)
        ∧ (l + p.step < p.min → b = ⟨p.min, true, true⟩) ∧ (p.max < l - p.step → b = ⟨p.max, true, true⟩))

/-- A full-word TARGET write that is not held: in IDLE, in a RECORD pass, to an axis that is no track of a REPLAY pass
or in its ENDING, or in a WITNESS pass but for a track of SOURCE COMMAND in RUNNING. It is saturated, bounded and
fixed at once: the axis's last forwarded value is the value, sign-extended as the data to be forwarded; with the
24-bit range left, SAT and SATURATE are set, with a bound changing it, CLAMP is raised; outside IDLE the summary
counts one saturation and at most one clamp, and RECORD_INFO of a RECORDING take follows the clamps; no other axis
changes and no comparison is made (R37, R136, R158 to R164). -/
def Obligations.TargetWriteNotHeld : Prop :=
  ∀ (s : State) (after a : Nat) (slotLate : Bool) (address : BitVec 22) (data : Word), let u := s.elapse after
    let v := max (-8388608) (min 8388607 data.toInt)
    let b := applyBounds (u.axis a).entry.processing (u.axis a).lastForwarded v
    let saturated : Bool := decide (v ≠ data.toInt)
    let changed : Bool := b.clamped || b.stepped
    let count (n : Nat) : Nat := min (n + 1) 4294967295
    let held : Prop := ∃ c, u.pass.context = some c ∧ c.tracks.getLsbD a = true
      ∧ ((c.mode = .replay ∧ u.pass.state ≠ .idle ∧ u.pass.state ≠ .ending)
        ∨ (c.mode = .witness ∧ u.pass.state = .running ∧ (u.axis a).entry.processing.source = .command))
    u.memory.upstream = none → u.resetControl.inForce = false → u.targetAxis (address.toNat * 4) = some a →
    ¬ held → u.inRegion (address.toNat * 4) = false →
    ∃ t, exec (.upstreamTransactionTaken ⟨after, slotLate⟩ true address 0xF data) s = .next t
      ∧ (t.axis a).lastForwarded = some b.value
      ∧ t.memory.upstream.map (fun r => (r.address, r.data, r.cls, r.axis, r.forwardData))
          = some (address.toNat * 4, data, .target, some a, some (BitVec.ofInt 32 b.value))
      ∧ (t.axis a).sat = ((u.axis a).sat || saturated) ∧ (t.axis a).satSince = ((u.axis a).satSince || saturated)
      ∧ (t.axis a).clamp = ((u.axis a).clamp || b.clamped) ∧ (t.axis a).stepped = ((u.axis a).stepped || b.stepped)
      ∧ (t.axis a).clampSince = ((u.axis a).clampSince || changed)
      ∧ t.flag .saturate = (u.flag .saturate || saturated) ∧ t.flag .clamp = (u.flag .clamp || changed)
      ∧ t.writeInProcessing = u.writeInProcessing ∧ t.interpolator = u.interpolator
      ∧ (u.pass.state = .idle → t.pass = u.pass ∧ t.directory = u.directory)
      ∧ (u.pass.state ≠ .idle → t.pass = { u.pass with summary := u.pass.summary.map fun m => { m with
          saturates := if saturated then count m.saturates else m.saturates
          clamps := if changed then count m.clamps else m.clamps } })
      ∧ (changed = false ∨ u.mode ≠ some .record → t.directory = u.directory)
      ∧ (∀ c m e, u.pass.context = some c → c.mode = .record → u.pass.state ≠ .idle → changed = true →
          u.pass.summary = some m → u.entry c.take = some e →
          t.entry c.take = some (if e.state = .recording then
            { e with recordInfo := e.recordInfo.map fun i => { i with clamps := count m.clamps } } else e)
          ∧ ∀ n, n ≠ c.take → t.entry n = u.entry n)
      ∧ (∀ n, n ≠ a → t.axis n = u.axis n) ∧ t.witness = u.witness ∧ t.timebase = u.timebase

/-- A full-word TARGET write to a track during a REPLAY pass not in IDLE, or to a track of SOURCE COMMAND during a
WITNESS pass in RUNNING, is saturated and held: an interpolation is requested at the position of the pass state, with
copies of the four clamped lines that are queued once CURRENT_LINE and retirement are up to date; one starvation is
counted and STARVE raised when any is missing. The request carries the pass's mode and the axis's track place, its
number from 1 among the tracks in ascending order (R117, R120). The last forwarded value and the data to be forwarded are not fixed yet
(R104, R105, R108, R109, R117 to R119, R136, R157 to R159). -/
def Obligations.TargetWriteInPassIsHeld : Prop :=
  ∀ (s : State) (after a cur : Nat) (slotLate : Bool) (address : BitVec 22) (data : Word) (c : PassContext) (g : Geometry),
    let u := s.elapse after
    let v : Int := max (-8388608) (min 8388607 data.toInt)
    let running : Prop := u.pass.state = .running
    let p := if running then u.runningPosition else u.timebase.position.getD 0
    let i := if u.pass.state = .complete then g.lines - 1 else p * c.k / 65536
    let phase := if u.pass.state = .complete then 0 else p * c.k % 65536
    let now := max cur (min i (g.lines - 1))
    let kept := u.lineQueue.lines.filter fun l => decide (now - 1 ≤ l.index)
    let needed := [i - 1, i, i + 1, i + 2].map fun n => min n (g.lines - 1)
    let starves : Prop := ∃ n ∈ needed, ∀ l ∈ kept, l.index ≠ n
    let proc := (u.axis a).entry.processing
    u.memory.upstream = none → u.resetControl.inForce = false → u.targetAxis (address.toNat * 4) = some a →
    u.pass.context = some c → c.tracks.getLsbD a = true → u.lineQueue.geometry = some g →
    u.lineQueue.currentLine = some cur →
    ((c.mode = .replay ∧ u.pass.state ≠ .idle ∧ u.pass.state ≠ .ending)
      ∨ (c.mode = .witness ∧ running ∧ proc.source = .command)) →
    ∃ t r, exec (.upstreamTransactionTaken ⟨after, slotLate⟩ true address 0xF data) s = .next t
      ∧ t.writeInProcessing = some ⟨a, v, if c.mode = .replay then .replay else .witness,
          decide (u.pass.state = .running ∧ proc.source = .command)⟩
      ∧ t.interpolator.inFlight = some r ∧ r.axis = a ∧ r.interp = c.interp.getD .step ∧ r.sIndex = i ∧ r.phase = phase
      ∧ r.readAt = (if u.pass.state = .complete then .lastLine else if running then .position p else .frozen p)
      ∧ r.slots = needed.map (fun n => ⟨n, kept.find? fun l => l.index == n⟩)
      ∧ r.scale = proc.scale ∧ r.offset = proc.offset ∧ r.mode = c.mode
      ∧ r.place = ((List.range a).filter fun n => c.tracks.getLsbD n).length + 1
      ∧ t.lineQueue.lines = kept ∧ t.lineQueue.currentLine = some now
      ∧ (t.flag .starve = true ↔ u.flag .starve = true ∨ starves)
      ∧ (starves → t.pass.summary.map (·.starves) = u.pass.summary.map fun m => min (m.starves + 1) 4294967295)
      ∧ (¬ starves → t.pass.summary.map (·.starves) = u.pass.summary.map (·.starves))
      ∧ (t.axis a).sat = ((u.axis a).sat || decide (v ≠ data.toInt)) ∧ (t.axis a).lastForwarded = (u.axis a).lastForwarded
      ∧ t.memory.upstream.map (fun x => (x.address, x.data, x.phase, x.forwardData))
          = some (address.toNat * 4, data, .atAxis, none)
      ∧ t.pass.state = u.pass.state ∧ t.timebase = u.timebase ∧ t.witness = u.witness

/-- An accepted SET_AXIS writes the whole entry at once outside PREROLL, RUNNING and PARKED, the pending copy made
absent; in those states it writes the seven processing fields to the pending copy alone. A new target address, or
enabling, makes the last forwarded value absent; no other axis changes (R152, R154). CLEAR_AXIS_FLAGS clears SAT,
CLAMP and STEPPED of the named axes and nothing else, in every pass state (R168). -/
def Obligations.AxisCommandsWriteAxes : Prop :=
  (∀ (s : State) (a enabled present source : Byte) (target feedback mn mx step offset : BitVec 24) (tol scale : BitVec 16)
    (src : Source), s.takesCommand → s.axes.length = 16 → a.toNat < 16 → enabled.toNat ≤ 1 → present.toNat ≤ 1 →
    source = codeByte src.codeNat → target.toNat % 4 = 0 → (present = 1 → feedback.toNat % 4 = 0) → mn.toInt ≤ mx.toInt →
    let p : Processing := ⟨mn.toInt, mx.toInt, min step.toNat 8388607, tol.toNat, src, scale.toInt, offset.toInt⟩
    let e : AxisEntry := ⟨enabled = 1, target.toNat, if present = 1 then some feedback.toNat else none, p⟩
    let old := s.axis a.toNat
    let pends : Prop := s.pass.state = .preroll ∨ s.pass.state = .running ∨ s.pass.state = .parked
    (s.pass.state = .armed ∨ pends → old.entry.enabled = e.enabled ∧ old.entry.targetAddr = e.targetAddr
      ∧ old.entry.feedbackAddr = e.feedbackAddr) →
    (e.enabled = true → s.addressConflict a.toNat e = false) →
    ∃ t, exec (.setAxis a enabled target present feedback mn mx step tol source scale offset) s = .next t
      ∧ t.port.response.map (·.status) = some (if step.toNat ≤ 8388607 then 0 else 1)
      ∧ (pends → t.axis a.toNat = { old with pending := some p })
      ∧ (¬ pends → (t.axis a.toNat).entry = e ∧ (t.axis a.toNat).pending = none
          ∧ (t.axis a.toNat).lastForwarded
              = (if old.entry.targetAddr ≠ e.targetAddr ∨ (old.entry.enabled = false ∧ e.enabled = true) then none
                else old.lastForwarded)
          ∧ (t.axis a.toNat).lastFeedback = (if old.entry.feedbackAddr = e.feedbackAddr then old.lastFeedback else none))
      ∧ (∀ n, n ≠ a.toNat → t.axis n = s.axis n) ∧ t = { s with axes := t.axes, port := t.port }
      ∧ t.port.flags = s.port.flags)
  ∧ (∀ (s : State) (axes : AxisSet), s.takesCommand → s.axes.length = 16 →
    ∃ t, exec (.clearAxisFlags axes) s = .next t ∧ t.port.response.map (·.status) = some 0
      ∧ (∀ a, a < 16 → t.axis a = if axes.getLsbD a then
          { s.axis a with sat := false, clamp := false, stepped := false } else s.axis a)
      ∧ t = { s with axes := t.axes, port := t.port } ∧ t.port.flags = s.port.flags)

/-! ### The pass controller -/

/-- An accepted RECORD_ARM: the entry becomes RECORDING with the reserved extent, the pass is ARMED with a new summary
of mode RECORD, position and counts at 0, recording OPEN and empty with HIGH_WATER 0, and PASS raised; the lock state,
the witness unit and every other entry are unchanged (R36, R51, R52, R83). -/
def Obligations.RecordArmStartsPass : Prop :=
  ∀ (s : State) (take k trigger lock preroll : Byte) (base maxLines : BitVec 24) (tracks : AxisSet) (pace length : BitVec 16)
    (trig : Trigger), s.takesCommand → s.directory.entries.length = 32 → s.pass.state = .idle →
    1 ≤ take.toNat → take.toNat ≤ 32 → s.entry take.toNat = none → k.toNat ∈ [1, 2, 4, 8, 16] →
    trigger = codeByte trig.codeNat → lock.toNat ≤ 1 → base.toNat % 4 = 0 → tracks ≠ 0 → s.tracksEnabled tracks = true →
    let lines := max 1 (min maxLines.toNat 1048576)
    let pace' := max 1 (min pace.toNat 16384)
    s.extentCheck take.toNat base.toNat lines (trackCount tracks) = none →
    ∃ t, exec (.recordArm take base maxLines k tracks trigger lock preroll pace length) s = .next t
      ∧ t.port.response = some ⟨if lines = maxLines.toNat ∧ pace' = pace.toNat then 0 else 1,
          beBytes 3 lines ++ beBytes 2 pace', 0⟩
      ∧ t.entry take.toNat = some
          { state := .recording, kind := .storage base.toNat false, lines := lines, k := k.toNat, tracks := tracks,
            truncated := false, recordInfo := none, passCount := 0, failLine := none, written := 0 }
      ∧ (∀ n, n ≠ take.toNat → t.entry n = s.entry n)
      ∧ t.pass.state = .armed ∧ t.pass.pending = none ∧ t.pass.hasRun = false
      ∧ t.pass.context = some
        { mode := .record, take := take.toNat, startFrame := 0, pace := pace', interp := none,
          trigger := trig, requireLock := lock = 1, preroll := preroll.toNat, resumePreroll := 0, policy := none,
          length := some length.toNat, maxLines := some lines, k := k.toNat, tracks := tracks, base := some base.toNat }
      ∧ t.pass.summary = some
        { mode := .record, take := take.toNat, startFrame := 0, outcome := none, frames := 0,
          frameOffset := 0, slips := 0, clamps := 0, saturates := 0, starves := 0, tagFails := 0, records := 0, lost := 0,
          mark := none, syncLost := false }
      ∧ t.timebase = { s.timebase with position := some 0, nextPoint := 0, passPulses := 0, advances := 0,
                                       frameOffset := 0, slips := 0 }
      ∧ t.recording = ⟨true, [], none, 0⟩ ∧ t.flag .pass = true ∧ t.witness = s.witness
      ∧ (∀ a, a < 16 → (t.axis a).clampSince = false ∧ (t.axis a).satSince = false
          ∧ (t.axis a).entry = (s.axis a).entry)

/-- An accepted REPLAY_ARM or WITNESS_ARM: the pass is ARMED at START_FRAME with a new summary, the line queue is
empty with CURRENT_LINE at the start line s0, every axis with a source is UNCHECKED with its history emptied, every
previous interpolated result is absent, the log is emptied and PASS raised; the context copies the take's K and TRACKS,
and LENGTH, MAX_LINES and BASE are absent (R49); the take's entry, the inject offsets and the lock state are unchanged
(R49, R53, R54, R100, R104, R128, R180, R184). The geometry is the take's own, or for an alias its LINES and OFFSET with
the root's number and BASE (R100). Fetching begins at line max(s0 − 1, 0): that line is started within the step, and the
next fetch index is the one after it (R100, R101, R114). -/
def Obligations.ReadArmsStartPass : Prop :=
  ∀ (s : State) (take interp trigger lock preroll resume policy : Byte) (startFrame pace : BitVec 16) (e : TakeEntry)
    (i : Interp) (trig : Trigger) (pol : Policy), s.takesCommand → s.pass.state = .idle →
    1 ≤ take.toNat → take.toNat ≤ 32 → s.entry take.toNat = some e → e.state = .ready → interp = codeByte i.codeNat →
    trigger = codeByte trig.codeNat → lock.toNat ≤ 1 → policy = codeByte pol.codeNat → s.tracksEnabled e.tracks = true →
    startFrame.toNat * e.k < e.lines →
    ∀ c ∈ [(PassMode.replay, Instr.replayArm take startFrame pace interp trigger lock preroll resume policy),
           (PassMode.witness, Instr.witnessArm take startFrame pace interp trigger lock preroll resume policy)],
    let pace' := max 1 (min pace.toNat 16384)
    ∃ t, exec c.2 s = .next t
      ∧ t.port.response = some ⟨if pace' = pace.toNat then 0 else 1,
          beBytes 2 pace' ++ beBytes 3 (startFrame.toNat * e.k), 0⟩
      ∧ t.pass.state = .armed ∧ t.pass.pending = none ∧ t.pass.hasRun = false
      ∧ t.pass.context.map (fun x => (x.mode, x.take, x.startFrame, x.pace)) =
          some (c.1, take.toNat, startFrame.toNat, pace')
      ∧ t.pass.context.map (fun x => (x.interp, x.trigger, x.requireLock, x.preroll, x.resumePreroll, x.policy)) =
          some (some i, trig, decide (lock = 1), preroll.toNat, resume.toNat, some pol)
      ∧ t.pass.context.map (fun x => (x.length, x.maxLines, x.base)) = some (none, none, none)
      ∧ t.pass.context.map (fun x => (x.k, x.tracks)) = some (e.k, e.tracks)
      ∧ (∀ b g, e.kind = .storage b g → t.lineQueue.geometry
          = some ⟨take.toNat, e.lines, take.toNat, b, trackCount e.tracks, 0⟩)
      ∧ (∀ root off r b g, e.kind = .aliasOf root off → s.entry root = some r → r.kind = .storage b g →
          t.lineQueue.geometry = some ⟨take.toNat, e.lines, root, b, trackCount e.tracks, off⟩)
      ∧ (s.resetControl.inForce = false → let first := startFrame.toNat * e.k - 1
          t.lineQueue.assembly.map (fun a => (a.index, a.words)) = some (first, [])
            ∧ t.lineQueue.nextFetch = some (first + 1))
      ∧ (∀ a, t.axis a = { s.axis a with previousResult := none })
      ∧ t.pass.summary.map (fun x => (x.mode, x.take, x.startFrame, x.outcome, x.frames, x.syncLost)) =
          some (c.1, take.toNat, startFrame.toNat, none, 0, false)
      ∧ t.timebase = { s.timebase with position := some (startFrame.toNat * 65536), nextPoint := 0, passPulses := 0,
                                       advances := 0, frameOffset := 0, slips := 0 }
      ∧ t.lineQueue.lines = [] ∧ t.lineQueue.currentLine = some (startFrame.toNat * e.k)
      ∧ t.witness.log = [] ∧ t.flag .devlog = false ∧ t.flag .pass = true ∧ t.directory = s.directory
      ∧ t.recording.queue = s.recording.queue
      ∧ (∀ a, a < s.witness.axes.length → (t.witnessAxis a).inject = (s.witnessAxis a).inject
          ∧ ((s.axis a).entry.processing.source ≠ .none →
              (t.witnessAxis a).state = .unchecked ∧ (t.witnessAxis a).history = [])
          ∧ ((s.axis a).entry.processing.source = .none → t.witnessAxis a = s.witnessAxis a))

/-- STOP in RUNNING and PARKED and PARK in RUNNING place their request in the slot, replacing any there; RESUME in
PARKED places RESUME, or with RESUME_PREROLL above 0 enters PREROLL at once with an empty slot; in every other state
each answers STATE with nothing changed (R61, R62, R63). -/
def Obligations.StopParkResume : Prop :=
  ∀ s : State, s.takesCommand →
    let withRequest (r : Request) : State := { s with pass := { s.pass with pending := some r } }
    exec .stop s = .next (if s.pass.state = .running ∨ s.pass.state = .parked then
      (withRequest .stop).answered ⟨0x33, []⟩ .ok [] else s.answered ⟨0x33, []⟩ .state [])
    ∧ exec .park s = .next (if s.pass.state = .running then (withRequest .park).answered ⟨0x34, []⟩ .ok []
      else s.answered ⟨0x34, []⟩ .state [])
    ∧ (s.pass.state ≠ .parked → exec .resume s = .next (s.answered ⟨0x35, []⟩ .state []))
    ∧ (∀ c, s.pass.state = .parked → s.pass.context = some c →
      (c.resumePreroll = 0 → exec .resume s = .next ((withRequest .resume).answered ⟨0x35, []⟩ .ok []))
      ∧ (0 < c.resumePreroll → exec .resume s = .next (({ s with
          pass := { s.pass with state := .preroll, pending := none, preroll := some ⟨c.resumePreroll, .resume⟩ }
          port := { s.port with flags := s.port.flags ||| 4 } } : State).answered ⟨0x35, []⟩ .ok [])))

/-- In PREROLL a boundary decreases the pre-roll count; at 0 the pass enters RUNNING at that boundary with PASS
raised. The trigger, readiness and lock are not looked at (R57). A declared word that reaches the pass controller with
ROLL 0 after one with ROLL 1, under TRIGGER CAMERA, ends a pre-roll of origin FIRST in ARMED and one of origin RESUME
in PARKED, places CUT in RUNNING and PARKED, and does nothing in the other states; every other declaration, and every
one under TRIGGER IMMEDIATE, does nothing (R59, R64). -/
def Obligations.PrerollCountsAndCameraCuts : Prop :=
  (∀ (s : State) (n : Nat) (o : Origin) (b : HandedOn), s.pass.state = .preroll → s.pass.preroll = some ⟨n + 1, o⟩ →
    (0 < n → s.passBoundary b = { s with pass := { s.pass with preroll := some ⟨n, o⟩ } })
    ∧ (n = 0 → s.mode ≠ some .record → (s.passBoundary b).pass.state = .running
        ∧ (s.passBoundary b).pass.preroll = none ∧ (s.passBoundary b).pass.hasRun = true
        ∧ (s.passBoundary b).flag .pass = true))
  ∧ ∀ (s : State) (old new : Byte) (c : PassContext), s.pass.context = some c →
    let t := s.declarationReaches old new
    let falls : Prop := old.getLsbD 0 = true ∧ new.getLsbD 0 = false
    (falls → c.trigger = .camera →
      (∀ n o, s.pass.state = .preroll → s.pass.preroll = some ⟨n, o⟩ → t = { s with
        pass := { s.pass with preroll := none, state := match o with | .first => .armed | .resume => .parked }
        port := { s.port with flags := s.port.flags ||| 4 } })
      ∧ (s.pass.state = .running ∨ s.pass.state = .parked → t = { s with pass := { s.pass with pending := some .cut } })
      ∧ (s.pass.state ∈ [PassState.idle, .armed, .ending, .complete] → t = s))
    ∧ (¬ falls ∨ c.trigger = .immediate → t = s)

/-- The trigger at a boundary taken in ARMED. It holds when the pass is ready (a RECORD pass always, a REPLAY or
WITNESS pass when every line from s0 − 1 through s0 + 2, within the take, is queued), REQUIRE_LOCK is no or the LOCK
state handed on is LOCKED, and TRIGGER is IMMEDIATE or the declared word has ROLL and SPEED (R55, R56). Not holding,
nothing changes; with PREROLL above 0 the pass enters PREROLL with origin FIRST; with PREROLL 0 it enters RUNNING with
no timeline advance, on a first entry with MARK in the summary, and a RECORD pass with RECORD_INFO made and line 0
captured (R37, R56, R58), which ends the pass as FULL when the reservation is one line (R67). -/
def Obligations.ArmedBoundaryEvaluatesTrigger : Prop :=
  ∀ (s : State) (c : PassContext) (b : HandedOn), s.pass.state = .armed → s.pass.context = some c →
    let s0 := c.startFrame * c.k
    let ready : Prop := c.mode = .record ∨ ∃ g, s.lineQueue.geometry = some g ∧ ∀ i, s0 - 1 ≤ i → i ≤ s0 + 2 →
      i ≤ g.lines - 1 → ∃ l ∈ s.lineQueue.lines, l.index = i
    let holds : Prop := ready ∧ (c.requireLock = true → b.lock = .locked)
      ∧ (c.trigger = .camera → s.camera.declared.getLsbD 0 = true ∧ s.camera.declared.getLsbD 1 = true)
    let mark := s.camera.declared.toNat / 4
    let t := s.passBoundary b
    (¬ holds → t = s)
    ∧ (holds → 0 < c.preroll → t = { s with
        pass := { s.pass with state := .preroll, preroll := some ⟨c.preroll, .first⟩ }
        port := { s.port with flags := s.port.flags ||| 4 } })
    ∧ (holds → c.preroll = 0 → c.mode ≠ .record → t = { s with
        pass := { s.pass with
          state := .running, preroll := none, pending := none, hasRun := true
          summary := if s.pass.hasRun = true then s.pass.summary
            else s.pass.summary.map fun m => { m with mark := some mark } }
        port := { s.port with flags := s.port.flags ||| 4 } })
    ∧ (∀ e, holds → c.preroll = 0 → c.mode = .record → s.pass.hasRun = false → s.timebase.position = some 0 →
        s.timebase.nextPoint = 0 → s.recording.isOpen = true → s.recording.queue = [] → s.entry c.take = some e →
        let tracks := trackList c.tracks
        let info : RecordInfo := ⟨s.timebase.active.nNom, c.pace, mark, (s.pass.summary.map (·.clamps)).getD 0⟩
        t.pass.state = (if c.maxLines = some 1 then .ending else .running) ∧ t.pass.hasRun = true ∧ t.flag .pass = true
        ∧ t.pass.summary = s.pass.summary.map (fun m => { m with
            mark := some mark, outcome := if c.maxLines = some 1 then some .full else m.outcome })
        ∧ t.entry c.take = some { e with recordInfo := some info }
        ∧ (∀ n, n ≠ c.take → t.entry n = s.entry n)
        ∧ t.recording.queue = [⟨0, tracks.map fun a => (s.axis a).lastForwarded.getD 0,
            { unset := tracks.any fun a => (s.axis a).lastForwarded.isNone
              clamped := tracks.any fun a => (s.axis a).clampSince
              saturated := tracks.any fun a => (s.axis a).satSince
              coincident := false }⟩]
        ∧ t.recording.isOpen = decide (c.maxLines ≠ some 1)
        ∧ t.timebase = { s.timebase with nextPoint := 1 } ∧ t.witness = s.witness ∧ t.camera = s.camera)

/-- A boundary taken in RUNNING first checks the end conditions. At the timeline limit a RECORD pass ends with FULL, a
REPLAY or WITNESS pass with END; at a boundary that advanced the timeline, the latter also when the new S × K reaches
(L − 1) × 65536, a RECORD pass with STOPPED when the advance count equals LENGTH, 0 meaning 65,536 (R60, R66, R67);
the end of a REPLAY pass by END counts for its take (R47, R66). Without one the pending request is applied and the
slot emptied: STOP, CUT and DIVERGED_STOP end the pass with their outcomes, PARK parks it (R62 to R65); without either
nothing changes. A RECORD pass ends in ENDING, any other in COMPLETE. In PARKED the same requests are applied, and
RESUME runs again with S unchanged (R63), stated for a pass that captures no line there. -/
def Obligations.RunningBoundaryEndsOrApplies : Prop :=
  ∀ (s : State) (c : PassContext) (b : HandedOn), s.pass.context = some c →
    let t := s.passBoundary b
    let ended (o : PassOutcome) : Prop :=
      t.pass = { s.pass with state := (if c.mode = .record then .ending else .complete), pending := none,
                             summary := s.pass.summary.map fun m => { m with outcome := some o } }
      ∧ t.flag .pass = true ∧ t.timebase = s.timebase ∧ t.recording = s.recording ∧ t.lineQueue = s.lineQueue
      ∧ t.axes = s.axes ∧ t.witness = s.witness
      ∧ (∀ e, s.entry c.take = some e → t.entry c.take = some (if c.mode = .replay ∧ o = .takeEnd then
          { e with passCount := min (e.passCount + 1) 65535 } else e))
      ∧ (∀ n, n ≠ c.take → t.entry n = s.entry n)
    let applied : Prop :=
      (s.pass.pending = some .stop → ended .stopped) ∧ (s.pass.pending = some .cut → ended .cut)
      ∧ (s.pass.pending = some .divergedStop → ended .divergedStop) ∧ (s.pass.pending = none → t = s)
    let parks : Prop := s.pass.pending = some .park →
      t = { s with pass := { s.pass with state := .parked, pending := none }
                   port := { s.port with flags := s.port.flags ||| 4 } }
    (s.pass.state = .running →
      (∀ n, c.mode = .record → c.length = some n →
        let last : Prop := b.advanced = true ∧ s.timebase.advances = if n = 0 then 65536 else n
        (b.limit = true → ended .full) ∧ (b.limit = false → last → ended .stopped)
          ∧ (b.limit = false → ¬ last → applied ∧ parks))
      ∧ (∀ g, c.mode ≠ .record → s.lineQueue.geometry = some g →
        let last : Prop := b.advanced = true ∧ (g.lines - 1) * 65536 ≤ b.position.getD 0 * c.k
        (b.limit = true ∨ last → ended .takeEnd) ∧ (b.limit = false → ¬ last → applied ∧ parks)))
    ∧ (s.pass.state = .parked → applied
      ∧ (s.pass.pending = some .resume → s.pass.hasRun = true → c.mode ≠ .record →
        t = { s with pass := { s.pass with state := .running, pending := none, preroll := none }
                     port := { s.port with flags := s.port.flags ||| 4 } }))

/-- ABORT outside IDLE: the pass is IDLE with outcome ABORTED, no request, no pre-roll and no position; the line queue
and the record queue are empty and recording CLOSED; a RECORDING take becomes READY with the lines written, TRUNCATED
and PROTECTED, or FREE when none was; no write stays held. In IDLE it answers STATE (R38, R70, R95, R114, R166, R186).
CLEAR in COMPLETE returns the pass to IDLE, keeping its context and summary: no position, an empty line queue,
recording CLOSED, no held write; in every other state it answers STATE with nothing changed (R69, R95, R166). -/
def Obligations.PassReturnsToIdle : Prop :=
  ∀ s : State, s.takesCommand →
    (s.pass.state = .idle → exec .abort s = .next (s.answered ⟨0x36, []⟩ .state []))
    ∧ (s.pass.state ≠ .idle → ∃ t, exec .abort s = .next t ∧ t.port.response = some ⟨0, [], 0⟩
      ∧ t.pass.state = .idle ∧ t.pass.pending = none ∧ t.pass.preroll = none ∧ t.pass.context = s.pass.context
      ∧ t.pass.summary.map (·.outcome) = s.pass.summary.map (fun _ => some PassOutcome.aborted)
      ∧ t.timebase.position = none ∧ t.timebase.lock = s.timebase.lock ∧ t.timebase.record = s.timebase.record
      ∧ t.lineQueue = State.emptyLineQueue ∧ t.recording.isOpen = false ∧ t.recording.queue = []
      ∧ t.writeInProcessing = none ∧ t.witness.frameStart = none ∧ t.witness.log = s.witness.log
      ∧ t.directory.verifyOrder = s.directory.verifyOrder ∧ t.flag .pass = true
      ∧ (∀ c e b g, s.directory.entries.length = 32 → s.pass.context = some c → s.entry c.take = some e →
          e.kind = .storage b g →
          (e.state = .recording → t.entry c.take = if e.written = 0 then none else some
            { e with state := .ready, kind := .storage b true, lines := e.written, truncated := true, written := 0 })
          ∧ (e.state ≠ .recording → t.entry c.take = some e)))
    ∧ (s.pass.state ≠ .complete → exec .clear s = .next (s.answered ⟨0x37, []⟩ .state []))
    ∧ (s.pass.state = .complete → ∃ t, exec .clear s = .next t ∧ t.port.response = some ⟨0, [], 0⟩
      ∧ t.pass.state = .idle ∧ t.pass.context = s.pass.context ∧ t.pass.hasRun = s.pass.hasRun
      ∧ t.pass.summary = s.pass.summary ∧ t.timebase.position = none
      ∧ t.lineQueue = State.emptyLineQueue ∧ t.recording.isOpen = false ∧ t.writeInProcessing = none
      ∧ t.directory = s.directory ∧ t.witness.log = s.witness.log ∧ t.flag .pass = true)

/-- PASS_RESET in every pass state: IDLE, the log and the lost count empty, every axis UNCHECKED with no history, no
accumulators and no inject offset, no pending setting, no context and no summary, the timebase's pass counts 0, and
every flag but RESET clear; the timebase's settings and lock state, the region, the verify order, the mask and every
active axis entry without a pending copy are unchanged (R71). That PROTECT is clear and the blocked-address record absent
also where a write is blocked at the same instant, in the slot decided after the abort, is the model's choice (R142, log
entry 23). -/
def Obligations.PassResetClearsPass : Prop :=
  ∀ s : State, s.takesCommand →
    ∃ t, exec .passReset s = .next t ∧ t.port.response = some ⟨0, [], 0⟩ ∧ t.pass.state = .idle
      ∧ t.pass.context = none ∧ t.pass.summary = none ∧ t.pass.hasRun = false
      ∧ t.witness.log = [] ∧ t.witness.lost = 0 ∧ (∀ a, t.witnessAxis a = State.resetWitnessAxis)
      ∧ (∀ a, (t.axis a).pending = none ∧ (t.axis a).entry.enabled = (s.axis a).entry.enabled
          ∧ (t.axis a).entry.targetAddr = (s.axis a).entry.targetAddr
          ∧ (t.axis a).entry.processing = (s.axis a).pending.getD (s.axis a).entry.processing)
      ∧ t.timebase.passPulses = 0 ∧ t.timebase.advances = 0 ∧ t.timebase.frameOffset = 0 ∧ t.timebase.slips = 0
      ∧ (∀ ev : Event, t.flag ev = (decide (ev = .reset) && s.flag .reset)) ∧ t.memory.blockedAddress = none
      ∧ t.timebase.active = s.timebase.active ∧ t.timebase.pending = s.timebase.pending
      ∧ t.timebase.lock = s.timebase.lock ∧ t.directory.regionBase = s.directory.regionBase
      ∧ t.directory.regionSize = s.directory.regionSize ∧ t.directory.verifyOrder = s.directory.verifyOrder
      ∧ t.port.mask = s.port.mask ∧ (s.pass.state = .idle → t.directory = s.directory)

/-! ### Recording, the line queue, the interpolator, the witness unit -/

/-- What the take engine writes and reads. The writer's next transaction is a full-word write of word w of the oldest
line at BASE + (INDEX × (1 + n) + w) × 4, of a sample sign-extended or of the tag word with INDEX, TAKE and FLAGS in
their bits (R92, R201); the fetcher's a full-word read of the next word of the line in assembly at the root's address
(R101); the verify scan's, with no pass work, a full-word read of the tag of the line at the cursor (R40). The
completion of a record write, in RUNNING, PARKED and ENDING, moves the writer to the next word of the oldest line,
samples in track order and then the tag; the completion of the tag write takes the line out of the queue and counts it
as written, and the writer goes on with the first sample of the next line (R36, R92). When it was the last queued line
of a pass in ENDING, the drain is reported: the take is READY with LINES equal to the lines written, PROTECTED, and
TRUNCATED for OVERRUN, and the pass is COMPLETE (R38, R68, R94); with `late` the report is still to come and waits in
State.due, the model's own (log entry 1). -/
def Obligations.TakeEngineTransactions : Prop :=
  (∀ s : State, s.resetControl.inForce = false →
    (∀ c line rest w, s.recording.writer = some w → w.inFlight = false → s.pass.context = some c →
      s.recording.queue = line :: rest → ∃ data,
      s.takeRequest = some ⟨.recordWrite, c.base.getD 0 + (line.index * (1 + trackCount c.tracks) + w.word) * 4, true, 0xF,
        data, false, false⟩
      ∧ (∀ k, w.word = k + 1 → data = BitVec.ofInt 32 (line.samples.getD k 0))
      ∧ (w.word = 0 → ∀ j, j < 32 → data.getLsbD j =
          if j < 16 then line.index.testBit j else if j < 22 then c.take.testBit (j - 16)
          else if j = 24 then line.flags.unset else if j = 25 then line.flags.clamped
          else if j = 26 then line.flags.saturated else if j = 27 then line.flags.coincident else false))
    ∧ (s.recording.writer = none →
      (∀ g a, s.lineQueue.geometry = some g → s.lineQueue.assembly = some a → a.inFlight = false →
        s.takeRequest = some ⟨.fetchRead,
          g.base + ((g.offset + a.index) * (1 + g.trackCount) + a.words.length) * 4, false, 0xF, 0, false, false⟩)
      ∧ (∀ t i e b g, s.lineQueue.geometry = none ∨ s.lineQueue.assembly = none →
        s.directory.verifyOrder.head? = some t → s.directory.verifyCursor = some i → s.entry t = some e →
        e.kind = .storage b g → (∀ d, s.memory.downstream = some d → d.owner = .verifyRead → d.discard = true) →
        s.takeRequest = some ⟨.verifyRead, b + i * (1 + trackCount e.tracks) * 4, false, 0xF, 0, false, false⟩)))
  ∧ ∀ (s : State) (after : Nat) (data : Word) (late slotLate : Bool) (d : DownstreamTxn) (c : PassContext)
    (w : WriterPosition) (e : TakeEntry), let u := s.elapse after
    let drained : Prop := w.word = 0 ∧ u.recording.queue.tail = [] ∧ u.pass.state = .ending
    u.memory.downstream = some d → d.owner = .recordWrite → d.discard = false → u.pass.context = some c →
    u.recording.writer = some w → u.entry c.take = some e →
    ∃ t, exec (.downstreamComplete ⟨after, late, slotLate⟩ data) s = .next t
      ∧ (w.word ≠ 0 → t.recording.queue = u.recording.queue ∧ t.directory = u.directory
          ∧ t.recording.writer.map (·.word) = some (if w.word < trackCount c.tracks then w.word + 1 else 0))
      ∧ (w.word = 0 → t.recording.queue = u.recording.queue.tail
          ∧ t.recording.writer.map (·.word) = if u.recording.queue.tail = [] then none else some 1)
      ∧ (w.word = 0 → ¬ drained ∨ late = true → t.entry c.take = some { e with written := e.written + 1 })
      ∧ (¬ drained ∨ late = true → t.pass = u.pass
          ∧ (∀ ev : Event, ev ≠ .protect → ev ≠ .partialWrite → t.flag ev = u.flag ev))
      ∧ (drained → late = true → t.due = u.due ++ [.drain]
          ++ if slotLate = true ∧ u.resetControl.inForce = false then [.slot] else [])
      ∧ (drained → late = false → t.pass = { u.pass with state := .complete } ∧ t.flag .pass = true
          ∧ ∀ b g, e.state = .recording → e.kind = .storage b g → t.entry c.take = some
              { e with state := .ready, kind := .storage b true, lines := e.written + 1, written := 0,
                       truncated := decide (u.pass.summary.bind (·.outcome) = some .overrun) })
      ∧ (∀ n, n ≠ c.take → t.entry n = u.entry n) ∧ t.axes = u.axes ∧ t.timebase = u.timebase ∧ t.witness = u.witness

/-- A fetch read that is not the last of its line becomes the next word of the line in assembly, and nothing is queued
(R102). The read that completes the line queues it at the tail, usable exactly when its tag is good for the root's
numbers; a bad tag raises TAG and counts one tag failure (R44, R102, R103). The next line is started with no words read
exactly when the pass may fetch, fewer than 32 lines are queued and the next fetch index is within the take (R101). When
an evaluation leaves the next fetch index below CURRENT_LINE − 1, fetching restarts there: the line in assembly is
abandoned, a read in flight for it is discarded at its completion, and no tag failure is counted (R106). -/
def Obligations.FetchedLineEntersQueue : Prop :=
  (∀ (s : State) (after : Nat) (data : Word) (late slotLate : Bool) (d : DownstreamTxn) (g : Geometry) (a : Assembly),
    let u := s.elapse after
    let words := a.words ++ [data]
    let tag := (words.headD 0).toNat
    u.memory.downstream = some d → d.owner = .fetchRead → d.discard = false → u.lineQueue.geometry = some g →
    u.lineQueue.assembly = some a → u.pass.state ≠ .idle →
    let good : Prop := tag % 65536 = (g.offset + a.index) % 65536 ∧ tag / 65536 % 64 = g.root
    let mayFetch : Prop := u.resetControl.inForce = false ∧ (u.mode = some .replay ∨ u.mode = some .witness)
      ∧ u.pass.state ≠ .ending ∧ u.lineQueue.lines.length + 1 < 32
    ∃ t, exec (.downstreamComplete ⟨after, late, slotLate⟩ data) s = .next t
      ∧ (words.length ≠ 1 + g.trackCount → t.lineQueue.lines = u.lineQueue.lines
        ∧ t.lineQueue.assembly.map (fun x => (x.index, x.words)) = some (a.index, words)
        ∧ t.lineQueue.nextFetch = u.lineQueue.nextFetch ∧ t.pass = u.pass ∧ t.flag .tag = u.flag .tag)
      ∧ (words.length = 1 + g.trackCount → ∃ l,
        t.lineQueue.lines = u.lineQueue.lines ++ [l] ∧ l.index = a.index ∧ l.words = words ∧ (l.usable = true ↔ good)
        ∧ (good → t.flag .tag = u.flag .tag ∧ t.pass = u.pass)
        ∧ (¬ good → t.flag .tag = true
            ∧ t.pass.summary.map (·.tagFails) = u.pass.summary.map fun m => min (m.tagFails + 1) 4294967295)
        ∧ (∀ i, u.lineQueue.nextFetch = some i →
            (mayFetch ∧ i < g.lines → t.lineQueue.assembly.map (fun x => (x.index, x.words)) = some (i, [])
              ∧ t.lineQueue.nextFetch = some (i + 1))
            ∧ (¬ (mayFetch ∧ i < g.lines) → t.lineQueue.assembly = none ∧ t.lineQueue.nextFetch = some i)))
      ∧ t.lineQueue.currentLine = u.lineQueue.currentLine ∧ t.lineQueue.geometry = some g ∧ t.axes = u.axes
      ∧ t.directory = u.directory ∧ t.recording.queue = u.recording.queue ∧ t.timebase = u.timebase
      ∧ t.witness = u.witness)
  ∧ ∀ (s : State) (g : Geometry) (cur line i : Nat), s.lineQueue.geometry = some g → s.lineQueue.currentLine = some cur →
    s.lineQueue.nextFetch = some i → (∀ a, s.lineQueue.assembly = some a → a.index < i) →
    let now := max cur (min line (g.lines - 1))
    let t := s.evaluateLine line
    (now - 1 ≤ i → t.lineQueue.nextFetch = some i ∧ t.lineQueue.assembly = s.lineQueue.assembly ∧ t.memory = s.memory)
    ∧ (i < now - 1 → t.lineQueue.nextFetch = some (now - 1) ∧ t.lineQueue.assembly = none ∧ t.pass = s.pass ∧ t.port = s.port
      ∧ (s.lineQueue.assembly = none → t.memory = s.memory)
      ∧ (s.lineQueue.assembly ≠ none → t.memory = { s.memory with downstream := s.memory.downstream.map fun d =>
          if d.owner = .fetchRead then { d with discard := true } else d }))

/-- An evaluation of the position at a line: CURRENT_LINE takes it, clamped to the take, when it is above and never
decreases, and exactly the lines below CURRENT_LINE − 1 are retired (R104, R105). -/
def Obligations.EvaluationRetiresLines : Prop :=
  ∀ (s : State) (g : Geometry) (cur line : Nat), s.lineQueue.geometry = some g → s.lineQueue.currentLine = some cur →
    let now := max cur (min line (g.lines - 1))
    let t := s.evaluateLine line
    t.lineQueue.currentLine = some now
      ∧ t.lineQueue.lines = s.lineQueue.lines.filter (fun l => decide (now - 1 ≤ l.index))
      ∧ t.lineQueue.geometry = some g ∧ t.pass = s.pass ∧ t.port = s.port ∧ t.axes = s.axes

/-- The quotient is rounded once, convergently: to the nearer integer, and from one half to the even one, for positive
and negative values alike (R126). -/
def Obligations.RoundingIsConvergent : Prop :=
  ∀ a : Int, let q := a / 9223372036854775808
    let rest := a - q * 9223372036854775808
    (q * 9223372036854775808 ≤ a ∧ 0 ≤ rest ∧ rest ≤ 9223372036854775807)
    ∧ (4611686018427387904 < rest → roundHalfEven a = q + 1)
    ∧ (rest < 4611686018427387904 → roundHalfEven a = q)
    ∧ (rest = 4611686018427387904 → (roundHalfEven a = q ∨ roundHalfEven a = q + 1) ∧ roundHalfEven a % 2 = 0)

/-- The value of an interpolation. A slot that is not good takes the sample of the nearest good slot below it, or of
the nearest good one above it (R121). The weights are those of the mode, sum to 2U³ and lie between −2⁴⁶ and 2⁴⁹
(R123, R124). The samples, saturated to 24 bits, are summed with their weights, scaled and offset, rounded once and
saturated (R120, R125 to R127); with no good slot the outcome holds the previous result, or is unavailable (R122). One
saturation counts when a sample used with a weight other than zero, or the result, left the range (R120, R127). -/
def Obligations.InterpolationFormsValue : Prop :=
  (∀ (good : List Bool) (k : Nat), let isGood (i : Nat) : Prop := good[i]? = some true
    (∀ i, i ≤ k → isGood i → (∀ j, i < j → j ≤ k → ¬ isGood j) → substitute good k = some i)
    ∧ (∀ i, k < i → isGood i → (∀ j, j < i → ¬ isGood j) → substitute good k = some i)
    ∧ ((∀ j, ¬ isGood j) → substitute good k = none))
  ∧ (∀ (m : Interp) (u : Int), 0 ≤ u → u < 65536 →
    (weights m u).length = 4 ∧ (weights m u).sum = 2 * 65536 ^ 3
    ∧ (∀ w ∈ weights m u, -70368744177664 ≤ w ∧ w ≤ 562949953421312)
    ∧ weights m u = match m with
      | .step => [0, 2 * 65536 ^ 3, 0, 0]
      | .linear => [0, 2 * 65536 ^ 2 * (65536 - u), 2 * 65536 ^ 2 * u, 0]
      | .cubic => [-u ^ 3 + 2 * u ^ 2 * 65536 - u * 65536 ^ 2, 3 * u ^ 3 - 5 * u ^ 2 * 65536 + 2 * 65536 ^ 3,
                   -3 * u ^ 3 + 4 * u ^ 2 * 65536 + u * 65536 ^ 2, u ^ 3 - u ^ 2 * 65536])
  ∧ ∀ (r : InterpRequest) (previous : Option Int), r.slots.length = 4 →
    let good : List Bool := r.slots.map fun sl => sl.line.any (·.usable)
    let raw (k : Nat) : Int :=
      ((((substitute good k).bind (r.slots[·]?)).bind (·.line)).map fun l => (l.words.getD r.place 0).toInt).getD 0
    let clamp (v : Int) : Int := max (-8388608) (min 8388607 v)
    let weight (k : Nat) : Int := (weights r.interp r.phase).getD k 0
    let product (k : Nat) : Int := weight k * clamp (raw k)
    let rounded : Int := roundHalfEven (r.offset * 9223372036854775808
      + r.scale * (product 0 + product 1 + product 2 + product 3))
    let left (v : Int) : Prop := v < -8388608 ∨ 8388607 < v
    (true ∈ good → r.outcome previous = .value (clamp rounded)
      ∧ (r.saturates = true ↔ left rounded ∨ ∃ k, k < 4 ∧ weight k ≠ 0 ∧ left (raw k)))
    ∧ (true ∉ good → r.saturates = false
      ∧ r.outcome previous = match previous with | some p => .hold p | none => .unavailable)

/-- INTERPOLATION_END hands the held write back: the interpolation and the write in processing are over, the last
evaluation record holds the outcome, the candidate is bounded around the last forwarded value and becomes the last
forwarded value and the data to be forwarded; in REPLAY the candidate is the outcome's value or held value, otherwise
the written value (R127, R130, R160, R161, R163). An interpolation that counts a saturation sets SAT, raises
SATURATE and counts one in SATURATES (R120, R127); the bounds set CLAMP, STEPPED and the clamp marker, raise CLAMP and
count one in CLAMPS (R162). The record holds AXIS, MODE, INTERP, READ_AT, S_INDEX, PHASE, for each slot its line index,
whether it was good and the slot it used, OUTCOME and SATURATED (R130). A comparison of the written value less the interpolator's value, or
the held one, is made when the axis had SOURCE COMMAND and the pass was in RUNNING at the taking; the witness unit
takes it when a REPLAY or WITNESS pass is in RUNNING then; without an outcome's value there is none (R164, R170). -/
def Obligations.InterpolationEndHandsBack : Prop :=
  ∀ (s : State) (after : Nat) (late slotLate : Bool) (r : InterpRequest) (w : WriteInProcessing) (x : UpstreamTxn),
    let u := s.elapse after
    let previous := (u.axis r.axis).previousResult
    let o := r.outcome previous
    let c : Int := match w.row, o with
      | .replay, .value v => v
      | .replay, .hold v => v
      | _, _ => w.value
    let b := applyBounds (u.axis w.axis).entry.processing (u.axis w.axis).lastForwarded c
    let changed : Bool := b.clamped || b.stepped
    let count (n : Nat) : Nat := min (n + 1) 4294967295
    u.interpolator.inFlight = some r → u.writeInProcessing = some w → w.axis = r.axis → r.axis < u.axes.length →
    u.memory.upstream = some x → x.cls = .target → u.inRegion x.address = false →
    ∃ t, exec (.interpolationEnd ⟨after, late, slotLate⟩) s = .next t
      ∧ t.interpolator.inFlight = none ∧ t.writeInProcessing = none
      ∧ (∃ slots : List SlotRecord, t.interpolator.lastEval
          = some ⟨r.axis, r.mode, r.interp, r.readAt, r.sIndex, r.phase, slots, o, r.saturates⟩
        ∧ (r.slots.length = 4 → slots.length = 4 ∧ ∀ k sl, r.slots[k]? = some sl → slots[k]? = some
            (SlotRecord.mk sl.index (sl.line.any (·.usable))
              ((substitute (r.slots.map fun x => x.line.any (·.usable)) k).map fun i => (i : Int) - 1))))
      ∧ t.axis w.axis = { u.axis w.axis with
          lastForwarded := some b.value, previousResult := match o with | .value v => some v | _ => previous
          sat := (u.axis w.axis).sat || r.saturates, clamp := (u.axis w.axis).clamp || b.clamped
          stepped := (u.axis w.axis).stepped || b.stepped, clampSince := (u.axis w.axis).clampSince || changed }
      ∧ t.flag .saturate = (u.flag .saturate || r.saturates) ∧ t.flag .clamp = (u.flag .clamp || changed)
      ∧ (u.pass.state = .idle → t.pass.summary = u.pass.summary)
      ∧ (u.pass.state ≠ .idle → t.pass.summary = u.pass.summary.map fun m => { m with
          saturates := if r.saturates then count m.saturates else m.saturates
          clamps := if changed then count m.clamps else m.clamps })
      ∧ t.memory.upstream.map (fun y => (y.address, y.data, y.forwardData))
          = some (x.address, x.data, some (BitVec.ofInt 32 b.value))
      ∧ (∀ n, n ≠ w.axis → t.axis n = u.axis n) ∧ t.timebase = u.timebase ∧ t.pass.state = u.pass.state
      ∧ (∀ x, w.compare = true → o = .value x ∨ o = .hold x → u.pass.state = .running →
          u.mode = some .replay ∨ u.mode = some .witness → w.axis < u.witness.axes.length →
          t.witnessAxis w.axis = (u.witnessAxis w.axis).take (u.axis w.axis).entry.processing.tol (w.value - x)
            ∧ ∀ n, n ≠ w.axis → t.witnessAxis n = u.witnessAxis n)
      ∧ (w.compare = false ∨ o = .unavailable ∨ u.pass.state ≠ .running
          ∨ (u.mode ≠ some .replay ∧ u.mode ≠ some .witness) → t.witness = u.witness)
      ∧ t.pass.context = u.pass.context ∧ t.recording.queue = u.recording.queue ∧ t.lineQueue.lines = u.lineQueue.lines

/-- A taken comparison: the inject offset is added, saturated and used up, WORST keeps the greatest magnitude, the
earlier on equal ones, the mark is judged against TOL and joins the sixteen of the history, and the conformance
machine steps by its table; DIVERGE is raised on entering DIVERGED and on the return to CONFORMING (R170 to R174, R181
to R183). -/
def Obligations.ComparisonStepsConformance : Prop :=
  ∀ (s : State) (a : Nat) (e : Int) (late : Bool), a < s.witness.axes.length → s.takesComparisons = true →
    0 ≤ (s.axis a).entry.processing.tol →
    let w := s.witnessAxis a
    let t := s.comparison a e late
    let e' : Int := match w.inject with
      | some off => max (-16777215) (min 16777215 (e + off))
      | none => e
    let mark : Mark := if (e'.natAbs : Int) ≤ (s.axis a).entry.processing.tol then .good else .bad
    let marks : List Mark := (w.history ++ [mark]).drop (w.history.length - 15)
    let bad := marks.count .bad
    let sixteenGood : Prop := marks.length = 16 ∧ bad = 0
    (t.witnessAxis a).history = marks ∧ (t.witnessAxis a).inject = none
      ∧ (t.witnessAxis a).worst = some (match w.worst with
          | none => e'
          | some x => if x.natAbs < e'.natAbs then e' else x)
      ∧ (t.witnessAxis a).count = min (w.count + 1) 65535
      ∧ (t.witnessAxis a).badCount = (if mark = .bad then min (w.badCount + 1) 255 else w.badCount)
      ∧ (4 ≤ bad → (t.witnessAxis a).state = .diverged)
      ∧ (sixteenGood → (t.witnessAxis a).state = .conforming)
      ∧ (bad < 4 → ¬ sixteenGood → (t.witnessAxis a).state = w.state)
      ∧ t.flag .diverge = (s.flag .diverge || (decide (w.state ≠ .diverged) && decide (4 ≤ bad))
          || (decide (w.state = .diverged) && marks.length == 16 && bad == 0))
      ∧ (∀ n, n ≠ a → t.witnessAxis n = s.witnessAxis n) ∧ t.axes = s.axes ∧ t.witness.log = s.witness.log

/-- A boundary reaches the witness unit. One made in RUNNING closes the frame in progress: when some axis had a bad
comparison, a record of the frame start and of the axes with BAD above 0, in ascending order, is appended to the log,
or, the log holding 64, discarded and counted lost; both are reported. Any other boundary closes nothing. The
accumulators are emptied in either case, histories, states and inject offsets are kept, and outside IDLE the start of
the frame opened is noted (R175, R177, R178). -/
def Obligations.WitnessFrameCloses : Prop :=
  ∀ (s : State) (closes : Bool) (start opened : FrameStart), s.witness.frameStart = some start →
    let t := s.witnessBoundary closes opened
    let bad := (List.range s.witness.axes.length).filter fun a => decide (0 < (s.witnessAxis a).badCount)
    let record : DeviationRecord := ⟨start.timelineFrame, start.passFrame, bad.map fun a =>
      ⟨a, (s.witnessAxis a).worst.getD 0, (s.witnessAxis a).badCount, (s.witnessAxis a).count⟩⟩
    let forms : Prop := closes = true ∧ bad ≠ []
    let count (n : Nat) : Nat := min (n + 1) 4294967295
    (forms → s.witness.log.length < 64 → t.witness.log = s.witness.log ++ [record] ∧ t.witness.lost = s.witness.lost
      ∧ t.flag .devlog = true ∧ t.flag .devlost = s.flag .devlost
      ∧ (s.pass.state ≠ .idle → t.pass = { s.pass with
          summary := s.pass.summary.map fun m => { m with records := count m.records } }))
    ∧ (forms → 64 ≤ s.witness.log.length → t.witness.log = s.witness.log
      ∧ t.witness.lost = min (s.witness.lost + 1) 65535 ∧ t.flag .devlost = true ∧ t.flag .devlog = s.flag .devlog
      ∧ (s.pass.state ≠ .idle → t.pass = { s.pass with
          summary := s.pass.summary.map fun m => { m with records := count m.records, lost := count m.lost } }))
    ∧ (¬ forms → t.witness.log = s.witness.log ∧ t.witness.lost = s.witness.lost ∧ t.pass = s.pass ∧ t.port = s.port)
    ∧ (∀ a, t.witnessAxis a = { s.witnessAxis a with worst := none, count := 0, badCount := 0 })
    ∧ t.witness.frameStart = (if s.pass.state = .idle then some start else some opened)
    ∧ t.axes = s.axes ∧ t.timebase = s.timebase ∧ t.directory = s.directory ∧ t.recording = s.recording

/-- Blocks take what others sent them at the same instant in any order (R94, R176, R183; that the order is an operand
of the row and that what comes later waits in a list of the model's own is log entry 1). On an empty queue a step
makes the first delivery that waits. An entry into DIVERGED is reported at once or, `late`, joins that list; the
report acts by POLICY in RUNNING and is dropped in every other state (R65, R183). A drain report turns the take READY
and the pass COMPLETE in ENDING and does nothing once an ABORT has come first (R68, R94). A boundary that both units
take later leaves the witness unit and the pass as they were until then, and waits with what it hands on (R13, R175,
R176). SAMPLE_POINT, SYNC_PULSE and every management command (CommandTakenAtItsLastByte) find such a boundary taken:
its deliveries are made in their order before them, and none is left (R13, R84, R151; log entry 1). -/
def Obligations.ReportsReachPassController : Prop :=
  (∀ (s : State) (d : Delivery) (rest : List Delivery), s.pending = [] → s.resetControl.inForce = false →
    s.due = d :: rest →
    step s = .next (({ s with due := rest, openOrders := s.openOrders + 1 } : State).deliver d).settle)
  ∧ (∀ (s : State) (c : PassContext), s.pass.context = some c →
    let placed (r : Request) : State := { s with pass := { s.pass with pending := some r } }
    (s.pass.state = .running → s.deliver .divergence = match c.policy with
      | some .park => placed .park
      | some .stop => placed .divergedStop
      | _ => s)
    ∧ (s.pass.state ≠ .running → s.deliver .divergence = s))
  ∧ (∀ (s : State) (a : Nat) (e : Int) (late : Bool), a < s.witness.axes.length → s.takesComparisons = true →
    let t := s.comparison a e late
    let entered : Prop := (s.witnessAxis a).state ≠ .diverged ∧ (t.witnessAxis a).state = .diverged
    (entered → late = true → t.due = s.due ++ [.divergence] ∧ t.pass = s.pass)
    ∧ (entered → late = false → t.due = s.due ∧ t.pass = (s.deliver .divergence).pass)
    ∧ (¬ entered → t.due = s.due ∧ t.pass = s.pass))
  ∧ (∀ (s : State) (c : PassContext) (e : TakeEntry) (b : Nat) (g : Bool), s.pass.context = some c →
    s.entry c.take = some e → e.state = .recording → e.kind = .storage b g →
    let t := s.deliver .drain
    (s.pass.state = .ending → s.recording.queue = [] → t.pass = { s.pass with state := .complete } ∧ t.flag .pass = true
      ∧ t.entry c.take = if e.written = 0 then none else some
          { e with state := .ready, kind := .storage b true, lines := e.written, written := 0,
                   truncated := decide (s.pass.summary.bind (·.outcome) = some .overrun) })
    ∧ (s.pass.state ≠ .ending ∨ s.recording.queue ≠ [] → t = s))
  ∧ (∀ s : State, s.takeBoundaries.due.any Delivery.isBoundary = false
    ∧ (∀ ds, s.due = ds → ds ≠ [] → (∀ d ∈ ds, d.isBoundary = true) →
        s.takeBoundaries = (ds.foldl State.deliver { s with due := [] }).settle)
    ∧ exec .samplePoint s = (if s.resetControl.inForce = true then .next s else exec .samplePoint s.takeBoundaries)
    ∧ ∀ order, exec (.syncPulse 0 order) s = exec (.syncPulse 0 order) s.takeBoundaries)
  ∧ ∀ (s : State) (order : BoundaryOrder) (b : HandedOn), order.witnessLate = true → order.controllerLate = true →
    let t := s.handOver order b
    t.pass = s.pass ∧ t.witness = s.witness ∧ t.due = s.due
      ++ [.witness (b.advanced || b.limit) ⟨(s.timebase.position.getD 0) / 65536, s.timebase.advances⟩,
          .controller b s.camera.declared t.camera.declared order.declarationFirst order.reportsLate]

/-- INJECT SET stores the offset clamped to ±16,777,215, CANCEL makes it absent, any other action or an axis that does
not exist answers RANGE; READ_DEVIATION removes and returns the oldest record with the count of records left, DEVLOG
clear when it was the last, and answers an empty result on an empty log (R172, R179, R180, R203). -/
def Obligations.WitnessCommands : Prop :=
  ∀ s : State, s.takesCommand →
    (∀ (axis action : Byte) (offset : BitVec 32),
      let off : Int := max (-16777215) (min 16777215 offset.toInt)
      let fr : Frame := ⟨0x80, [axis] ++ [action] ++ bytes4 offset⟩
      let withInject (o : Option Int) : State :=
        { s with witness := { s.witness with axes := s.witness.axes.modify axis.toNat fun w => { w with inject := o } } }
      (axis.toNat < 16 → action = 0 → exec (.inject axis action offset) s = .next ((withInject (some off)).answered fr
        (if off = offset.toInt then .ok else .adjusted) ([axis, 1] ++ signedBytes 4 off)))
      ∧ (axis.toNat < 16 → action = 1 →
        exec (.inject axis action offset) s = .next ((withInject none).answered fr .ok [axis, 0, 0, 0, 0, 0]))
      ∧ (16 ≤ axis.toNat ∨ 2 ≤ action.toNat → exec (.inject axis action offset) s = .next (s.answered fr .range [])))
    ∧ (s.witness.log = [] → exec .readDeviation s = .next (s.answered ⟨0x81, []⟩ .ok []))
    ∧ (∀ r rest, s.witness.log = r :: rest → ∃ t, exec .readDeviation s = .next t
      ∧ t.port.response = some ⟨0, r.bytes ++ beBytes 1 rest.length, 0⟩ ∧ t.witness = { s.witness with log := rest }
      ∧ t.flag .devlog = !rest.isEmpty ∧ (∀ ev : Event, ev ≠ .devlog → t.flag ev = s.flag ev)
      ∧ t = { s with witness := t.witness, port := t.port })
end

