-- ==== Sys2Proof/Laws/State.lean ====
section
/-! SUPPORT. For each update of the state that is a record update, one lemma per field it leaves as it was, and one for what
it writes. -/

namespace Sys2Proof.Machine

/-! ### State.raise -/

@[simp] theorem State.raise_timebase (s : State) (ev : Event) : (s.raise ev).timebase = s.timebase := rfl
@[simp] theorem State.raise_directory (s : State) (ev : Event) : (s.raise ev).directory = s.directory := rfl
@[simp] theorem State.raise_pass (s : State) (ev : Event) : (s.raise ev).pass = s.pass := rfl
@[simp] theorem State.raise_camera (s : State) (ev : Event) : (s.raise ev).camera = s.camera := rfl
@[simp] theorem State.raise_recording (s : State) (ev : Event) : (s.raise ev).recording = s.recording := rfl
@[simp] theorem State.raise_lineQueue (s : State) (ev : Event) : (s.raise ev).lineQueue = s.lineQueue := rfl
@[simp] theorem State.raise_interpolator (s : State) (ev : Event) : (s.raise ev).interpolator = s.interpolator := rfl
@[simp] theorem State.raise_memory (s : State) (ev : Event) : (s.raise ev).memory = s.memory := rfl
@[simp] theorem State.raise_axes (s : State) (ev : Event) : (s.raise ev).axes = s.axes := rfl
@[simp] theorem State.raise_writeInProcessing (s : State) (ev : Event) : (s.raise ev).writeInProcessing = s.writeInProcessing := rfl
@[simp] theorem State.raise_witness (s : State) (ev : Event) : (s.raise ev).witness = s.witness := rfl
@[simp] theorem State.raise_resetControl (s : State) (ev : Event) : (s.raise ev).resetControl = s.resetControl := rfl
@[simp] theorem State.raise_lastUpstream (s : State) (ev : Event) : (s.raise ev).lastUpstream = s.lastUpstream := rfl
@[simp] theorem State.raise_openOrders (s : State) (ev : Event) : (s.raise ev).openOrders = s.openOrders := rfl
@[simp] theorem State.raise_due (s : State) (ev : Event) : (s.raise ev).due = s.due := rfl
@[simp] theorem State.raise_pending (s : State) (ev : Event) : (s.raise ev).pending = s.pending := rfl
@[simp] theorem State.raise_port_phase (s : State) (ev : Event) : (s.raise ev).port.phase = s.port.phase := rfl
@[simp] theorem State.raise_port_code (s : State) (ev : Event) : (s.raise ev).port.code = s.port.code := rfl
@[simp] theorem State.raise_port_length (s : State) (ev : Event) : (s.raise ev).port.length = s.port.length := rfl
@[simp] theorem State.raise_port_args (s : State) (ev : Event) : (s.raise ev).port.args = s.port.args := rfl
@[simp] theorem State.raise_port_incoming (s : State) (ev : Event) : (s.raise ev).port.incoming = s.port.incoming := rfl
@[simp] theorem State.raise_port_response (s : State) (ev : Event) : (s.raise ev).port.response = s.port.response := rfl
@[simp] theorem State.raise_port_resetPending (s : State) (ev : Event) : (s.raise ev).port.resetPending = s.port.resetPending := rfl
@[simp] theorem State.raise_port_mask (s : State) (ev : Event) : (s.raise ev).port.mask = s.port.mask := rfl
@[simp] theorem State.raise_port_resetCause (s : State) (ev : Event) : (s.raise ev).port.resetCause = s.port.resetCause := rfl
@[simp] theorem State.raise_port_powerSeen (s : State) (ev : Event) : (s.raise ev).port.powerSeen = s.port.powerSeen := rfl
@[simp] theorem State.raise_port_selectHigh (s : State) (ev : Event) : (s.raise ev).port.selectHigh = s.port.selectHigh := rfl
@[simp] theorem State.raise_port_flags (s : State) (ev : Event) : (s.raise ev).port.flags = s.port.flags ||| ev.mask := rfl

/-! ### State.lower -/

@[simp] theorem State.lower_timebase (s : State) (ev : Event) : (s.lower ev).timebase = s.timebase := rfl
@[simp] theorem State.lower_directory (s : State) (ev : Event) : (s.lower ev).directory = s.directory := rfl
@[simp] theorem State.lower_pass (s : State) (ev : Event) : (s.lower ev).pass = s.pass := rfl
@[simp] theorem State.lower_camera (s : State) (ev : Event) : (s.lower ev).camera = s.camera := rfl
@[simp] theorem State.lower_recording (s : State) (ev : Event) : (s.lower ev).recording = s.recording := rfl
@[simp] theorem State.lower_lineQueue (s : State) (ev : Event) : (s.lower ev).lineQueue = s.lineQueue := rfl
@[simp] theorem State.lower_interpolator (s : State) (ev : Event) : (s.lower ev).interpolator = s.interpolator := rfl
@[simp] theorem State.lower_memory (s : State) (ev : Event) : (s.lower ev).memory = s.memory := rfl
@[simp] theorem State.lower_axes (s : State) (ev : Event) : (s.lower ev).axes = s.axes := rfl
@[simp] theorem State.lower_writeInProcessing (s : State) (ev : Event) : (s.lower ev).writeInProcessing = s.writeInProcessing := rfl
@[simp] theorem State.lower_witness (s : State) (ev : Event) : (s.lower ev).witness = s.witness := rfl
@[simp] theorem State.lower_resetControl (s : State) (ev : Event) : (s.lower ev).resetControl = s.resetControl := rfl
@[simp] theorem State.lower_lastUpstream (s : State) (ev : Event) : (s.lower ev).lastUpstream = s.lastUpstream := rfl
@[simp] theorem State.lower_openOrders (s : State) (ev : Event) : (s.lower ev).openOrders = s.openOrders := rfl
@[simp] theorem State.lower_due (s : State) (ev : Event) : (s.lower ev).due = s.due := rfl
@[simp] theorem State.lower_pending (s : State) (ev : Event) : (s.lower ev).pending = s.pending := rfl
@[simp] theorem State.lower_port_phase (s : State) (ev : Event) : (s.lower ev).port.phase = s.port.phase := rfl
@[simp] theorem State.lower_port_code (s : State) (ev : Event) : (s.lower ev).port.code = s.port.code := rfl
@[simp] theorem State.lower_port_length (s : State) (ev : Event) : (s.lower ev).port.length = s.port.length := rfl
@[simp] theorem State.lower_port_args (s : State) (ev : Event) : (s.lower ev).port.args = s.port.args := rfl
@[simp] theorem State.lower_port_incoming (s : State) (ev : Event) : (s.lower ev).port.incoming = s.port.incoming := rfl
@[simp] theorem State.lower_port_response (s : State) (ev : Event) : (s.lower ev).port.response = s.port.response := rfl
@[simp] theorem State.lower_port_resetPending (s : State) (ev : Event) : (s.lower ev).port.resetPending = s.port.resetPending := rfl
@[simp] theorem State.lower_port_mask (s : State) (ev : Event) : (s.lower ev).port.mask = s.port.mask := rfl
@[simp] theorem State.lower_port_resetCause (s : State) (ev : Event) : (s.lower ev).port.resetCause = s.port.resetCause := rfl
@[simp] theorem State.lower_port_powerSeen (s : State) (ev : Event) : (s.lower ev).port.powerSeen = s.port.powerSeen := rfl
@[simp] theorem State.lower_port_selectHigh (s : State) (ev : Event) : (s.lower ev).port.selectHigh = s.port.selectHigh := rfl
@[simp] theorem State.lower_port_flags (s : State) (ev : Event) : (s.lower ev).port.flags = s.port.flags &&& ~~~ ev.mask := rfl

/-! ### State.onSummary -/

@[simp] theorem State.onSummary_timebase (s : State) (f : Summary → Summary) : (s.onSummary f).timebase = s.timebase := rfl
@[simp] theorem State.onSummary_directory (s : State) (f : Summary → Summary) : (s.onSummary f).directory = s.directory := rfl
@[simp] theorem State.onSummary_camera (s : State) (f : Summary → Summary) : (s.onSummary f).camera = s.camera := rfl
@[simp] theorem State.onSummary_recording (s : State) (f : Summary → Summary) : (s.onSummary f).recording = s.recording := rfl
@[simp] theorem State.onSummary_lineQueue (s : State) (f : Summary → Summary) : (s.onSummary f).lineQueue = s.lineQueue := rfl
@[simp] theorem State.onSummary_interpolator (s : State) (f : Summary → Summary) : (s.onSummary f).interpolator = s.interpolator := rfl
@[simp] theorem State.onSummary_memory (s : State) (f : Summary → Summary) : (s.onSummary f).memory = s.memory := rfl
@[simp] theorem State.onSummary_axes (s : State) (f : Summary → Summary) : (s.onSummary f).axes = s.axes := rfl
@[simp] theorem State.onSummary_writeInProcessing (s : State) (f : Summary → Summary) : (s.onSummary f).writeInProcessing = s.writeInProcessing := rfl
@[simp] theorem State.onSummary_witness (s : State) (f : Summary → Summary) : (s.onSummary f).witness = s.witness := rfl
@[simp] theorem State.onSummary_port (s : State) (f : Summary → Summary) : (s.onSummary f).port = s.port := rfl
@[simp] theorem State.onSummary_resetControl (s : State) (f : Summary → Summary) : (s.onSummary f).resetControl = s.resetControl := rfl
@[simp] theorem State.onSummary_lastUpstream (s : State) (f : Summary → Summary) : (s.onSummary f).lastUpstream = s.lastUpstream := rfl
@[simp] theorem State.onSummary_openOrders (s : State) (f : Summary → Summary) : (s.onSummary f).openOrders = s.openOrders := rfl
@[simp] theorem State.onSummary_due (s : State) (f : Summary → Summary) : (s.onSummary f).due = s.due := rfl
@[simp] theorem State.onSummary_pending (s : State) (f : Summary → Summary) : (s.onSummary f).pending = s.pending := rfl
@[simp] theorem State.onSummary_pass_state (s : State) (f : Summary → Summary) : (s.onSummary f).pass.state = s.pass.state := rfl
@[simp] theorem State.onSummary_pass_context (s : State) (f : Summary → Summary) : (s.onSummary f).pass.context = s.pass.context := rfl
@[simp] theorem State.onSummary_pass_pending (s : State) (f : Summary → Summary) : (s.onSummary f).pass.pending = s.pass.pending := rfl
@[simp] theorem State.onSummary_pass_preroll (s : State) (f : Summary → Summary) : (s.onSummary f).pass.preroll = s.pass.preroll := rfl
@[simp] theorem State.onSummary_pass_hasRun (s : State) (f : Summary → Summary) : (s.onSummary f).pass.hasRun = s.pass.hasRun := rfl
@[simp] theorem State.onSummary_pass_summary (s : State) (f : Summary → Summary) : (s.onSummary f).pass.summary = s.pass.summary.map f := rfl

/-! ### State.setEntry -/

@[simp] theorem State.setEntry_timebase (s : State) (t : Nat) (e : Option TakeEntry) : (s.setEntry t e).timebase = s.timebase := rfl
@[simp] theorem State.setEntry_pass (s : State) (t : Nat) (e : Option TakeEntry) : (s.setEntry t e).pass = s.pass := rfl
@[simp] theorem State.setEntry_camera (s : State) (t : Nat) (e : Option TakeEntry) : (s.setEntry t e).camera = s.camera := rfl
@[simp] theorem State.setEntry_recording (s : State) (t : Nat) (e : Option TakeEntry) : (s.setEntry t e).recording = s.recording := rfl
@[simp] theorem State.setEntry_lineQueue (s : State) (t : Nat) (e : Option TakeEntry) : (s.setEntry t e).lineQueue = s.lineQueue := rfl
@[simp] theorem State.setEntry_interpolator (s : State) (t : Nat) (e : Option TakeEntry) : (s.setEntry t e).interpolator = s.interpolator := rfl
@[simp] theorem State.setEntry_memory (s : State) (t : Nat) (e : Option TakeEntry) : (s.setEntry t e).memory = s.memory := rfl
@[simp] theorem State.setEntry_axes (s : State) (t : Nat) (e : Option TakeEntry) : (s.setEntry t e).axes = s.axes := rfl
@[simp] theorem State.setEntry_writeInProcessing (s : State) (t : Nat) (e : Option TakeEntry) : (s.setEntry t e).writeInProcessing = s.writeInProcessing := rfl
@[simp] theorem State.setEntry_witness (s : State) (t : Nat) (e : Option TakeEntry) : (s.setEntry t e).witness = s.witness := rfl
@[simp] theorem State.setEntry_port (s : State) (t : Nat) (e : Option TakeEntry) : (s.setEntry t e).port = s.port := rfl
@[simp] theorem State.setEntry_resetControl (s : State) (t : Nat) (e : Option TakeEntry) : (s.setEntry t e).resetControl = s.resetControl := rfl
@[simp] theorem State.setEntry_lastUpstream (s : State) (t : Nat) (e : Option TakeEntry) : (s.setEntry t e).lastUpstream = s.lastUpstream := rfl
@[simp] theorem State.setEntry_openOrders (s : State) (t : Nat) (e : Option TakeEntry) : (s.setEntry t e).openOrders = s.openOrders := rfl
@[simp] theorem State.setEntry_due (s : State) (t : Nat) (e : Option TakeEntry) : (s.setEntry t e).due = s.due := rfl
@[simp] theorem State.setEntry_pending (s : State) (t : Nat) (e : Option TakeEntry) : (s.setEntry t e).pending = s.pending := rfl
@[simp] theorem State.setEntry_directory (s : State) (t : Nat) (e : Option TakeEntry) : (s.setEntry t e).directory = s.directory.setEntry t e := rfl

/-! ### State.onAxis -/

@[simp] theorem State.onAxis_timebase (s : State) (a : Nat) (f : Axis → Axis) : (s.onAxis a f).timebase = s.timebase := rfl
@[simp] theorem State.onAxis_directory (s : State) (a : Nat) (f : Axis → Axis) : (s.onAxis a f).directory = s.directory := rfl
@[simp] theorem State.onAxis_pass (s : State) (a : Nat) (f : Axis → Axis) : (s.onAxis a f).pass = s.pass := rfl
@[simp] theorem State.onAxis_camera (s : State) (a : Nat) (f : Axis → Axis) : (s.onAxis a f).camera = s.camera := rfl
@[simp] theorem State.onAxis_recording (s : State) (a : Nat) (f : Axis → Axis) : (s.onAxis a f).recording = s.recording := rfl
@[simp] theorem State.onAxis_lineQueue (s : State) (a : Nat) (f : Axis → Axis) : (s.onAxis a f).lineQueue = s.lineQueue := rfl
@[simp] theorem State.onAxis_interpolator (s : State) (a : Nat) (f : Axis → Axis) : (s.onAxis a f).interpolator = s.interpolator := rfl
@[simp] theorem State.onAxis_memory (s : State) (a : Nat) (f : Axis → Axis) : (s.onAxis a f).memory = s.memory := rfl
@[simp] theorem State.onAxis_writeInProcessing (s : State) (a : Nat) (f : Axis → Axis) : (s.onAxis a f).writeInProcessing = s.writeInProcessing := rfl
@[simp] theorem State.onAxis_witness (s : State) (a : Nat) (f : Axis → Axis) : (s.onAxis a f).witness = s.witness := rfl
@[simp] theorem State.onAxis_port (s : State) (a : Nat) (f : Axis → Axis) : (s.onAxis a f).port = s.port := rfl
@[simp] theorem State.onAxis_resetControl (s : State) (a : Nat) (f : Axis → Axis) : (s.onAxis a f).resetControl = s.resetControl := rfl
@[simp] theorem State.onAxis_lastUpstream (s : State) (a : Nat) (f : Axis → Axis) : (s.onAxis a f).lastUpstream = s.lastUpstream := rfl
@[simp] theorem State.onAxis_openOrders (s : State) (a : Nat) (f : Axis → Axis) : (s.onAxis a f).openOrders = s.openOrders := rfl
@[simp] theorem State.onAxis_due (s : State) (a : Nat) (f : Axis → Axis) : (s.onAxis a f).due = s.due := rfl
@[simp] theorem State.onAxis_pending (s : State) (a : Nat) (f : Axis → Axis) : (s.onAxis a f).pending = s.pending := rfl
@[simp] theorem State.onAxis_axes (s : State) (a : Nat) (f : Axis → Axis) : (s.onAxis a f).axes = s.axes.modify a f := rfl

/-! ### State.onWitnessAxis -/

@[simp] theorem State.onWitnessAxis_timebase (s : State) (a : Nat) (f : WitnessAxis → WitnessAxis) : (s.onWitnessAxis a f).timebase = s.timebase := rfl
@[simp] theorem State.onWitnessAxis_directory (s : State) (a : Nat) (f : WitnessAxis → WitnessAxis) : (s.onWitnessAxis a f).directory = s.directory := rfl
@[simp] theorem State.onWitnessAxis_pass (s : State) (a : Nat) (f : WitnessAxis → WitnessAxis) : (s.onWitnessAxis a f).pass = s.pass := rfl
@[simp] theorem State.onWitnessAxis_camera (s : State) (a : Nat) (f : WitnessAxis → WitnessAxis) : (s.onWitnessAxis a f).camera = s.camera := rfl
@[simp] theorem State.onWitnessAxis_recording (s : State) (a : Nat) (f : WitnessAxis → WitnessAxis) : (s.onWitnessAxis a f).recording = s.recording := rfl
@[simp] theorem State.onWitnessAxis_lineQueue (s : State) (a : Nat) (f : WitnessAxis → WitnessAxis) : (s.onWitnessAxis a f).lineQueue = s.lineQueue := rfl
@[simp] theorem State.onWitnessAxis_interpolator (s : State) (a : Nat) (f : WitnessAxis → WitnessAxis) : (s.onWitnessAxis a f).interpolator = s.interpolator := rfl
@[simp] theorem State.onWitnessAxis_memory (s : State) (a : Nat) (f : WitnessAxis → WitnessAxis) : (s.onWitnessAxis a f).memory = s.memory := rfl
@[simp] theorem State.onWitnessAxis_axes (s : State) (a : Nat) (f : WitnessAxis → WitnessAxis) : (s.onWitnessAxis a f).axes = s.axes := rfl
@[simp] theorem State.onWitnessAxis_writeInProcessing (s : State) (a : Nat) (f : WitnessAxis → WitnessAxis) : (s.onWitnessAxis a f).writeInProcessing = s.writeInProcessing := rfl
@[simp] theorem State.onWitnessAxis_port (s : State) (a : Nat) (f : WitnessAxis → WitnessAxis) : (s.onWitnessAxis a f).port = s.port := rfl
@[simp] theorem State.onWitnessAxis_resetControl (s : State) (a : Nat) (f : WitnessAxis → WitnessAxis) : (s.onWitnessAxis a f).resetControl = s.resetControl := rfl
@[simp] theorem State.onWitnessAxis_lastUpstream (s : State) (a : Nat) (f : WitnessAxis → WitnessAxis) : (s.onWitnessAxis a f).lastUpstream = s.lastUpstream := rfl
@[simp] theorem State.onWitnessAxis_openOrders (s : State) (a : Nat) (f : WitnessAxis → WitnessAxis) : (s.onWitnessAxis a f).openOrders = s.openOrders := rfl
@[simp] theorem State.onWitnessAxis_due (s : State) (a : Nat) (f : WitnessAxis → WitnessAxis) : (s.onWitnessAxis a f).due = s.due := rfl
@[simp] theorem State.onWitnessAxis_pending (s : State) (a : Nat) (f : WitnessAxis → WitnessAxis) : (s.onWitnessAxis a f).pending = s.pending := rfl
@[simp] theorem State.onWitnessAxis_witness_frameStart (s : State) (a : Nat) (f : WitnessAxis → WitnessAxis) : (s.onWitnessAxis a f).witness.frameStart = s.witness.frameStart := rfl
@[simp] theorem State.onWitnessAxis_witness_log (s : State) (a : Nat) (f : WitnessAxis → WitnessAxis) : (s.onWitnessAxis a f).witness.log = s.witness.log := rfl
@[simp] theorem State.onWitnessAxis_witness_lost (s : State) (a : Nat) (f : WitnessAxis → WitnessAxis) : (s.onWitnessAxis a f).witness.lost = s.witness.lost := rfl
@[simp] theorem State.onWitnessAxis_witness_axes (s : State) (a : Nat) (f : WitnessAxis → WitnessAxis) : (s.onWitnessAxis a f).witness.axes = s.witness.axes.modify a f := rfl

/-! ### State.receive -/

@[simp] theorem State.receive_timebase (s : State) (fr : Frame) : (s.receive fr).timebase = s.timebase := rfl
@[simp] theorem State.receive_directory (s : State) (fr : Frame) : (s.receive fr).directory = s.directory := rfl
@[simp] theorem State.receive_pass (s : State) (fr : Frame) : (s.receive fr).pass = s.pass := rfl
@[simp] theorem State.receive_camera (s : State) (fr : Frame) : (s.receive fr).camera = s.camera := rfl
@[simp] theorem State.receive_recording (s : State) (fr : Frame) : (s.receive fr).recording = s.recording := rfl
@[simp] theorem State.receive_lineQueue (s : State) (fr : Frame) : (s.receive fr).lineQueue = s.lineQueue := rfl
@[simp] theorem State.receive_interpolator (s : State) (fr : Frame) : (s.receive fr).interpolator = s.interpolator := rfl
@[simp] theorem State.receive_memory (s : State) (fr : Frame) : (s.receive fr).memory = s.memory := rfl
@[simp] theorem State.receive_axes (s : State) (fr : Frame) : (s.receive fr).axes = s.axes := rfl
@[simp] theorem State.receive_writeInProcessing (s : State) (fr : Frame) : (s.receive fr).writeInProcessing = s.writeInProcessing := rfl
@[simp] theorem State.receive_witness (s : State) (fr : Frame) : (s.receive fr).witness = s.witness := rfl
@[simp] theorem State.receive_resetControl (s : State) (fr : Frame) : (s.receive fr).resetControl = s.resetControl := rfl
@[simp] theorem State.receive_lastUpstream (s : State) (fr : Frame) : (s.receive fr).lastUpstream = s.lastUpstream := rfl
@[simp] theorem State.receive_openOrders (s : State) (fr : Frame) : (s.receive fr).openOrders = s.openOrders := rfl
@[simp] theorem State.receive_due (s : State) (fr : Frame) : (s.receive fr).due = s.due := rfl
@[simp] theorem State.receive_pending (s : State) (fr : Frame) : (s.receive fr).pending = s.pending := rfl
@[simp] theorem State.receive_port_phase (s : State) (fr : Frame) : (s.receive fr).port.phase = .arguments := rfl
@[simp] theorem State.receive_port_code (s : State) (fr : Frame) : (s.receive fr).port.code = some fr.code := rfl
@[simp] theorem State.receive_port_args (s : State) (fr : Frame) : (s.receive fr).port.args = fr.args := rfl
@[simp] theorem State.receive_port_incoming (s : State) (fr : Frame) : (s.receive fr).port.incoming = [] := rfl
@[simp] theorem State.receive_port_response (s : State) (fr : Frame) : (s.receive fr).port.response = s.port.response := rfl
@[simp] theorem State.receive_port_resetPending (s : State) (fr : Frame) : (s.receive fr).port.resetPending = s.port.resetPending := rfl
@[simp] theorem State.receive_port_flags (s : State) (fr : Frame) : (s.receive fr).port.flags = s.port.flags := rfl
@[simp] theorem State.receive_port_mask (s : State) (fr : Frame) : (s.receive fr).port.mask = s.port.mask := rfl
@[simp] theorem State.receive_port_resetCause (s : State) (fr : Frame) : (s.receive fr).port.resetCause = s.port.resetCause := rfl
@[simp] theorem State.receive_port_powerSeen (s : State) (fr : Frame) : (s.receive fr).port.powerSeen = s.port.powerSeen := rfl
@[simp] theorem State.receive_port_selectHigh (s : State) (fr : Frame) : (s.receive fr).port.selectHigh = s.port.selectHigh := rfl

/-! ### State.respond -/

@[simp] theorem State.respond_timebase (s : State) (a : Status) (result : List Byte) : (s.respond a result).timebase = s.timebase := rfl
@[simp] theorem State.respond_directory (s : State) (a : Status) (result : List Byte) : (s.respond a result).directory = s.directory := rfl
@[simp] theorem State.respond_pass (s : State) (a : Status) (result : List Byte) : (s.respond a result).pass = s.pass := rfl
@[simp] theorem State.respond_camera (s : State) (a : Status) (result : List Byte) : (s.respond a result).camera = s.camera := rfl
@[simp] theorem State.respond_recording (s : State) (a : Status) (result : List Byte) : (s.respond a result).recording = s.recording := rfl
@[simp] theorem State.respond_lineQueue (s : State) (a : Status) (result : List Byte) : (s.respond a result).lineQueue = s.lineQueue := rfl
@[simp] theorem State.respond_interpolator (s : State) (a : Status) (result : List Byte) : (s.respond a result).interpolator = s.interpolator := rfl
@[simp] theorem State.respond_memory (s : State) (a : Status) (result : List Byte) : (s.respond a result).memory = s.memory := rfl
@[simp] theorem State.respond_axes (s : State) (a : Status) (result : List Byte) : (s.respond a result).axes = s.axes := rfl
@[simp] theorem State.respond_writeInProcessing (s : State) (a : Status) (result : List Byte) : (s.respond a result).writeInProcessing = s.writeInProcessing := rfl
@[simp] theorem State.respond_witness (s : State) (a : Status) (result : List Byte) : (s.respond a result).witness = s.witness := rfl
@[simp] theorem State.respond_resetControl (s : State) (a : Status) (result : List Byte) : (s.respond a result).resetControl = s.resetControl := rfl
@[simp] theorem State.respond_lastUpstream (s : State) (a : Status) (result : List Byte) : (s.respond a result).lastUpstream = s.lastUpstream := rfl
@[simp] theorem State.respond_openOrders (s : State) (a : Status) (result : List Byte) : (s.respond a result).openOrders = s.openOrders := rfl
@[simp] theorem State.respond_due (s : State) (a : Status) (result : List Byte) : (s.respond a result).due = s.due := rfl
@[simp] theorem State.respond_pending (s : State) (a : Status) (result : List Byte) : (s.respond a result).pending = s.pending := rfl
@[simp] theorem State.respond_port_code (s : State) (a : Status) (result : List Byte) : (s.respond a result).port.code = s.port.code := rfl
@[simp] theorem State.respond_port_length (s : State) (a : Status) (result : List Byte) : (s.respond a result).port.length = s.port.length := rfl
@[simp] theorem State.respond_port_args (s : State) (a : Status) (result : List Byte) : (s.respond a result).port.args = s.port.args := rfl
@[simp] theorem State.respond_port_incoming (s : State) (a : Status) (result : List Byte) : (s.respond a result).port.incoming = s.port.incoming := rfl
@[simp] theorem State.respond_port_resetPending (s : State) (a : Status) (result : List Byte) : (s.respond a result).port.resetPending = s.port.resetPending := rfl
@[simp] theorem State.respond_port_flags (s : State) (a : Status) (result : List Byte) : (s.respond a result).port.flags = s.port.flags := rfl
@[simp] theorem State.respond_port_mask (s : State) (a : Status) (result : List Byte) : (s.respond a result).port.mask = s.port.mask := rfl
@[simp] theorem State.respond_port_resetCause (s : State) (a : Status) (result : List Byte) : (s.respond a result).port.resetCause = s.port.resetCause := rfl
@[simp] theorem State.respond_port_powerSeen (s : State) (a : Status) (result : List Byte) : (s.respond a result).port.powerSeen = s.port.powerSeen := rfl
@[simp] theorem State.respond_port_selectHigh (s : State) (a : Status) (result : List Byte) : (s.respond a result).port.selectHigh = s.port.selectHigh := rfl
@[simp] theorem State.respond_port_response (s : State) (a : Status) (result : List Byte) : (s.respond a result).port.response = some ⟨a.byte, result, 0⟩ := rfl

/-! ### State.shiftOut -/

@[simp] theorem State.shiftOut_timebase (s : State) (n : Nat) : (s.shiftOut n).timebase = s.timebase := rfl
@[simp] theorem State.shiftOut_directory (s : State) (n : Nat) : (s.shiftOut n).directory = s.directory := rfl
@[simp] theorem State.shiftOut_pass (s : State) (n : Nat) : (s.shiftOut n).pass = s.pass := rfl
@[simp] theorem State.shiftOut_camera (s : State) (n : Nat) : (s.shiftOut n).camera = s.camera := rfl
@[simp] theorem State.shiftOut_recording (s : State) (n : Nat) : (s.shiftOut n).recording = s.recording := rfl
@[simp] theorem State.shiftOut_lineQueue (s : State) (n : Nat) : (s.shiftOut n).lineQueue = s.lineQueue := rfl
@[simp] theorem State.shiftOut_interpolator (s : State) (n : Nat) : (s.shiftOut n).interpolator = s.interpolator := rfl
@[simp] theorem State.shiftOut_memory (s : State) (n : Nat) : (s.shiftOut n).memory = s.memory := rfl
@[simp] theorem State.shiftOut_axes (s : State) (n : Nat) : (s.shiftOut n).axes = s.axes := rfl
@[simp] theorem State.shiftOut_writeInProcessing (s : State) (n : Nat) : (s.shiftOut n).writeInProcessing = s.writeInProcessing := rfl
@[simp] theorem State.shiftOut_witness (s : State) (n : Nat) : (s.shiftOut n).witness = s.witness := rfl
@[simp] theorem State.shiftOut_resetControl (s : State) (n : Nat) : (s.shiftOut n).resetControl = s.resetControl := rfl
@[simp] theorem State.shiftOut_lastUpstream (s : State) (n : Nat) : (s.shiftOut n).lastUpstream = s.lastUpstream := rfl
@[simp] theorem State.shiftOut_openOrders (s : State) (n : Nat) : (s.shiftOut n).openOrders = s.openOrders := rfl
@[simp] theorem State.shiftOut_due (s : State) (n : Nat) : (s.shiftOut n).due = s.due := rfl
@[simp] theorem State.shiftOut_pending (s : State) (n : Nat) : (s.shiftOut n).pending = s.pending := rfl
@[simp] theorem State.shiftOut_port_phase (s : State) (n : Nat) : (s.shiftOut n).port.phase = s.port.phase := rfl
@[simp] theorem State.shiftOut_port_code (s : State) (n : Nat) : (s.shiftOut n).port.code = s.port.code := rfl
@[simp] theorem State.shiftOut_port_length (s : State) (n : Nat) : (s.shiftOut n).port.length = s.port.length := rfl
@[simp] theorem State.shiftOut_port_args (s : State) (n : Nat) : (s.shiftOut n).port.args = s.port.args := rfl
@[simp] theorem State.shiftOut_port_incoming (s : State) (n : Nat) : (s.shiftOut n).port.incoming = s.port.incoming := rfl
@[simp] theorem State.shiftOut_port_resetPending (s : State) (n : Nat) : (s.shiftOut n).port.resetPending = s.port.resetPending := rfl
@[simp] theorem State.shiftOut_port_flags (s : State) (n : Nat) : (s.shiftOut n).port.flags = s.port.flags := rfl
@[simp] theorem State.shiftOut_port_mask (s : State) (n : Nat) : (s.shiftOut n).port.mask = s.port.mask := rfl
@[simp] theorem State.shiftOut_port_resetCause (s : State) (n : Nat) : (s.shiftOut n).port.resetCause = s.port.resetCause := rfl
@[simp] theorem State.shiftOut_port_powerSeen (s : State) (n : Nat) : (s.shiftOut n).port.powerSeen = s.port.powerSeen := rfl
@[simp] theorem State.shiftOut_port_selectHigh (s : State) (n : Nat) : (s.shiftOut n).port.selectHigh = s.port.selectHigh := rfl

/-! ### State.placeRequest -/

@[simp] theorem State.placeRequest_timebase (s : State) (r : Request) : (s.placeRequest r).timebase = s.timebase := rfl
@[simp] theorem State.placeRequest_directory (s : State) (r : Request) : (s.placeRequest r).directory = s.directory := rfl
@[simp] theorem State.placeRequest_camera (s : State) (r : Request) : (s.placeRequest r).camera = s.camera := rfl
@[simp] theorem State.placeRequest_recording (s : State) (r : Request) : (s.placeRequest r).recording = s.recording := rfl
@[simp] theorem State.placeRequest_lineQueue (s : State) (r : Request) : (s.placeRequest r).lineQueue = s.lineQueue := rfl
@[simp] theorem State.placeRequest_interpolator (s : State) (r : Request) : (s.placeRequest r).interpolator = s.interpolator := rfl
@[simp] theorem State.placeRequest_memory (s : State) (r : Request) : (s.placeRequest r).memory = s.memory := rfl
@[simp] theorem State.placeRequest_axes (s : State) (r : Request) : (s.placeRequest r).axes = s.axes := rfl
@[simp] theorem State.placeRequest_writeInProcessing (s : State) (r : Request) : (s.placeRequest r).writeInProcessing = s.writeInProcessing := rfl
@[simp] theorem State.placeRequest_witness (s : State) (r : Request) : (s.placeRequest r).witness = s.witness := rfl
@[simp] theorem State.placeRequest_port (s : State) (r : Request) : (s.placeRequest r).port = s.port := rfl
@[simp] theorem State.placeRequest_resetControl (s : State) (r : Request) : (s.placeRequest r).resetControl = s.resetControl := rfl
@[simp] theorem State.placeRequest_lastUpstream (s : State) (r : Request) : (s.placeRequest r).lastUpstream = s.lastUpstream := rfl
@[simp] theorem State.placeRequest_openOrders (s : State) (r : Request) : (s.placeRequest r).openOrders = s.openOrders := rfl
@[simp] theorem State.placeRequest_due (s : State) (r : Request) : (s.placeRequest r).due = s.due := rfl
@[simp] theorem State.placeRequest_pending (s : State) (r : Request) : (s.placeRequest r).pending = s.pending := rfl
@[simp] theorem State.placeRequest_pass_state (s : State) (r : Request) : (s.placeRequest r).pass.state = s.pass.state := rfl
@[simp] theorem State.placeRequest_pass_context (s : State) (r : Request) : (s.placeRequest r).pass.context = s.pass.context := rfl
@[simp] theorem State.placeRequest_pass_preroll (s : State) (r : Request) : (s.placeRequest r).pass.preroll = s.pass.preroll := rfl
@[simp] theorem State.placeRequest_pass_hasRun (s : State) (r : Request) : (s.placeRequest r).pass.hasRun = s.pass.hasRun := rfl
@[simp] theorem State.placeRequest_pass_summary (s : State) (r : Request) : (s.placeRequest r).pass.summary = s.pass.summary := rfl
@[simp] theorem State.placeRequest_pass_pending (s : State) (r : Request) : (s.placeRequest r).pass.pending = some r := rfl

/-! ### State.emptySlot -/

@[simp] theorem State.emptySlot_timebase (s : State) : (s.emptySlot).timebase = s.timebase := rfl
@[simp] theorem State.emptySlot_directory (s : State) : (s.emptySlot).directory = s.directory := rfl
@[simp] theorem State.emptySlot_camera (s : State) : (s.emptySlot).camera = s.camera := rfl
@[simp] theorem State.emptySlot_recording (s : State) : (s.emptySlot).recording = s.recording := rfl
@[simp] theorem State.emptySlot_lineQueue (s : State) : (s.emptySlot).lineQueue = s.lineQueue := rfl
@[simp] theorem State.emptySlot_interpolator (s : State) : (s.emptySlot).interpolator = s.interpolator := rfl
@[simp] theorem State.emptySlot_memory (s : State) : (s.emptySlot).memory = s.memory := rfl
@[simp] theorem State.emptySlot_axes (s : State) : (s.emptySlot).axes = s.axes := rfl
@[simp] theorem State.emptySlot_writeInProcessing (s : State) : (s.emptySlot).writeInProcessing = s.writeInProcessing := rfl
@[simp] theorem State.emptySlot_witness (s : State) : (s.emptySlot).witness = s.witness := rfl
@[simp] theorem State.emptySlot_port (s : State) : (s.emptySlot).port = s.port := rfl
@[simp] theorem State.emptySlot_resetControl (s : State) : (s.emptySlot).resetControl = s.resetControl := rfl
@[simp] theorem State.emptySlot_lastUpstream (s : State) : (s.emptySlot).lastUpstream = s.lastUpstream := rfl
@[simp] theorem State.emptySlot_openOrders (s : State) : (s.emptySlot).openOrders = s.openOrders := rfl
@[simp] theorem State.emptySlot_due (s : State) : (s.emptySlot).due = s.due := rfl
@[simp] theorem State.emptySlot_pending (s : State) : (s.emptySlot).pending = s.pending := rfl
@[simp] theorem State.emptySlot_pass_state (s : State) : (s.emptySlot).pass.state = s.pass.state := rfl
@[simp] theorem State.emptySlot_pass_context (s : State) : (s.emptySlot).pass.context = s.pass.context := rfl
@[simp] theorem State.emptySlot_pass_preroll (s : State) : (s.emptySlot).pass.preroll = s.pass.preroll := rfl
@[simp] theorem State.emptySlot_pass_hasRun (s : State) : (s.emptySlot).pass.hasRun = s.pass.hasRun := rfl
@[simp] theorem State.emptySlot_pass_summary (s : State) : (s.emptySlot).pass.summary = s.pass.summary := rfl
@[simp] theorem State.emptySlot_pass_pending (s : State) : (s.emptySlot).pass.pending = none := rfl

/-! ### State.closeRecording -/

@[simp] theorem State.closeRecording_timebase (s : State) : (s.closeRecording).timebase = s.timebase := rfl
@[simp] theorem State.closeRecording_directory (s : State) : (s.closeRecording).directory = s.directory := rfl
@[simp] theorem State.closeRecording_pass (s : State) : (s.closeRecording).pass = s.pass := rfl
@[simp] theorem State.closeRecording_camera (s : State) : (s.closeRecording).camera = s.camera := rfl
@[simp] theorem State.closeRecording_lineQueue (s : State) : (s.closeRecording).lineQueue = s.lineQueue := rfl
@[simp] theorem State.closeRecording_interpolator (s : State) : (s.closeRecording).interpolator = s.interpolator := rfl
@[simp] theorem State.closeRecording_memory (s : State) : (s.closeRecording).memory = s.memory := rfl
@[simp] theorem State.closeRecording_axes (s : State) : (s.closeRecording).axes = s.axes := rfl
@[simp] theorem State.closeRecording_writeInProcessing (s : State) : (s.closeRecording).writeInProcessing = s.writeInProcessing := rfl
@[simp] theorem State.closeRecording_witness (s : State) : (s.closeRecording).witness = s.witness := rfl
@[simp] theorem State.closeRecording_port (s : State) : (s.closeRecording).port = s.port := rfl
@[simp] theorem State.closeRecording_resetControl (s : State) : (s.closeRecording).resetControl = s.resetControl := rfl
@[simp] theorem State.closeRecording_lastUpstream (s : State) : (s.closeRecording).lastUpstream = s.lastUpstream := rfl
@[simp] theorem State.closeRecording_openOrders (s : State) : (s.closeRecording).openOrders = s.openOrders := rfl
@[simp] theorem State.closeRecording_due (s : State) : (s.closeRecording).due = s.due := rfl
@[simp] theorem State.closeRecording_pending (s : State) : (s.closeRecording).pending = s.pending := rfl
@[simp] theorem State.closeRecording_recording_queue (s : State) : (s.closeRecording).recording.queue = s.recording.queue := rfl
@[simp] theorem State.closeRecording_recording_writer (s : State) : (s.closeRecording).recording.writer = s.recording.writer := rfl
@[simp] theorem State.closeRecording_recording_highWater (s : State) : (s.closeRecording).recording.highWater = s.recording.highWater := rfl
@[simp] theorem State.closeRecording_recording_isOpen (s : State) : (s.closeRecording).recording.isOpen = false := rfl

/-! ### State.setUrgentRun -/

@[simp] theorem State.setUrgentRun_timebase (s : State) (n : Nat) : (s.setUrgentRun n).timebase = s.timebase := rfl
@[simp] theorem State.setUrgentRun_directory (s : State) (n : Nat) : (s.setUrgentRun n).directory = s.directory := rfl
@[simp] theorem State.setUrgentRun_pass (s : State) (n : Nat) : (s.setUrgentRun n).pass = s.pass := rfl
@[simp] theorem State.setUrgentRun_camera (s : State) (n : Nat) : (s.setUrgentRun n).camera = s.camera := rfl
@[simp] theorem State.setUrgentRun_recording (s : State) (n : Nat) : (s.setUrgentRun n).recording = s.recording := rfl
@[simp] theorem State.setUrgentRun_lineQueue (s : State) (n : Nat) : (s.setUrgentRun n).lineQueue = s.lineQueue := rfl
@[simp] theorem State.setUrgentRun_interpolator (s : State) (n : Nat) : (s.setUrgentRun n).interpolator = s.interpolator := rfl
@[simp] theorem State.setUrgentRun_axes (s : State) (n : Nat) : (s.setUrgentRun n).axes = s.axes := rfl
@[simp] theorem State.setUrgentRun_writeInProcessing (s : State) (n : Nat) : (s.setUrgentRun n).writeInProcessing = s.writeInProcessing := rfl
@[simp] theorem State.setUrgentRun_witness (s : State) (n : Nat) : (s.setUrgentRun n).witness = s.witness := rfl
@[simp] theorem State.setUrgentRun_port (s : State) (n : Nat) : (s.setUrgentRun n).port = s.port := rfl
@[simp] theorem State.setUrgentRun_resetControl (s : State) (n : Nat) : (s.setUrgentRun n).resetControl = s.resetControl := rfl
@[simp] theorem State.setUrgentRun_lastUpstream (s : State) (n : Nat) : (s.setUrgentRun n).lastUpstream = s.lastUpstream := rfl
@[simp] theorem State.setUrgentRun_openOrders (s : State) (n : Nat) : (s.setUrgentRun n).openOrders = s.openOrders := rfl
@[simp] theorem State.setUrgentRun_due (s : State) (n : Nat) : (s.setUrgentRun n).due = s.due := rfl
@[simp] theorem State.setUrgentRun_pending (s : State) (n : Nat) : (s.setUrgentRun n).pending = s.pending := rfl
@[simp] theorem State.setUrgentRun_memory_upstream (s : State) (n : Nat) : (s.setUrgentRun n).memory.upstream = s.memory.upstream := rfl
@[simp] theorem State.setUrgentRun_memory_downstream (s : State) (n : Nat) : (s.setUrgentRun n).memory.downstream = s.memory.downstream := rfl
@[simp] theorem State.setUrgentRun_memory_blockedAddress (s : State) (n : Nat) : (s.setUrgentRun n).memory.blockedAddress = s.memory.blockedAddress := rfl
@[simp] theorem State.setUrgentRun_memory_protectBlocks (s : State) (n : Nat) : (s.setUrgentRun n).memory.protectBlocks = s.memory.protectBlocks := rfl
@[simp] theorem State.setUrgentRun_memory_partialBlocks (s : State) (n : Nat) : (s.setUrgentRun n).memory.partialBlocks = s.memory.partialBlocks := rfl
@[simp] theorem State.setUrgentRun_memory_urgentRun (s : State) (n : Nat) : (s.setUrgentRun n).memory.urgentRun = n := rfl

/-! ### State.fixForward -/

@[simp] theorem State.fixForward_timebase (s : State) (v : Int) : (s.fixForward v).timebase = s.timebase := rfl
@[simp] theorem State.fixForward_directory (s : State) (v : Int) : (s.fixForward v).directory = s.directory := rfl
@[simp] theorem State.fixForward_pass (s : State) (v : Int) : (s.fixForward v).pass = s.pass := rfl
@[simp] theorem State.fixForward_camera (s : State) (v : Int) : (s.fixForward v).camera = s.camera := rfl
@[simp] theorem State.fixForward_recording (s : State) (v : Int) : (s.fixForward v).recording = s.recording := rfl
@[simp] theorem State.fixForward_lineQueue (s : State) (v : Int) : (s.fixForward v).lineQueue = s.lineQueue := rfl
@[simp] theorem State.fixForward_interpolator (s : State) (v : Int) : (s.fixForward v).interpolator = s.interpolator := rfl
@[simp] theorem State.fixForward_axes (s : State) (v : Int) : (s.fixForward v).axes = s.axes := rfl
@[simp] theorem State.fixForward_writeInProcessing (s : State) (v : Int) : (s.fixForward v).writeInProcessing = s.writeInProcessing := rfl
@[simp] theorem State.fixForward_witness (s : State) (v : Int) : (s.fixForward v).witness = s.witness := rfl
@[simp] theorem State.fixForward_port (s : State) (v : Int) : (s.fixForward v).port = s.port := rfl
@[simp] theorem State.fixForward_resetControl (s : State) (v : Int) : (s.fixForward v).resetControl = s.resetControl := rfl
@[simp] theorem State.fixForward_lastUpstream (s : State) (v : Int) : (s.fixForward v).lastUpstream = s.lastUpstream := rfl
@[simp] theorem State.fixForward_openOrders (s : State) (v : Int) : (s.fixForward v).openOrders = s.openOrders := rfl
@[simp] theorem State.fixForward_due (s : State) (v : Int) : (s.fixForward v).due = s.due := rfl
@[simp] theorem State.fixForward_pending (s : State) (v : Int) : (s.fixForward v).pending = s.pending := rfl
@[simp] theorem State.fixForward_memory_downstream (s : State) (v : Int) : (s.fixForward v).memory.downstream = s.memory.downstream := rfl
@[simp] theorem State.fixForward_memory_urgentRun (s : State) (v : Int) : (s.fixForward v).memory.urgentRun = s.memory.urgentRun := rfl
@[simp] theorem State.fixForward_memory_blockedAddress (s : State) (v : Int) : (s.fixForward v).memory.blockedAddress = s.memory.blockedAddress := rfl
@[simp] theorem State.fixForward_memory_protectBlocks (s : State) (v : Int) : (s.fixForward v).memory.protectBlocks = s.memory.protectBlocks := rfl
@[simp] theorem State.fixForward_memory_partialBlocks (s : State) (v : Int) : (s.fixForward v).memory.partialBlocks = s.memory.partialBlocks := rfl
@[simp] theorem State.fixForward_memory_upstream (s : State) (v : Int) : (s.fixForward v).memory.upstream = s.memory.upstream.map fun t => { t with forwardData := some (sampleWord v), phase := .waiting } := rfl

/-! ### State.dropDownstream -/

@[simp] theorem State.dropDownstream_timebase (s : State) (owner : DownstreamOwner) : (s.dropDownstream owner).timebase = s.timebase := rfl
@[simp] theorem State.dropDownstream_directory (s : State) (owner : DownstreamOwner) : (s.dropDownstream owner).directory = s.directory := rfl
@[simp] theorem State.dropDownstream_pass (s : State) (owner : DownstreamOwner) : (s.dropDownstream owner).pass = s.pass := rfl
@[simp] theorem State.dropDownstream_camera (s : State) (owner : DownstreamOwner) : (s.dropDownstream owner).camera = s.camera := rfl
@[simp] theorem State.dropDownstream_recording (s : State) (owner : DownstreamOwner) : (s.dropDownstream owner).recording = s.recording := rfl
@[simp] theorem State.dropDownstream_lineQueue (s : State) (owner : DownstreamOwner) : (s.dropDownstream owner).lineQueue = s.lineQueue := rfl
@[simp] theorem State.dropDownstream_interpolator (s : State) (owner : DownstreamOwner) : (s.dropDownstream owner).interpolator = s.interpolator := rfl
@[simp] theorem State.dropDownstream_axes (s : State) (owner : DownstreamOwner) : (s.dropDownstream owner).axes = s.axes := rfl
@[simp] theorem State.dropDownstream_writeInProcessing (s : State) (owner : DownstreamOwner) : (s.dropDownstream owner).writeInProcessing = s.writeInProcessing := rfl
@[simp] theorem State.dropDownstream_witness (s : State) (owner : DownstreamOwner) : (s.dropDownstream owner).witness = s.witness := rfl
@[simp] theorem State.dropDownstream_port (s : State) (owner : DownstreamOwner) : (s.dropDownstream owner).port = s.port := rfl
@[simp] theorem State.dropDownstream_resetControl (s : State) (owner : DownstreamOwner) : (s.dropDownstream owner).resetControl = s.resetControl := rfl
@[simp] theorem State.dropDownstream_lastUpstream (s : State) (owner : DownstreamOwner) : (s.dropDownstream owner).lastUpstream = s.lastUpstream := rfl
@[simp] theorem State.dropDownstream_openOrders (s : State) (owner : DownstreamOwner) : (s.dropDownstream owner).openOrders = s.openOrders := rfl
@[simp] theorem State.dropDownstream_due (s : State) (owner : DownstreamOwner) : (s.dropDownstream owner).due = s.due := rfl
@[simp] theorem State.dropDownstream_pending (s : State) (owner : DownstreamOwner) : (s.dropDownstream owner).pending = s.pending := rfl
@[simp] theorem State.dropDownstream_memory_upstream (s : State) (owner : DownstreamOwner) : (s.dropDownstream owner).memory.upstream = s.memory.upstream := rfl
@[simp] theorem State.dropDownstream_memory_urgentRun (s : State) (owner : DownstreamOwner) : (s.dropDownstream owner).memory.urgentRun = s.memory.urgentRun := rfl
@[simp] theorem State.dropDownstream_memory_blockedAddress (s : State) (owner : DownstreamOwner) : (s.dropDownstream owner).memory.blockedAddress = s.memory.blockedAddress := rfl
@[simp] theorem State.dropDownstream_memory_protectBlocks (s : State) (owner : DownstreamOwner) : (s.dropDownstream owner).memory.protectBlocks = s.memory.protectBlocks := rfl
@[simp] theorem State.dropDownstream_memory_partialBlocks (s : State) (owner : DownstreamOwner) : (s.dropDownstream owner).memory.partialBlocks = s.memory.partialBlocks := rfl

/-! ### State.startPassThrough -/

@[simp] theorem State.startPassThrough_timebase (s : State) (t : UpstreamTxn) (notice : Bool) : (s.startPassThrough t notice).timebase = s.timebase := rfl
@[simp] theorem State.startPassThrough_directory (s : State) (t : UpstreamTxn) (notice : Bool) : (s.startPassThrough t notice).directory = s.directory := rfl
@[simp] theorem State.startPassThrough_pass (s : State) (t : UpstreamTxn) (notice : Bool) : (s.startPassThrough t notice).pass = s.pass := rfl
@[simp] theorem State.startPassThrough_camera (s : State) (t : UpstreamTxn) (notice : Bool) : (s.startPassThrough t notice).camera = s.camera := rfl
@[simp] theorem State.startPassThrough_recording (s : State) (t : UpstreamTxn) (notice : Bool) : (s.startPassThrough t notice).recording = s.recording := rfl
@[simp] theorem State.startPassThrough_lineQueue (s : State) (t : UpstreamTxn) (notice : Bool) : (s.startPassThrough t notice).lineQueue = s.lineQueue := rfl
@[simp] theorem State.startPassThrough_interpolator (s : State) (t : UpstreamTxn) (notice : Bool) : (s.startPassThrough t notice).interpolator = s.interpolator := rfl
@[simp] theorem State.startPassThrough_axes (s : State) (t : UpstreamTxn) (notice : Bool) : (s.startPassThrough t notice).axes = s.axes := rfl
@[simp] theorem State.startPassThrough_writeInProcessing (s : State) (t : UpstreamTxn) (notice : Bool) : (s.startPassThrough t notice).writeInProcessing = s.writeInProcessing := rfl
@[simp] theorem State.startPassThrough_witness (s : State) (t : UpstreamTxn) (notice : Bool) : (s.startPassThrough t notice).witness = s.witness := rfl
@[simp] theorem State.startPassThrough_port (s : State) (t : UpstreamTxn) (notice : Bool) : (s.startPassThrough t notice).port = s.port := rfl
@[simp] theorem State.startPassThrough_resetControl (s : State) (t : UpstreamTxn) (notice : Bool) : (s.startPassThrough t notice).resetControl = s.resetControl := rfl
@[simp] theorem State.startPassThrough_lastUpstream (s : State) (t : UpstreamTxn) (notice : Bool) : (s.startPassThrough t notice).lastUpstream = s.lastUpstream := rfl
@[simp] theorem State.startPassThrough_openOrders (s : State) (t : UpstreamTxn) (notice : Bool) : (s.startPassThrough t notice).openOrders = s.openOrders := rfl
@[simp] theorem State.startPassThrough_due (s : State) (t : UpstreamTxn) (notice : Bool) : (s.startPassThrough t notice).due = s.due := rfl
@[simp] theorem State.startPassThrough_pending (s : State) (t : UpstreamTxn) (notice : Bool) : (s.startPassThrough t notice).pending = s.pending := rfl
@[simp] theorem State.startPassThrough_memory_urgentRun (s : State) (t : UpstreamTxn) (notice : Bool) : (s.startPassThrough t notice).memory.urgentRun = s.memory.urgentRun := rfl
@[simp] theorem State.startPassThrough_memory_blockedAddress (s : State) (t : UpstreamTxn) (notice : Bool) : (s.startPassThrough t notice).memory.blockedAddress = s.memory.blockedAddress := rfl
@[simp] theorem State.startPassThrough_memory_protectBlocks (s : State) (t : UpstreamTxn) (notice : Bool) : (s.startPassThrough t notice).memory.protectBlocks = s.memory.protectBlocks := rfl
@[simp] theorem State.startPassThrough_memory_partialBlocks (s : State) (t : UpstreamTxn) (notice : Bool) : (s.startPassThrough t notice).memory.partialBlocks = s.memory.partialBlocks := rfl

/-! ### State.clearWatch -/

@[simp] theorem State.clearWatch_directory (s : State) : (s.clearWatch).directory = s.directory := rfl
@[simp] theorem State.clearWatch_pass (s : State) : (s.clearWatch).pass = s.pass := rfl
@[simp] theorem State.clearWatch_camera (s : State) : (s.clearWatch).camera = s.camera := rfl
@[simp] theorem State.clearWatch_recording (s : State) : (s.clearWatch).recording = s.recording := rfl
@[simp] theorem State.clearWatch_lineQueue (s : State) : (s.clearWatch).lineQueue = s.lineQueue := rfl
@[simp] theorem State.clearWatch_interpolator (s : State) : (s.clearWatch).interpolator = s.interpolator := rfl
@[simp] theorem State.clearWatch_memory (s : State) : (s.clearWatch).memory = s.memory := rfl
@[simp] theorem State.clearWatch_axes (s : State) : (s.clearWatch).axes = s.axes := rfl
@[simp] theorem State.clearWatch_writeInProcessing (s : State) : (s.clearWatch).writeInProcessing = s.writeInProcessing := rfl
@[simp] theorem State.clearWatch_witness (s : State) : (s.clearWatch).witness = s.witness := rfl
@[simp] theorem State.clearWatch_port (s : State) : (s.clearWatch).port = s.port := rfl
@[simp] theorem State.clearWatch_resetControl (s : State) : (s.clearWatch).resetControl = s.resetControl := rfl
@[simp] theorem State.clearWatch_lastUpstream (s : State) : (s.clearWatch).lastUpstream = s.lastUpstream := rfl
@[simp] theorem State.clearWatch_openOrders (s : State) : (s.clearWatch).openOrders = s.openOrders := rfl
@[simp] theorem State.clearWatch_due (s : State) : (s.clearWatch).due = s.due := rfl
@[simp] theorem State.clearWatch_pending (s : State) : (s.clearWatch).pending = s.pending := rfl
@[simp] theorem State.clearWatch_timebase_active (s : State) : (s.clearWatch).timebase.active = s.timebase.active := rfl
@[simp] theorem State.clearWatch_timebase_pending (s : State) : (s.clearWatch).timebase.pending = s.timebase.pending := rfl
@[simp] theorem State.clearWatch_timebase_lock (s : State) : (s.clearWatch).timebase.lock = s.timebase.lock := rfl
@[simp] theorem State.clearWatch_timebase_run (s : State) : (s.clearWatch).timebase.run = s.timebase.run := rfl
@[simp] theorem State.clearWatch_timebase_lockPending (s : State) : (s.clearWatch).timebase.lockPending = s.timebase.lockPending := rfl
@[simp] theorem State.clearWatch_timebase_history (s : State) : (s.clearWatch).timebase.history = s.timebase.history := rfl
@[simp] theorem State.clearWatch_timebase_holdoverCount (s : State) : (s.clearWatch).timebase.holdoverCount = s.timebase.holdoverCount := rfl
@[simp] theorem State.clearWatch_timebase_interval (s : State) : (s.clearWatch).timebase.interval = s.timebase.interval := rfl
@[simp] theorem State.clearWatch_timebase_flywheel (s : State) : (s.clearWatch).timebase.flywheel = s.timebase.flywheel := rfl
@[simp] theorem State.clearWatch_timebase_record (s : State) : (s.clearWatch).timebase.record = s.timebase.record := rfl
@[simp] theorem State.clearWatch_timebase_refTime (s : State) : (s.clearWatch).timebase.refTime = s.timebase.refTime := rfl
@[simp] theorem State.clearWatch_timebase_position (s : State) : (s.clearWatch).timebase.position = s.timebase.position := rfl
@[simp] theorem State.clearWatch_timebase_nextPoint (s : State) : (s.clearWatch).timebase.nextPoint = s.timebase.nextPoint := rfl
@[simp] theorem State.clearWatch_timebase_passPulses (s : State) : (s.clearWatch).timebase.passPulses = s.timebase.passPulses := rfl
@[simp] theorem State.clearWatch_timebase_advances (s : State) : (s.clearWatch).timebase.advances = s.timebase.advances := rfl
@[simp] theorem State.clearWatch_timebase_frameOffset (s : State) : (s.clearWatch).timebase.frameOffset = s.timebase.frameOffset := rfl
@[simp] theorem State.clearWatch_timebase_slips (s : State) : (s.clearWatch).timebase.slips = s.timebase.slips := rfl

/-! ### State.resetRun -/

@[simp] theorem State.resetRun_directory (s : State) : (s.resetRun).directory = s.directory := rfl
@[simp] theorem State.resetRun_pass (s : State) : (s.resetRun).pass = s.pass := rfl
@[simp] theorem State.resetRun_camera (s : State) : (s.resetRun).camera = s.camera := rfl
@[simp] theorem State.resetRun_recording (s : State) : (s.resetRun).recording = s.recording := rfl
@[simp] theorem State.resetRun_lineQueue (s : State) : (s.resetRun).lineQueue = s.lineQueue := rfl
@[simp] theorem State.resetRun_interpolator (s : State) : (s.resetRun).interpolator = s.interpolator := rfl
@[simp] theorem State.resetRun_memory (s : State) : (s.resetRun).memory = s.memory := rfl
@[simp] theorem State.resetRun_axes (s : State) : (s.resetRun).axes = s.axes := rfl
@[simp] theorem State.resetRun_writeInProcessing (s : State) : (s.resetRun).writeInProcessing = s.writeInProcessing := rfl
@[simp] theorem State.resetRun_witness (s : State) : (s.resetRun).witness = s.witness := rfl
@[simp] theorem State.resetRun_port (s : State) : (s.resetRun).port = s.port := rfl
@[simp] theorem State.resetRun_resetControl (s : State) : (s.resetRun).resetControl = s.resetControl := rfl
@[simp] theorem State.resetRun_lastUpstream (s : State) : (s.resetRun).lastUpstream = s.lastUpstream := rfl
@[simp] theorem State.resetRun_openOrders (s : State) : (s.resetRun).openOrders = s.openOrders := rfl
@[simp] theorem State.resetRun_due (s : State) : (s.resetRun).due = s.due := rfl
@[simp] theorem State.resetRun_pending (s : State) : (s.resetRun).pending = s.pending := rfl
@[simp] theorem State.resetRun_timebase_active (s : State) : (s.resetRun).timebase.active = s.timebase.active := rfl
@[simp] theorem State.resetRun_timebase_pending (s : State) : (s.resetRun).timebase.pending = s.timebase.pending := rfl
@[simp] theorem State.resetRun_timebase_lock (s : State) : (s.resetRun).timebase.lock = s.timebase.lock := rfl
@[simp] theorem State.resetRun_timebase_lockPending (s : State) : (s.resetRun).timebase.lockPending = s.timebase.lockPending := rfl
@[simp] theorem State.resetRun_timebase_history (s : State) : (s.resetRun).timebase.history = s.timebase.history := rfl
@[simp] theorem State.resetRun_timebase_holdoverCount (s : State) : (s.resetRun).timebase.holdoverCount = s.timebase.holdoverCount := rfl
@[simp] theorem State.resetRun_timebase_interval (s : State) : (s.resetRun).timebase.interval = s.timebase.interval := rfl
@[simp] theorem State.resetRun_timebase_flywheel (s : State) : (s.resetRun).timebase.flywheel = s.timebase.flywheel := rfl
@[simp] theorem State.resetRun_timebase_pulseNear (s : State) : (s.resetRun).timebase.pulseNear = s.timebase.pulseNear := rfl
@[simp] theorem State.resetRun_timebase_pulseBefore (s : State) : (s.resetRun).timebase.pulseBefore = s.timebase.pulseBefore := rfl
@[simp] theorem State.resetRun_timebase_record (s : State) : (s.resetRun).timebase.record = s.timebase.record := rfl
@[simp] theorem State.resetRun_timebase_refTime (s : State) : (s.resetRun).timebase.refTime = s.timebase.refTime := rfl
@[simp] theorem State.resetRun_timebase_position (s : State) : (s.resetRun).timebase.position = s.timebase.position := rfl
@[simp] theorem State.resetRun_timebase_nextPoint (s : State) : (s.resetRun).timebase.nextPoint = s.timebase.nextPoint := rfl
@[simp] theorem State.resetRun_timebase_passPulses (s : State) : (s.resetRun).timebase.passPulses = s.timebase.passPulses := rfl
@[simp] theorem State.resetRun_timebase_advances (s : State) : (s.resetRun).timebase.advances = s.timebase.advances := rfl
@[simp] theorem State.resetRun_timebase_frameOffset (s : State) : (s.resetRun).timebase.frameOffset = s.timebase.frameOffset := rfl
@[simp] theorem State.resetRun_timebase_slips (s : State) : (s.resetRun).timebase.slips = s.timebase.slips := rfl
@[simp] theorem State.resetRun_timebase_run (s : State) : (s.resetRun).timebase.run = 0 := rfl

/-! ### State.forgetResults -/

@[simp] theorem State.forgetResults_timebase (s : State) : (s.forgetResults).timebase = s.timebase := rfl
@[simp] theorem State.forgetResults_directory (s : State) : (s.forgetResults).directory = s.directory := rfl
@[simp] theorem State.forgetResults_pass (s : State) : (s.forgetResults).pass = s.pass := rfl
@[simp] theorem State.forgetResults_camera (s : State) : (s.forgetResults).camera = s.camera := rfl
@[simp] theorem State.forgetResults_recording (s : State) : (s.forgetResults).recording = s.recording := rfl
@[simp] theorem State.forgetResults_lineQueue (s : State) : (s.forgetResults).lineQueue = s.lineQueue := rfl
@[simp] theorem State.forgetResults_interpolator (s : State) : (s.forgetResults).interpolator = s.interpolator := rfl
@[simp] theorem State.forgetResults_memory (s : State) : (s.forgetResults).memory = s.memory := rfl
@[simp] theorem State.forgetResults_writeInProcessing (s : State) : (s.forgetResults).writeInProcessing = s.writeInProcessing := rfl
@[simp] theorem State.forgetResults_witness (s : State) : (s.forgetResults).witness = s.witness := rfl
@[simp] theorem State.forgetResults_port (s : State) : (s.forgetResults).port = s.port := rfl
@[simp] theorem State.forgetResults_resetControl (s : State) : (s.forgetResults).resetControl = s.resetControl := rfl
@[simp] theorem State.forgetResults_lastUpstream (s : State) : (s.forgetResults).lastUpstream = s.lastUpstream := rfl
@[simp] theorem State.forgetResults_openOrders (s : State) : (s.forgetResults).openOrders = s.openOrders := rfl
@[simp] theorem State.forgetResults_due (s : State) : (s.forgetResults).due = s.due := rfl
@[simp] theorem State.forgetResults_pending (s : State) : (s.forgetResults).pending = s.pending := rfl
@[simp] theorem State.forgetResults_axes (s : State) : (s.forgetResults).axes = s.axes.map fun ax => { ax with previousResult := none } := rfl

/-! ### State.activatePending -/

@[simp] theorem State.activatePending_timebase (s : State) : (s.activatePending).timebase = s.timebase := rfl
@[simp] theorem State.activatePending_directory (s : State) : (s.activatePending).directory = s.directory := rfl
@[simp] theorem State.activatePending_pass (s : State) : (s.activatePending).pass = s.pass := rfl
@[simp] theorem State.activatePending_camera (s : State) : (s.activatePending).camera = s.camera := rfl
@[simp] theorem State.activatePending_recording (s : State) : (s.activatePending).recording = s.recording := rfl
@[simp] theorem State.activatePending_lineQueue (s : State) : (s.activatePending).lineQueue = s.lineQueue := rfl
@[simp] theorem State.activatePending_interpolator (s : State) : (s.activatePending).interpolator = s.interpolator := rfl
@[simp] theorem State.activatePending_memory (s : State) : (s.activatePending).memory = s.memory := rfl
@[simp] theorem State.activatePending_writeInProcessing (s : State) : (s.activatePending).writeInProcessing = s.writeInProcessing := rfl
@[simp] theorem State.activatePending_witness (s : State) : (s.activatePending).witness = s.witness := rfl
@[simp] theorem State.activatePending_port (s : State) : (s.activatePending).port = s.port := rfl
@[simp] theorem State.activatePending_resetControl (s : State) : (s.activatePending).resetControl = s.resetControl := rfl
@[simp] theorem State.activatePending_lastUpstream (s : State) : (s.activatePending).lastUpstream = s.lastUpstream := rfl
@[simp] theorem State.activatePending_openOrders (s : State) : (s.activatePending).openOrders = s.openOrders := rfl
@[simp] theorem State.activatePending_due (s : State) : (s.activatePending).due = s.due := rfl
@[simp] theorem State.activatePending_pending (s : State) : (s.activatePending).pending = s.pending := rfl
@[simp] theorem State.activatePending_axes (s : State) : (s.activatePending).axes = s.axes.map Axis.activate := rfl

/-! ### State.emptyAccumulators -/

@[simp] theorem State.emptyAccumulators_timebase (s : State) : (s.emptyAccumulators).timebase = s.timebase := rfl
@[simp] theorem State.emptyAccumulators_directory (s : State) : (s.emptyAccumulators).directory = s.directory := rfl
@[simp] theorem State.emptyAccumulators_pass (s : State) : (s.emptyAccumulators).pass = s.pass := rfl
@[simp] theorem State.emptyAccumulators_camera (s : State) : (s.emptyAccumulators).camera = s.camera := rfl
@[simp] theorem State.emptyAccumulators_recording (s : State) : (s.emptyAccumulators).recording = s.recording := rfl
@[simp] theorem State.emptyAccumulators_lineQueue (s : State) : (s.emptyAccumulators).lineQueue = s.lineQueue := rfl
@[simp] theorem State.emptyAccumulators_interpolator (s : State) : (s.emptyAccumulators).interpolator = s.interpolator := rfl
@[simp] theorem State.emptyAccumulators_memory (s : State) : (s.emptyAccumulators).memory = s.memory := rfl
@[simp] theorem State.emptyAccumulators_axes (s : State) : (s.emptyAccumulators).axes = s.axes := rfl
@[simp] theorem State.emptyAccumulators_writeInProcessing (s : State) : (s.emptyAccumulators).writeInProcessing = s.writeInProcessing := rfl
@[simp] theorem State.emptyAccumulators_port (s : State) : (s.emptyAccumulators).port = s.port := rfl
@[simp] theorem State.emptyAccumulators_resetControl (s : State) : (s.emptyAccumulators).resetControl = s.resetControl := rfl
@[simp] theorem State.emptyAccumulators_lastUpstream (s : State) : (s.emptyAccumulators).lastUpstream = s.lastUpstream := rfl
@[simp] theorem State.emptyAccumulators_openOrders (s : State) : (s.emptyAccumulators).openOrders = s.openOrders := rfl
@[simp] theorem State.emptyAccumulators_due (s : State) : (s.emptyAccumulators).due = s.due := rfl
@[simp] theorem State.emptyAccumulators_pending (s : State) : (s.emptyAccumulators).pending = s.pending := rfl
@[simp] theorem State.emptyAccumulators_witness_frameStart (s : State) : (s.emptyAccumulators).witness.frameStart = s.witness.frameStart := rfl
@[simp] theorem State.emptyAccumulators_witness_log (s : State) : (s.emptyAccumulators).witness.log = s.witness.log := rfl
@[simp] theorem State.emptyAccumulators_witness_lost (s : State) : (s.emptyAccumulators).witness.lost = s.witness.lost := rfl
@[simp] theorem State.emptyAccumulators_witness_axes (s : State) : (s.emptyAccumulators).witness.axes = s.witness.axes.map WitnessAxis.emptyFrame := rfl

/-! ### State.clearAxisFlags -/

@[simp] theorem State.clearAxisFlags_timebase (s : State) (axes : AxisSet) : (s.clearAxisFlags axes).timebase = s.timebase := rfl
@[simp] theorem State.clearAxisFlags_directory (s : State) (axes : AxisSet) : (s.clearAxisFlags axes).directory = s.directory := rfl
@[simp] theorem State.clearAxisFlags_pass (s : State) (axes : AxisSet) : (s.clearAxisFlags axes).pass = s.pass := rfl
@[simp] theorem State.clearAxisFlags_camera (s : State) (axes : AxisSet) : (s.clearAxisFlags axes).camera = s.camera := rfl
@[simp] theorem State.clearAxisFlags_recording (s : State) (axes : AxisSet) : (s.clearAxisFlags axes).recording = s.recording := rfl
@[simp] theorem State.clearAxisFlags_lineQueue (s : State) (axes : AxisSet) : (s.clearAxisFlags axes).lineQueue = s.lineQueue := rfl
@[simp] theorem State.clearAxisFlags_interpolator (s : State) (axes : AxisSet) : (s.clearAxisFlags axes).interpolator = s.interpolator := rfl
@[simp] theorem State.clearAxisFlags_memory (s : State) (axes : AxisSet) : (s.clearAxisFlags axes).memory = s.memory := rfl
@[simp] theorem State.clearAxisFlags_writeInProcessing (s : State) (axes : AxisSet) : (s.clearAxisFlags axes).writeInProcessing = s.writeInProcessing := rfl
@[simp] theorem State.clearAxisFlags_witness (s : State) (axes : AxisSet) : (s.clearAxisFlags axes).witness = s.witness := rfl
@[simp] theorem State.clearAxisFlags_port (s : State) (axes : AxisSet) : (s.clearAxisFlags axes).port = s.port := rfl
@[simp] theorem State.clearAxisFlags_resetControl (s : State) (axes : AxisSet) : (s.clearAxisFlags axes).resetControl = s.resetControl := rfl
@[simp] theorem State.clearAxisFlags_lastUpstream (s : State) (axes : AxisSet) : (s.clearAxisFlags axes).lastUpstream = s.lastUpstream := rfl
@[simp] theorem State.clearAxisFlags_openOrders (s : State) (axes : AxisSet) : (s.clearAxisFlags axes).openOrders = s.openOrders := rfl
@[simp] theorem State.clearAxisFlags_due (s : State) (axes : AxisSet) : (s.clearAxisFlags axes).due = s.due := rfl
@[simp] theorem State.clearAxisFlags_pending (s : State) (axes : AxisSet) : (s.clearAxisFlags axes).pending = s.pending := rfl

/-! ### State.uncheckSources -/

@[simp] theorem State.uncheckSources_timebase (s : State) : (s.uncheckSources).timebase = s.timebase := rfl
@[simp] theorem State.uncheckSources_directory (s : State) : (s.uncheckSources).directory = s.directory := rfl
@[simp] theorem State.uncheckSources_pass (s : State) : (s.uncheckSources).pass = s.pass := rfl
@[simp] theorem State.uncheckSources_camera (s : State) : (s.uncheckSources).camera = s.camera := rfl
@[simp] theorem State.uncheckSources_recording (s : State) : (s.uncheckSources).recording = s.recording := rfl
@[simp] theorem State.uncheckSources_lineQueue (s : State) : (s.uncheckSources).lineQueue = s.lineQueue := rfl
@[simp] theorem State.uncheckSources_interpolator (s : State) : (s.uncheckSources).interpolator = s.interpolator := rfl
@[simp] theorem State.uncheckSources_memory (s : State) : (s.uncheckSources).memory = s.memory := rfl
@[simp] theorem State.uncheckSources_axes (s : State) : (s.uncheckSources).axes = s.axes := rfl
@[simp] theorem State.uncheckSources_writeInProcessing (s : State) : (s.uncheckSources).writeInProcessing = s.writeInProcessing := rfl
@[simp] theorem State.uncheckSources_port (s : State) : (s.uncheckSources).port = s.port := rfl
@[simp] theorem State.uncheckSources_resetControl (s : State) : (s.uncheckSources).resetControl = s.resetControl := rfl
@[simp] theorem State.uncheckSources_lastUpstream (s : State) : (s.uncheckSources).lastUpstream = s.lastUpstream := rfl
@[simp] theorem State.uncheckSources_openOrders (s : State) : (s.uncheckSources).openOrders = s.openOrders := rfl
@[simp] theorem State.uncheckSources_due (s : State) : (s.uncheckSources).due = s.due := rfl
@[simp] theorem State.uncheckSources_pending (s : State) : (s.uncheckSources).pending = s.pending := rfl
@[simp] theorem State.uncheckSources_witness_frameStart (s : State) : (s.uncheckSources).witness.frameStart = s.witness.frameStart := rfl
@[simp] theorem State.uncheckSources_witness_log (s : State) : (s.uncheckSources).witness.log = s.witness.log := rfl
@[simp] theorem State.uncheckSources_witness_lost (s : State) : (s.uncheckSources).witness.lost = s.witness.lost := rfl

@[simp] theorem Directory.setEntry_frame (d : Directory) (t : Nat) (e : Option TakeEntry) :
    (d.setEntry t e).regionBase = d.regionBase ∧ (d.setEntry t e).regionSize = d.regionSize
      ∧ (d.setEntry t e).verifyOrder = d.verifyOrder ∧ (d.setEntry t e).verifyCursor = d.verifyCursor := by
  unfold Directory.setEntry
  split <;> simp

/-! ### State.deliverLater -/

@[simp] theorem State.deliverLater_timebase (s : State) (d : Delivery) : (s.deliverLater d).timebase = s.timebase := rfl
@[simp] theorem State.deliverLater_directory (s : State) (d : Delivery) : (s.deliverLater d).directory = s.directory := rfl
@[simp] theorem State.deliverLater_pass (s : State) (d : Delivery) : (s.deliverLater d).pass = s.pass := rfl
@[simp] theorem State.deliverLater_camera (s : State) (d : Delivery) : (s.deliverLater d).camera = s.camera := rfl
@[simp] theorem State.deliverLater_recording (s : State) (d : Delivery) : (s.deliverLater d).recording = s.recording := rfl
@[simp] theorem State.deliverLater_lineQueue (s : State) (d : Delivery) : (s.deliverLater d).lineQueue = s.lineQueue := rfl
@[simp] theorem State.deliverLater_interpolator (s : State) (d : Delivery) : (s.deliverLater d).interpolator = s.interpolator := rfl
@[simp] theorem State.deliverLater_memory (s : State) (d : Delivery) : (s.deliverLater d).memory = s.memory := rfl
@[simp] theorem State.deliverLater_axes (s : State) (d : Delivery) : (s.deliverLater d).axes = s.axes := rfl
@[simp] theorem State.deliverLater_writeInProcessing (s : State) (d : Delivery) : (s.deliverLater d).writeInProcessing = s.writeInProcessing := rfl
@[simp] theorem State.deliverLater_witness (s : State) (d : Delivery) : (s.deliverLater d).witness = s.witness := rfl
@[simp] theorem State.deliverLater_port (s : State) (d : Delivery) : (s.deliverLater d).port = s.port := rfl
@[simp] theorem State.deliverLater_resetControl (s : State) (d : Delivery) : (s.deliverLater d).resetControl = s.resetControl := rfl
@[simp] theorem State.deliverLater_due (s : State) (d : Delivery) : (s.deliverLater d).due = s.due ++ [d] := rfl
@[simp] theorem State.deliverLater_lastUpstream (s : State) (d : Delivery) : (s.deliverLater d).lastUpstream = s.lastUpstream := rfl
@[simp] theorem State.deliverLater_openOrders (s : State) (d : Delivery) : (s.deliverLater d).openOrders = s.openOrders := rfl
@[simp] theorem State.deliverLater_pending (s : State) (d : Delivery) : (s.deliverLater d).pending = s.pending := rfl

/-! ### State.withDeclared -/

@[simp] theorem State.withDeclared_timebase (s : State) (w : Byte) : (s.withDeclared w).timebase = s.timebase := rfl
@[simp] theorem State.withDeclared_directory (s : State) (w : Byte) : (s.withDeclared w).directory = s.directory := rfl
@[simp] theorem State.withDeclared_pass (s : State) (w : Byte) : (s.withDeclared w).pass = s.pass := rfl
@[simp] theorem State.withDeclared_camera (s : State) (w : Byte) : (s.withDeclared w).camera = { s.camera with declared := w } := rfl
@[simp] theorem State.withDeclared_recording (s : State) (w : Byte) : (s.withDeclared w).recording = s.recording := rfl
@[simp] theorem State.withDeclared_lineQueue (s : State) (w : Byte) : (s.withDeclared w).lineQueue = s.lineQueue := rfl
@[simp] theorem State.withDeclared_interpolator (s : State) (w : Byte) : (s.withDeclared w).interpolator = s.interpolator := rfl
@[simp] theorem State.withDeclared_memory (s : State) (w : Byte) : (s.withDeclared w).memory = s.memory := rfl
@[simp] theorem State.withDeclared_axes (s : State) (w : Byte) : (s.withDeclared w).axes = s.axes := rfl
@[simp] theorem State.withDeclared_writeInProcessing (s : State) (w : Byte) : (s.withDeclared w).writeInProcessing = s.writeInProcessing := rfl
@[simp] theorem State.withDeclared_witness (s : State) (w : Byte) : (s.withDeclared w).witness = s.witness := rfl
@[simp] theorem State.withDeclared_port (s : State) (w : Byte) : (s.withDeclared w).port = s.port := rfl
@[simp] theorem State.withDeclared_resetControl (s : State) (w : Byte) : (s.withDeclared w).resetControl = s.resetControl := rfl
@[simp] theorem State.withDeclared_due (s : State) (w : Byte) : (s.withDeclared w).due = s.due := rfl
@[simp] theorem State.withDeclared_lastUpstream (s : State) (w : Byte) : (s.withDeclared w).lastUpstream = s.lastUpstream := rfl
@[simp] theorem State.withDeclared_openOrders (s : State) (w : Byte) : (s.withDeclared w).openOrders = s.openOrders := rfl
@[simp] theorem State.withDeclared_pending (s : State) (w : Byte) : (s.withDeclared w).pending = s.pending := rfl

end Sys2Proof.Machine
end

