-- ==== Sys2Proof/Laws/Frames.lean ====
section
/-! SUPPORT. For each shared operation one lemma that says which fields it leaves as they were. -/

namespace Sys2Proof.Machine

@[simp] theorem State.followLog_frame (s : State) :
    (s.followLog).timebase = s.timebase ∧ (s.followLog).directory = s.directory ∧ (s.followLog).pass = s.pass ∧
    (s.followLog).camera = s.camera ∧ (s.followLog).recording = s.recording ∧ (s.followLog).lineQueue = s.lineQueue
    ∧ (s.followLog).interpolator = s.interpolator ∧ (s.followLog).memory = s.memory ∧ (s.followLog).axes = s.axes ∧
    (s.followLog).writeInProcessing = s.writeInProcessing ∧ (s.followLog).witness = s.witness ∧
    (s.followLog).resetControl = s.resetControl ∧ (s.followLog).lastUpstream = s.lastUpstream ∧
    (s.followLog).openOrders = s.openOrders ∧ (s.followLog).due = s.due ∧ (s.followLog).pending = s.pending ∧
    (s.followLog).port.phase = s.port.phase ∧ (s.followLog).port.code = s.port.code ∧ (s.followLog).port.length =
    s.port.length ∧ (s.followLog).port.args = s.port.args ∧ (s.followLog).port.incoming = s.port.incoming ∧
    (s.followLog).port.response = s.port.response ∧ (s.followLog).port.resetPending = s.port.resetPending ∧
    (s.followLog).port.mask = s.port.mask ∧ (s.followLog).port.resetCause = s.port.resetCause ∧
    (s.followLog).port.powerSeen = s.port.powerSeen ∧ (s.followLog).port.selectHigh = s.port.selectHigh := by
  unfold State.followLog
  split <;> simp

@[simp] theorem State.report_frame (s : State) (f : Summary → Summary) :
    (s.report f).timebase = s.timebase ∧ (s.report f).directory = s.directory ∧ (s.report f).camera = s.camera ∧
    (s.report f).recording = s.recording ∧ (s.report f).lineQueue = s.lineQueue ∧ (s.report f).interpolator =
    s.interpolator ∧ (s.report f).memory = s.memory ∧ (s.report f).axes = s.axes ∧ (s.report f).writeInProcessing =
    s.writeInProcessing ∧ (s.report f).witness = s.witness ∧ (s.report f).port = s.port ∧ (s.report f).resetControl
    = s.resetControl ∧ (s.report f).lastUpstream = s.lastUpstream ∧ (s.report f).openOrders = s.openOrders ∧
    (s.report f).due = s.due ∧ (s.report f).pending = s.pending ∧ (s.report f).pass.state = s.pass.state ∧ (s.report
    f).pass.context = s.pass.context ∧ (s.report f).pass.pending = s.pass.pending ∧ (s.report f).pass.preroll =
    s.pass.preroll ∧ (s.report f).pass.hasRun = s.pass.hasRun := by
  unfold State.report
  split <;> simp

@[simp] theorem State.onEntry_frame (s : State) (t : Nat) (f : TakeEntry → TakeEntry) :
    (s.onEntry t f).timebase = s.timebase ∧ (s.onEntry t f).pass = s.pass ∧ (s.onEntry t f).camera = s.camera ∧
    (s.onEntry t f).recording = s.recording ∧ (s.onEntry t f).lineQueue = s.lineQueue ∧ (s.onEntry t f).interpolator
    = s.interpolator ∧ (s.onEntry t f).memory = s.memory ∧ (s.onEntry t f).axes = s.axes ∧ (s.onEntry t
    f).writeInProcessing = s.writeInProcessing ∧ (s.onEntry t f).witness = s.witness ∧ (s.onEntry t f).port = s.port
    ∧ (s.onEntry t f).resetControl = s.resetControl ∧ (s.onEntry t f).lastUpstream = s.lastUpstream ∧ (s.onEntry t
    f).openOrders = s.openOrders ∧ (s.onEntry t f).due = s.due ∧ (s.onEntry t f).pending = s.pending ∧ (s.onEntry t
    f).directory.regionBase = s.directory.regionBase ∧ (s.onEntry t f).directory.regionSize = s.directory.regionSize
    ∧ (s.onEntry t f).directory.verifyOrder = s.directory.verifyOrder ∧ (s.onEntry t f).directory.verifyCursor =
    s.directory.verifyCursor := by
  simp [State.onEntry]

@[simp] theorem State.setPass_frame (s : State) (p : PassState) :
    (s.setPass p).timebase = s.timebase ∧ (s.setPass p).directory = s.directory ∧ (s.setPass p).camera = s.camera ∧
    (s.setPass p).recording = s.recording ∧ (s.setPass p).lineQueue = s.lineQueue ∧ (s.setPass p).interpolator =
    s.interpolator ∧ (s.setPass p).memory = s.memory ∧ (s.setPass p).axes = s.axes ∧ (s.setPass p).writeInProcessing
    = s.writeInProcessing ∧ (s.setPass p).witness = s.witness ∧ (s.setPass p).resetControl = s.resetControl ∧
    (s.setPass p).lastUpstream = s.lastUpstream ∧ (s.setPass p).openOrders = s.openOrders ∧ (s.setPass p).due =
    s.due ∧ (s.setPass p).pending = s.pending ∧ (s.setPass p).pass.context = s.pass.context ∧ (s.setPass
    p).pass.pending = s.pass.pending ∧ (s.setPass p).pass.preroll = s.pass.preroll ∧ (s.setPass p).pass.hasRun =
    s.pass.hasRun ∧ (s.setPass p).pass.summary = s.pass.summary ∧ (s.setPass p).port.phase = s.port.phase ∧
    (s.setPass p).port.code = s.port.code ∧ (s.setPass p).port.length = s.port.length ∧ (s.setPass p).port.args =
    s.port.args ∧ (s.setPass p).port.incoming = s.port.incoming ∧ (s.setPass p).port.response = s.port.response ∧
    (s.setPass p).port.resetPending = s.port.resetPending ∧ (s.setPass p).port.mask = s.port.mask ∧ (s.setPass
    p).port.resetCause = s.port.resetCause ∧ (s.setPass p).port.powerSeen = s.port.powerSeen ∧ (s.setPass
    p).port.selectHigh = s.port.selectHigh := by
  unfold State.setPass
  split <;> simp

@[simp] theorem State.finishRecording_frame (s : State) (truncated : Bool) :
    (s.finishRecording truncated).timebase = s.timebase ∧ (s.finishRecording truncated).pass = s.pass ∧
    (s.finishRecording truncated).camera = s.camera ∧ (s.finishRecording truncated).recording = s.recording ∧
    (s.finishRecording truncated).lineQueue = s.lineQueue ∧ (s.finishRecording truncated).interpolator =
    s.interpolator ∧ (s.finishRecording truncated).memory = s.memory ∧ (s.finishRecording truncated).axes = s.axes ∧
    (s.finishRecording truncated).writeInProcessing = s.writeInProcessing ∧ (s.finishRecording truncated).witness =
    s.witness ∧ (s.finishRecording truncated).port = s.port ∧ (s.finishRecording truncated).resetControl =
    s.resetControl ∧ (s.finishRecording truncated).lastUpstream = s.lastUpstream ∧ (s.finishRecording
    truncated).openOrders = s.openOrders ∧ (s.finishRecording truncated).due = s.due ∧ (s.finishRecording
    truncated).pending = s.pending ∧ (s.finishRecording truncated).directory.regionBase = s.directory.regionBase ∧
    (s.finishRecording truncated).directory.regionSize = s.directory.regionSize ∧ (s.finishRecording
    truncated).directory.verifyOrder = s.directory.verifyOrder ∧ (s.finishRecording
    truncated).directory.verifyCursor = s.directory.verifyCursor := by
  unfold State.finishRecording
  (repeat' split)
  all_goals simp

@[simp] theorem State.verifyAppend_frame (s : State) (t : Nat) :
    (s.verifyAppend t).timebase = s.timebase ∧ (s.verifyAppend t).pass = s.pass ∧ (s.verifyAppend t).camera =
    s.camera ∧ (s.verifyAppend t).recording = s.recording ∧ (s.verifyAppend t).lineQueue = s.lineQueue ∧
    (s.verifyAppend t).interpolator = s.interpolator ∧ (s.verifyAppend t).memory = s.memory ∧ (s.verifyAppend
    t).axes = s.axes ∧ (s.verifyAppend t).writeInProcessing = s.writeInProcessing ∧ (s.verifyAppend t).witness =
    s.witness ∧ (s.verifyAppend t).port = s.port ∧ (s.verifyAppend t).resetControl = s.resetControl ∧
    (s.verifyAppend t).lastUpstream = s.lastUpstream ∧ (s.verifyAppend t).openOrders = s.openOrders ∧
    (s.verifyAppend t).due = s.due ∧ (s.verifyAppend t).pending = s.pending ∧ (s.verifyAppend
    t).directory.regionBase = s.directory.regionBase ∧ (s.verifyAppend t).directory.regionSize =
    s.directory.regionSize ∧ (s.verifyAppend t).directory.entries = s.directory.entries := by
  simp [State.verifyAppend]

@[simp] theorem State.verifyRemove_frame (s : State) (t : Nat) :
    (s.verifyRemove t).timebase = s.timebase ∧ (s.verifyRemove t).pass = s.pass ∧ (s.verifyRemove t).camera =
    s.camera ∧ (s.verifyRemove t).recording = s.recording ∧ (s.verifyRemove t).lineQueue = s.lineQueue ∧
    (s.verifyRemove t).interpolator = s.interpolator ∧ (s.verifyRemove t).axes = s.axes ∧ (s.verifyRemove
    t).writeInProcessing = s.writeInProcessing ∧ (s.verifyRemove t).witness = s.witness ∧ (s.verifyRemove t).port =
    s.port ∧ (s.verifyRemove t).resetControl = s.resetControl ∧ (s.verifyRemove t).lastUpstream = s.lastUpstream ∧
    (s.verifyRemove t).openOrders = s.openOrders ∧ (s.verifyRemove t).due = s.due ∧ (s.verifyRemove t).pending =
    s.pending ∧ (s.verifyRemove t).directory.regionBase = s.directory.regionBase ∧ (s.verifyRemove
    t).directory.regionSize = s.directory.regionSize ∧ (s.verifyRemove t).directory.entries = s.directory.entries ∧
    (s.verifyRemove t).memory.upstream = s.memory.upstream ∧ (s.verifyRemove t).memory.urgentRun =
    s.memory.urgentRun ∧ (s.verifyRemove t).memory.blockedAddress = s.memory.blockedAddress ∧ (s.verifyRemove
    t).memory.protectBlocks = s.memory.protectBlocks ∧ (s.verifyRemove t).memory.partialBlocks =
    s.memory.partialBlocks := by
  unfold State.verifyRemove
  split <;> simp

@[simp] theorem State.verifyEnd_frame (s : State) (t : Nat) (f : TakeEntry → TakeEntry) :
    (s.verifyEnd t f).timebase = s.timebase ∧ (s.verifyEnd t f).pass = s.pass ∧ (s.verifyEnd t f).camera = s.camera
    ∧ (s.verifyEnd t f).recording = s.recording ∧ (s.verifyEnd t f).lineQueue = s.lineQueue ∧ (s.verifyEnd t
    f).interpolator = s.interpolator ∧ (s.verifyEnd t f).memory = s.memory ∧ (s.verifyEnd t f).axes = s.axes ∧
    (s.verifyEnd t f).writeInProcessing = s.writeInProcessing ∧ (s.verifyEnd t f).witness = s.witness ∧ (s.verifyEnd
    t f).resetControl = s.resetControl ∧ (s.verifyEnd t f).lastUpstream = s.lastUpstream ∧ (s.verifyEnd t
    f).openOrders = s.openOrders ∧ (s.verifyEnd t f).due = s.due ∧ (s.verifyEnd t f).pending = s.pending ∧
    (s.verifyEnd t f).directory.regionBase = s.directory.regionBase ∧ (s.verifyEnd t f).directory.regionSize =
    s.directory.regionSize ∧ (s.verifyEnd t f).port.phase = s.port.phase ∧ (s.verifyEnd t f).port.code = s.port.code
    ∧ (s.verifyEnd t f).port.length = s.port.length ∧ (s.verifyEnd t f).port.args = s.port.args ∧ (s.verifyEnd t
    f).port.incoming = s.port.incoming ∧ (s.verifyEnd t f).port.response = s.port.response ∧ (s.verifyEnd t
    f).port.resetPending = s.port.resetPending ∧ (s.verifyEnd t f).port.mask = s.port.mask ∧ (s.verifyEnd t
    f).port.resetCause = s.port.resetCause ∧ (s.verifyEnd t f).port.powerSeen = s.port.powerSeen ∧ (s.verifyEnd t
    f).port.selectHigh = s.port.selectHigh := by
  simp [State.verifyEnd]

@[simp] theorem State.verifyReadComplete_frame (s : State) (tag : Word) :
    (s.verifyReadComplete tag).timebase = s.timebase ∧ (s.verifyReadComplete tag).pass = s.pass ∧
    (s.verifyReadComplete tag).camera = s.camera ∧ (s.verifyReadComplete tag).recording = s.recording ∧
    (s.verifyReadComplete tag).lineQueue = s.lineQueue ∧ (s.verifyReadComplete tag).interpolator = s.interpolator ∧
    (s.verifyReadComplete tag).memory = s.memory ∧ (s.verifyReadComplete tag).axes = s.axes ∧ (s.verifyReadComplete
    tag).writeInProcessing = s.writeInProcessing ∧ (s.verifyReadComplete tag).witness = s.witness ∧
    (s.verifyReadComplete tag).resetControl = s.resetControl ∧ (s.verifyReadComplete tag).lastUpstream =
    s.lastUpstream ∧ (s.verifyReadComplete tag).openOrders = s.openOrders ∧ (s.verifyReadComplete tag).due = s.due ∧
    (s.verifyReadComplete tag).pending = s.pending ∧ (s.verifyReadComplete tag).directory.regionBase =
    s.directory.regionBase ∧ (s.verifyReadComplete tag).directory.regionSize = s.directory.regionSize ∧
    (s.verifyReadComplete tag).port.phase = s.port.phase ∧ (s.verifyReadComplete tag).port.code = s.port.code ∧
    (s.verifyReadComplete tag).port.length = s.port.length ∧ (s.verifyReadComplete tag).port.args = s.port.args ∧
    (s.verifyReadComplete tag).port.incoming = s.port.incoming ∧ (s.verifyReadComplete tag).port.response =
    s.port.response ∧ (s.verifyReadComplete tag).port.resetPending = s.port.resetPending ∧ (s.verifyReadComplete
    tag).port.mask = s.port.mask ∧ (s.verifyReadComplete tag).port.resetCause = s.port.resetCause ∧
    (s.verifyReadComplete tag).port.powerSeen = s.port.powerSeen ∧ (s.verifyReadComplete tag).port.selectHigh =
    s.port.selectHigh := by
  unfold State.verifyReadComplete
  (repeat' split)
  all_goals simp

@[simp] theorem State.setOutcome_frame (s : State) (o : PassOutcome) :
    (s.setOutcome o).timebase = s.timebase ∧ (s.setOutcome o).directory = s.directory ∧ (s.setOutcome o).camera =
    s.camera ∧ (s.setOutcome o).recording = s.recording ∧ (s.setOutcome o).lineQueue = s.lineQueue ∧ (s.setOutcome
    o).interpolator = s.interpolator ∧ (s.setOutcome o).memory = s.memory ∧ (s.setOutcome o).axes = s.axes ∧
    (s.setOutcome o).writeInProcessing = s.writeInProcessing ∧ (s.setOutcome o).witness = s.witness ∧ (s.setOutcome
    o).port = s.port ∧ (s.setOutcome o).resetControl = s.resetControl ∧ (s.setOutcome o).lastUpstream =
    s.lastUpstream ∧ (s.setOutcome o).openOrders = s.openOrders ∧ (s.setOutcome o).due = s.due ∧ (s.setOutcome
    o).pending = s.pending ∧ (s.setOutcome o).pass.state = s.pass.state ∧ (s.setOutcome o).pass.context =
    s.pass.context ∧ (s.setOutcome o).pass.pending = s.pass.pending ∧ (s.setOutcome o).pass.preroll = s.pass.preroll
    ∧ (s.setOutcome o).pass.hasRun = s.pass.hasRun := by
  simp [State.setOutcome]

@[simp] theorem State.countReplay_frame (s : State) (o : PassOutcome) :
    (s.countReplay o).timebase = s.timebase ∧ (s.countReplay o).pass = s.pass ∧ (s.countReplay o).camera = s.camera
    ∧ (s.countReplay o).recording = s.recording ∧ (s.countReplay o).lineQueue = s.lineQueue ∧ (s.countReplay
    o).interpolator = s.interpolator ∧ (s.countReplay o).memory = s.memory ∧ (s.countReplay o).axes = s.axes ∧
    (s.countReplay o).writeInProcessing = s.writeInProcessing ∧ (s.countReplay o).witness = s.witness ∧
    (s.countReplay o).port = s.port ∧ (s.countReplay o).resetControl = s.resetControl ∧ (s.countReplay
    o).lastUpstream = s.lastUpstream ∧ (s.countReplay o).openOrders = s.openOrders ∧ (s.countReplay o).due = s.due ∧
    (s.countReplay o).pending = s.pending ∧ (s.countReplay o).directory.regionBase = s.directory.regionBase ∧
    (s.countReplay o).directory.regionSize = s.directory.regionSize ∧ (s.countReplay o).directory.verifyOrder =
    s.directory.verifyOrder ∧ (s.countReplay o).directory.verifyCursor = s.directory.verifyCursor := by
  unfold State.countReplay
  split
  · split <;> simp
  · simp

@[simp] theorem State.endPass_frame (s : State) (o : PassOutcome) :
    (s.endPass o).timebase = s.timebase ∧ (s.endPass o).camera = s.camera ∧ (s.endPass o).recording = s.recording ∧
    (s.endPass o).lineQueue = s.lineQueue ∧ (s.endPass o).interpolator = s.interpolator ∧ (s.endPass o).memory =
    s.memory ∧ (s.endPass o).axes = s.axes ∧ (s.endPass o).writeInProcessing = s.writeInProcessing ∧ (s.endPass
    o).witness = s.witness ∧ (s.endPass o).resetControl = s.resetControl ∧ (s.endPass o).lastUpstream =
    s.lastUpstream ∧ (s.endPass o).openOrders = s.openOrders ∧ (s.endPass o).due = s.due ∧ (s.endPass o).pending =
    s.pending ∧ (s.endPass o).directory.regionBase = s.directory.regionBase ∧ (s.endPass o).directory.regionSize =
    s.directory.regionSize ∧ (s.endPass o).directory.verifyOrder = s.directory.verifyOrder ∧ (s.endPass
    o).directory.verifyCursor = s.directory.verifyCursor ∧ (s.endPass o).pass.context = s.pass.context ∧ (s.endPass
    o).pass.preroll = s.pass.preroll ∧ (s.endPass o).pass.hasRun = s.pass.hasRun ∧ (s.endPass o).port.phase =
    s.port.phase ∧ (s.endPass o).port.code = s.port.code ∧ (s.endPass o).port.length = s.port.length ∧ (s.endPass
    o).port.args = s.port.args ∧ (s.endPass o).port.incoming = s.port.incoming ∧ (s.endPass o).port.response =
    s.port.response ∧ (s.endPass o).port.resetPending = s.port.resetPending ∧ (s.endPass o).port.mask = s.port.mask
    ∧ (s.endPass o).port.resetCause = s.port.resetCause ∧ (s.endPass o).port.powerSeen = s.port.powerSeen ∧
    (s.endPass o).port.selectHigh = s.port.selectHigh := by
  unfold State.endPass
  dsimp only
  (repeat' split)
  all_goals simp

@[simp] theorem State.reportCaptureEnd_frame (s : State) (o : PassOutcome) (p : Nat) :
    (s.reportCaptureEnd o p).camera = s.camera ∧ (s.reportCaptureEnd o p).recording = s.recording ∧
    (s.reportCaptureEnd o p).lineQueue = s.lineQueue ∧ (s.reportCaptureEnd o p).interpolator = s.interpolator ∧
    (s.reportCaptureEnd o p).memory = s.memory ∧ (s.reportCaptureEnd o p).axes = s.axes ∧ (s.reportCaptureEnd o
    p).writeInProcessing = s.writeInProcessing ∧ (s.reportCaptureEnd o p).witness = s.witness ∧ (s.reportCaptureEnd
    o p).resetControl = s.resetControl ∧ (s.reportCaptureEnd o p).lastUpstream = s.lastUpstream ∧
    (s.reportCaptureEnd o p).openOrders = s.openOrders ∧ (s.reportCaptureEnd o p).due = s.due ∧ (s.reportCaptureEnd
    o p).pending = s.pending ∧ (s.reportCaptureEnd o p).timebase.active = s.timebase.active ∧ (s.reportCaptureEnd o
    p).timebase.pending = s.timebase.pending ∧ (s.reportCaptureEnd o p).timebase.lock = s.timebase.lock ∧
    (s.reportCaptureEnd o p).timebase.run = s.timebase.run ∧ (s.reportCaptureEnd o p).timebase.lockPending =
    s.timebase.lockPending ∧ (s.reportCaptureEnd o p).timebase.history = s.timebase.history ∧ (s.reportCaptureEnd o
    p).timebase.holdoverCount = s.timebase.holdoverCount ∧ (s.reportCaptureEnd o p).timebase.interval =
    s.timebase.interval ∧ (s.reportCaptureEnd o p).timebase.flywheel = s.timebase.flywheel ∧ (s.reportCaptureEnd o
    p).timebase.watching = s.timebase.watching ∧ (s.reportCaptureEnd o p).timebase.pulseNear = s.timebase.pulseNear
    ∧ (s.reportCaptureEnd o p).timebase.pulseBefore = s.timebase.pulseBefore ∧ (s.reportCaptureEnd o
    p).timebase.record = s.timebase.record ∧ (s.reportCaptureEnd o p).timebase.refTime = s.timebase.refTime ∧
    (s.reportCaptureEnd o p).timebase.nextPoint = s.timebase.nextPoint ∧ (s.reportCaptureEnd o
    p).timebase.passPulses = s.timebase.passPulses ∧ (s.reportCaptureEnd o p).timebase.advances =
    s.timebase.advances ∧ (s.reportCaptureEnd o p).timebase.frameOffset = s.timebase.frameOffset ∧
    (s.reportCaptureEnd o p).timebase.slips = s.timebase.slips ∧ (s.reportCaptureEnd o p).directory.regionBase =
    s.directory.regionBase ∧ (s.reportCaptureEnd o p).directory.regionSize = s.directory.regionSize ∧
    (s.reportCaptureEnd o p).directory.verifyOrder = s.directory.verifyOrder ∧ (s.reportCaptureEnd o
    p).directory.verifyCursor = s.directory.verifyCursor ∧ (s.reportCaptureEnd o p).pass.context = s.pass.context ∧
    (s.reportCaptureEnd o p).pass.preroll = s.pass.preroll ∧ (s.reportCaptureEnd o p).pass.hasRun = s.pass.hasRun ∧
    (s.reportCaptureEnd o p).port.phase = s.port.phase ∧ (s.reportCaptureEnd o p).port.code = s.port.code ∧
    (s.reportCaptureEnd o p).port.length = s.port.length ∧ (s.reportCaptureEnd o p).port.args = s.port.args ∧
    (s.reportCaptureEnd o p).port.incoming = s.port.incoming ∧ (s.reportCaptureEnd o p).port.response =
    s.port.response ∧ (s.reportCaptureEnd o p).port.resetPending = s.port.resetPending ∧ (s.reportCaptureEnd o
    p).port.mask = s.port.mask ∧ (s.reportCaptureEnd o p).port.resetCause = s.port.resetCause ∧ (s.reportCaptureEnd
    o p).port.powerSeen = s.port.powerSeen ∧ (s.reportCaptureEnd o p).port.selectHigh = s.port.selectHigh := by
  unfold State.reportCaptureEnd
  split <;> simp

@[simp] theorem State.drainCheck_frame (s : State) :
    (s.drainCheck).timebase = s.timebase ∧ (s.drainCheck).camera = s.camera ∧ (s.drainCheck).recording = s.recording
    ∧ (s.drainCheck).lineQueue = s.lineQueue ∧ (s.drainCheck).interpolator = s.interpolator ∧ (s.drainCheck).memory
    = s.memory ∧ (s.drainCheck).axes = s.axes ∧ (s.drainCheck).writeInProcessing = s.writeInProcessing ∧
    (s.drainCheck).witness = s.witness ∧ (s.drainCheck).resetControl = s.resetControl ∧ (s.drainCheck).lastUpstream
    = s.lastUpstream ∧ (s.drainCheck).openOrders = s.openOrders ∧ (s.drainCheck).due = s.due ∧
    (s.drainCheck).pending = s.pending ∧ (s.drainCheck).directory.regionBase = s.directory.regionBase ∧
    (s.drainCheck).directory.regionSize = s.directory.regionSize ∧ (s.drainCheck).directory.verifyOrder =
    s.directory.verifyOrder ∧ (s.drainCheck).directory.verifyCursor = s.directory.verifyCursor ∧
    (s.drainCheck).pass.context = s.pass.context ∧ (s.drainCheck).pass.pending = s.pass.pending ∧
    (s.drainCheck).pass.preroll = s.pass.preroll ∧ (s.drainCheck).pass.hasRun = s.pass.hasRun ∧
    (s.drainCheck).pass.summary = s.pass.summary ∧ (s.drainCheck).port.phase = s.port.phase ∧
    (s.drainCheck).port.code = s.port.code ∧ (s.drainCheck).port.length = s.port.length ∧ (s.drainCheck).port.args =
    s.port.args ∧ (s.drainCheck).port.incoming = s.port.incoming ∧ (s.drainCheck).port.response = s.port.response ∧
    (s.drainCheck).port.resetPending = s.port.resetPending ∧ (s.drainCheck).port.mask = s.port.mask ∧
    (s.drainCheck).port.resetCause = s.port.resetCause ∧ (s.drainCheck).port.powerSeen = s.port.powerSeen ∧
    (s.drainCheck).port.selectHigh = s.port.selectHigh := by
  unfold State.drainCheck
  split <;> simp

@[simp] theorem State.drainReport_frame (s : State) (late : Bool) :
    (s.drainReport late).timebase = s.timebase ∧ (s.drainReport late).camera = s.camera ∧ (s.drainReport
    late).recording = s.recording ∧ (s.drainReport late).lineQueue = s.lineQueue ∧ (s.drainReport late).interpolator
    = s.interpolator ∧ (s.drainReport late).memory = s.memory ∧ (s.drainReport late).axes = s.axes ∧ (s.drainReport
    late).writeInProcessing = s.writeInProcessing ∧ (s.drainReport late).witness = s.witness ∧ (s.drainReport
    late).resetControl = s.resetControl ∧ (s.drainReport late).lastUpstream = s.lastUpstream ∧ (s.drainReport
    late).openOrders = s.openOrders ∧ (s.drainReport late).pending = s.pending ∧ (s.drainReport
    late).directory.regionBase = s.directory.regionBase ∧ (s.drainReport late).directory.regionSize =
    s.directory.regionSize ∧ (s.drainReport late).directory.verifyOrder = s.directory.verifyOrder ∧ (s.drainReport
    late).directory.verifyCursor = s.directory.verifyCursor ∧ (s.drainReport late).pass.context = s.pass.context ∧
    (s.drainReport late).pass.pending = s.pass.pending ∧ (s.drainReport late).pass.preroll = s.pass.preroll ∧
    (s.drainReport late).pass.hasRun = s.pass.hasRun ∧ (s.drainReport late).pass.summary = s.pass.summary ∧
    (s.drainReport late).port.phase = s.port.phase ∧ (s.drainReport late).port.code = s.port.code ∧ (s.drainReport
    late).port.length = s.port.length ∧ (s.drainReport late).port.args = s.port.args ∧ (s.drainReport
    late).port.incoming = s.port.incoming ∧ (s.drainReport late).port.response = s.port.response ∧ (s.drainReport
    late).port.resetPending = s.port.resetPending ∧ (s.drainReport late).port.mask = s.port.mask ∧ (s.drainReport
    late).port.resetCause = s.port.resetCause ∧ (s.drainReport late).port.powerSeen = s.port.powerSeen ∧
    (s.drainReport late).port.selectHigh = s.port.selectHigh := by
  unfold State.drainReport
  (repeat' split)
  all_goals simp

@[simp] theorem State.clearMarkers_frame (s : State) (axes : List Nat) :
    (s.clearMarkers axes).timebase = s.timebase ∧ (s.clearMarkers axes).directory = s.directory ∧ (s.clearMarkers
    axes).pass = s.pass ∧ (s.clearMarkers axes).camera = s.camera ∧ (s.clearMarkers axes).recording = s.recording ∧
    (s.clearMarkers axes).lineQueue = s.lineQueue ∧ (s.clearMarkers axes).interpolator = s.interpolator ∧
    (s.clearMarkers axes).memory = s.memory ∧ (s.clearMarkers axes).writeInProcessing = s.writeInProcessing ∧
    (s.clearMarkers axes).witness = s.witness ∧ (s.clearMarkers axes).port = s.port ∧ (s.clearMarkers
    axes).resetControl = s.resetControl ∧ (s.clearMarkers axes).lastUpstream = s.lastUpstream ∧ (s.clearMarkers
    axes).openOrders = s.openOrders ∧ (s.clearMarkers axes).due = s.due ∧ (s.clearMarkers axes).pending = s.pending := by
  unfold State.clearMarkers
  induction axes generalizing s with
  | nil => simp
  | cons a as ih => simpa using ih (s.onAxis a _)

@[simp] theorem State.appendLine_frame (s : State) (line : RecordLine) :
    (s.appendLine line).timebase = s.timebase ∧ (s.appendLine line).directory = s.directory ∧ (s.appendLine
    line).pass = s.pass ∧ (s.appendLine line).camera = s.camera ∧ (s.appendLine line).lineQueue = s.lineQueue ∧
    (s.appendLine line).interpolator = s.interpolator ∧ (s.appendLine line).memory = s.memory ∧ (s.appendLine
    line).axes = s.axes ∧ (s.appendLine line).writeInProcessing = s.writeInProcessing ∧ (s.appendLine line).witness
    = s.witness ∧ (s.appendLine line).port = s.port ∧ (s.appendLine line).resetControl = s.resetControl ∧
    (s.appendLine line).lastUpstream = s.lastUpstream ∧ (s.appendLine line).openOrders = s.openOrders ∧
    (s.appendLine line).due = s.due ∧ (s.appendLine line).pending = s.pending ∧ (s.appendLine line).recording.isOpen
    = s.recording.isOpen := by
  simp [State.appendLine]

@[simp] theorem State.captureLine_frame (s : State) (c : PassContext) (p j : Nat) (coincident : Bool) :
    (s.captureLine c p j coincident).camera = s.camera ∧ (s.captureLine c p j coincident).lineQueue = s.lineQueue ∧
    (s.captureLine c p j coincident).interpolator = s.interpolator ∧ (s.captureLine c p j coincident).memory =
    s.memory ∧ (s.captureLine c p j coincident).writeInProcessing = s.writeInProcessing ∧ (s.captureLine c p j
    coincident).witness = s.witness ∧ (s.captureLine c p j coincident).resetControl = s.resetControl ∧
    (s.captureLine c p j coincident).lastUpstream = s.lastUpstream ∧ (s.captureLine c p j coincident).openOrders =
    s.openOrders ∧ (s.captureLine c p j coincident).due = s.due ∧ (s.captureLine c p j coincident).pending =
    s.pending ∧ (s.captureLine c p j coincident).timebase.active = s.timebase.active ∧ (s.captureLine c p j
    coincident).timebase.pending = s.timebase.pending ∧ (s.captureLine c p j coincident).timebase.lock =
    s.timebase.lock ∧ (s.captureLine c p j coincident).timebase.run = s.timebase.run ∧ (s.captureLine c p j
    coincident).timebase.lockPending = s.timebase.lockPending ∧ (s.captureLine c p j coincident).timebase.history =
    s.timebase.history ∧ (s.captureLine c p j coincident).timebase.holdoverCount = s.timebase.holdoverCount ∧
    (s.captureLine c p j coincident).timebase.interval = s.timebase.interval ∧ (s.captureLine c p j
    coincident).timebase.flywheel = s.timebase.flywheel ∧ (s.captureLine c p j coincident).timebase.watching =
    s.timebase.watching ∧ (s.captureLine c p j coincident).timebase.pulseNear = s.timebase.pulseNear ∧
    (s.captureLine c p j coincident).timebase.pulseBefore = s.timebase.pulseBefore ∧ (s.captureLine c p j
    coincident).timebase.record = s.timebase.record ∧ (s.captureLine c p j coincident).timebase.refTime =
    s.timebase.refTime ∧ (s.captureLine c p j coincident).timebase.nextPoint = s.timebase.nextPoint ∧ (s.captureLine
    c p j coincident).timebase.passPulses = s.timebase.passPulses ∧ (s.captureLine c p j
    coincident).timebase.advances = s.timebase.advances ∧ (s.captureLine c p j coincident).timebase.frameOffset =
    s.timebase.frameOffset ∧ (s.captureLine c p j coincident).timebase.slips = s.timebase.slips ∧ (s.captureLine c p
    j coincident).directory.regionBase = s.directory.regionBase ∧ (s.captureLine c p j
    coincident).directory.regionSize = s.directory.regionSize ∧ (s.captureLine c p j
    coincident).directory.verifyOrder = s.directory.verifyOrder ∧ (s.captureLine c p j
    coincident).directory.verifyCursor = s.directory.verifyCursor ∧ (s.captureLine c p j coincident).pass.context =
    s.pass.context ∧ (s.captureLine c p j coincident).pass.preroll = s.pass.preroll ∧ (s.captureLine c p j
    coincident).pass.hasRun = s.pass.hasRun ∧ (s.captureLine c p j coincident).port.phase = s.port.phase ∧
    (s.captureLine c p j coincident).port.code = s.port.code ∧ (s.captureLine c p j coincident).port.length =
    s.port.length ∧ (s.captureLine c p j coincident).port.args = s.port.args ∧ (s.captureLine c p j
    coincident).port.incoming = s.port.incoming ∧ (s.captureLine c p j coincident).port.response = s.port.response ∧
    (s.captureLine c p j coincident).port.resetPending = s.port.resetPending ∧ (s.captureLine c p j
    coincident).port.mask = s.port.mask ∧ (s.captureLine c p j coincident).port.resetCause = s.port.resetCause ∧
    (s.captureLine c p j coincident).port.powerSeen = s.port.powerSeen ∧ (s.captureLine c p j
    coincident).port.selectHigh = s.port.selectHigh := by
  unfold State.captureLine
  (repeat' split)
  all_goals simp

@[simp] theorem State.captureGroup_frame (s : State) (c : PassContext) (p n j : Nat) (co : Bool) :
    (s.captureGroup c p n j co).camera = s.camera ∧ (s.captureGroup c p n j co).lineQueue = s.lineQueue ∧
    (s.captureGroup c p n j co).interpolator = s.interpolator ∧ (s.captureGroup c p n j co).memory = s.memory ∧
    (s.captureGroup c p n j co).writeInProcessing = s.writeInProcessing ∧ (s.captureGroup c p n j co).witness =
    s.witness ∧ (s.captureGroup c p n j co).resetControl = s.resetControl ∧ (s.captureGroup c p n j co).lastUpstream
    = s.lastUpstream ∧ (s.captureGroup c p n j co).openOrders = s.openOrders ∧ (s.captureGroup c p n j co).due =
    s.due ∧ (s.captureGroup c p n j co).pending = s.pending ∧ (s.captureGroup c p n j co).timebase.active =
    s.timebase.active ∧ (s.captureGroup c p n j co).timebase.pending = s.timebase.pending ∧ (s.captureGroup c p n j
    co).timebase.lock = s.timebase.lock ∧ (s.captureGroup c p n j co).timebase.run = s.timebase.run ∧
    (s.captureGroup c p n j co).timebase.lockPending = s.timebase.lockPending ∧ (s.captureGroup c p n j
    co).timebase.history = s.timebase.history ∧ (s.captureGroup c p n j co).timebase.holdoverCount =
    s.timebase.holdoverCount ∧ (s.captureGroup c p n j co).timebase.interval = s.timebase.interval ∧ (s.captureGroup
    c p n j co).timebase.flywheel = s.timebase.flywheel ∧ (s.captureGroup c p n j co).timebase.watching =
    s.timebase.watching ∧ (s.captureGroup c p n j co).timebase.pulseNear = s.timebase.pulseNear ∧ (s.captureGroup c
    p n j co).timebase.pulseBefore = s.timebase.pulseBefore ∧ (s.captureGroup c p n j co).timebase.record =
    s.timebase.record ∧ (s.captureGroup c p n j co).timebase.refTime = s.timebase.refTime ∧ (s.captureGroup c p n j
    co).timebase.nextPoint = s.timebase.nextPoint ∧ (s.captureGroup c p n j co).timebase.passPulses =
    s.timebase.passPulses ∧ (s.captureGroup c p n j co).timebase.advances = s.timebase.advances ∧ (s.captureGroup c
    p n j co).timebase.frameOffset = s.timebase.frameOffset ∧ (s.captureGroup c p n j co).timebase.slips =
    s.timebase.slips ∧ (s.captureGroup c p n j co).directory.regionBase = s.directory.regionBase ∧ (s.captureGroup c
    p n j co).directory.regionSize = s.directory.regionSize ∧ (s.captureGroup c p n j co).directory.verifyOrder =
    s.directory.verifyOrder ∧ (s.captureGroup c p n j co).directory.verifyCursor = s.directory.verifyCursor ∧
    (s.captureGroup c p n j co).pass.context = s.pass.context ∧ (s.captureGroup c p n j co).pass.preroll =
    s.pass.preroll ∧ (s.captureGroup c p n j co).pass.hasRun = s.pass.hasRun ∧ (s.captureGroup c p n j
    co).port.phase = s.port.phase ∧ (s.captureGroup c p n j co).port.code = s.port.code ∧ (s.captureGroup c p n j
    co).port.length = s.port.length ∧ (s.captureGroup c p n j co).port.args = s.port.args ∧ (s.captureGroup c p n j
    co).port.incoming = s.port.incoming ∧ (s.captureGroup c p n j co).port.response = s.port.response ∧
    (s.captureGroup c p n j co).port.resetPending = s.port.resetPending ∧ (s.captureGroup c p n j co).port.mask =
    s.port.mask ∧ (s.captureGroup c p n j co).port.resetCause = s.port.resetCause ∧ (s.captureGroup c p n j
    co).port.powerSeen = s.port.powerSeen ∧ (s.captureGroup c p n j co).port.selectHigh = s.port.selectHigh := by
  induction n generalizing s j co with
  | zero => simp [State.captureGroup]
  | succ n ih => simpa [State.captureGroup] using ih (s.captureLine c p j co) (j + 1) true

@[simp] theorem State.raisePoints_frame (s : State) (p : Nat) :
    (s.raisePoints p).camera = s.camera ∧ (s.raisePoints p).lineQueue = s.lineQueue ∧ (s.raisePoints p).interpolator
    = s.interpolator ∧ (s.raisePoints p).memory = s.memory ∧ (s.raisePoints p).writeInProcessing =
    s.writeInProcessing ∧ (s.raisePoints p).witness = s.witness ∧ (s.raisePoints p).resetControl = s.resetControl ∧
    (s.raisePoints p).lastUpstream = s.lastUpstream ∧ (s.raisePoints p).openOrders = s.openOrders ∧ (s.raisePoints
    p).due = s.due ∧ (s.raisePoints p).pending = s.pending ∧ (s.raisePoints p).timebase.active = s.timebase.active ∧
    (s.raisePoints p).timebase.pending = s.timebase.pending ∧ (s.raisePoints p).timebase.lock = s.timebase.lock ∧
    (s.raisePoints p).timebase.run = s.timebase.run ∧ (s.raisePoints p).timebase.lockPending =
    s.timebase.lockPending ∧ (s.raisePoints p).timebase.history = s.timebase.history ∧ (s.raisePoints
    p).timebase.holdoverCount = s.timebase.holdoverCount ∧ (s.raisePoints p).timebase.interval = s.timebase.interval
    ∧ (s.raisePoints p).timebase.flywheel = s.timebase.flywheel ∧ (s.raisePoints p).timebase.watching =
    s.timebase.watching ∧ (s.raisePoints p).timebase.pulseNear = s.timebase.pulseNear ∧ (s.raisePoints
    p).timebase.pulseBefore = s.timebase.pulseBefore ∧ (s.raisePoints p).timebase.record = s.timebase.record ∧
    (s.raisePoints p).timebase.refTime = s.timebase.refTime ∧ (s.raisePoints p).timebase.passPulses =
    s.timebase.passPulses ∧ (s.raisePoints p).timebase.advances = s.timebase.advances ∧ (s.raisePoints
    p).timebase.frameOffset = s.timebase.frameOffset ∧ (s.raisePoints p).timebase.slips = s.timebase.slips ∧
    (s.raisePoints p).directory.regionBase = s.directory.regionBase ∧ (s.raisePoints p).directory.regionSize =
    s.directory.regionSize ∧ (s.raisePoints p).directory.verifyOrder = s.directory.verifyOrder ∧ (s.raisePoints
    p).directory.verifyCursor = s.directory.verifyCursor ∧ (s.raisePoints p).pass.context = s.pass.context ∧
    (s.raisePoints p).pass.preroll = s.pass.preroll ∧ (s.raisePoints p).pass.hasRun = s.pass.hasRun ∧ (s.raisePoints
    p).port.phase = s.port.phase ∧ (s.raisePoints p).port.code = s.port.code ∧ (s.raisePoints p).port.length =
    s.port.length ∧ (s.raisePoints p).port.args = s.port.args ∧ (s.raisePoints p).port.incoming = s.port.incoming ∧
    (s.raisePoints p).port.response = s.port.response ∧ (s.raisePoints p).port.resetPending = s.port.resetPending ∧
    (s.raisePoints p).port.mask = s.port.mask ∧ (s.raisePoints p).port.resetCause = s.port.resetCause ∧
    (s.raisePoints p).port.powerSeen = s.port.powerSeen ∧ (s.raisePoints p).port.selectHigh = s.port.selectHigh := by
  unfold State.raisePoints
  dsimp only
  (repeat' split)
  all_goals simp

@[simp] theorem State.recordWriteComplete_frame (s : State) (late : Bool) :
    (s.recordWriteComplete late).timebase = s.timebase ∧ (s.recordWriteComplete late).camera = s.camera ∧
    (s.recordWriteComplete late).lineQueue = s.lineQueue ∧ (s.recordWriteComplete late).interpolator =
    s.interpolator ∧ (s.recordWriteComplete late).memory = s.memory ∧ (s.recordWriteComplete late).axes = s.axes ∧
    (s.recordWriteComplete late).writeInProcessing = s.writeInProcessing ∧ (s.recordWriteComplete late).witness =
    s.witness ∧ (s.recordWriteComplete late).resetControl = s.resetControl ∧ (s.recordWriteComplete
    late).lastUpstream = s.lastUpstream ∧ (s.recordWriteComplete late).openOrders = s.openOrders ∧
    (s.recordWriteComplete late).pending = s.pending ∧ (s.recordWriteComplete late).directory.regionBase =
    s.directory.regionBase ∧ (s.recordWriteComplete late).directory.regionSize = s.directory.regionSize ∧
    (s.recordWriteComplete late).directory.verifyOrder = s.directory.verifyOrder ∧ (s.recordWriteComplete
    late).directory.verifyCursor = s.directory.verifyCursor ∧ (s.recordWriteComplete late).pass.context =
    s.pass.context ∧ (s.recordWriteComplete late).pass.pending = s.pass.pending ∧ (s.recordWriteComplete
    late).pass.preroll = s.pass.preroll ∧ (s.recordWriteComplete late).pass.hasRun = s.pass.hasRun ∧
    (s.recordWriteComplete late).pass.summary = s.pass.summary ∧ (s.recordWriteComplete late).recording.isOpen =
    s.recording.isOpen ∧ (s.recordWriteComplete late).recording.highWater = s.recording.highWater ∧
    (s.recordWriteComplete late).port.phase = s.port.phase ∧ (s.recordWriteComplete late).port.code = s.port.code ∧
    (s.recordWriteComplete late).port.length = s.port.length ∧ (s.recordWriteComplete late).port.args = s.port.args
    ∧ (s.recordWriteComplete late).port.incoming = s.port.incoming ∧ (s.recordWriteComplete late).port.response =
    s.port.response ∧ (s.recordWriteComplete late).port.resetPending = s.port.resetPending ∧ (s.recordWriteComplete
    late).port.mask = s.port.mask ∧ (s.recordWriteComplete late).port.resetCause = s.port.resetCause ∧
    (s.recordWriteComplete late).port.powerSeen = s.port.powerSeen ∧ (s.recordWriteComplete late).port.selectHigh =
    s.port.selectHigh := by
  unfold State.recordWriteComplete
  split
  · split <;> simp
  · simp

@[simp] theorem State.discardRecording_frame (s : State) :
    (s.discardRecording).timebase = s.timebase ∧ (s.discardRecording).directory = s.directory ∧
    (s.discardRecording).pass = s.pass ∧ (s.discardRecording).camera = s.camera ∧ (s.discardRecording).lineQueue =
    s.lineQueue ∧ (s.discardRecording).interpolator = s.interpolator ∧ (s.discardRecording).axes = s.axes ∧
    (s.discardRecording).writeInProcessing = s.writeInProcessing ∧ (s.discardRecording).witness = s.witness ∧
    (s.discardRecording).port = s.port ∧ (s.discardRecording).resetControl = s.resetControl ∧
    (s.discardRecording).lastUpstream = s.lastUpstream ∧ (s.discardRecording).openOrders = s.openOrders ∧
    (s.discardRecording).due = s.due ∧ (s.discardRecording).pending = s.pending ∧
    (s.discardRecording).recording.highWater = s.recording.highWater ∧ (s.discardRecording).memory.upstream =
    s.memory.upstream ∧ (s.discardRecording).memory.urgentRun = s.memory.urgentRun ∧
    (s.discardRecording).memory.blockedAddress = s.memory.blockedAddress ∧ (s.discardRecording).memory.protectBlocks
    = s.memory.protectBlocks ∧ (s.discardRecording).memory.partialBlocks = s.memory.partialBlocks := by
  simp [State.discardRecording]

@[simp] theorem State.divergenceReport_frame (s : State) :
    (s.divergenceReport).timebase = s.timebase ∧ (s.divergenceReport).directory = s.directory ∧
    (s.divergenceReport).camera = s.camera ∧ (s.divergenceReport).recording = s.recording ∧
    (s.divergenceReport).lineQueue = s.lineQueue ∧ (s.divergenceReport).interpolator = s.interpolator ∧
    (s.divergenceReport).memory = s.memory ∧ (s.divergenceReport).axes = s.axes ∧
    (s.divergenceReport).writeInProcessing = s.writeInProcessing ∧ (s.divergenceReport).witness = s.witness ∧
    (s.divergenceReport).port = s.port ∧ (s.divergenceReport).resetControl = s.resetControl ∧
    (s.divergenceReport).lastUpstream = s.lastUpstream ∧ (s.divergenceReport).openOrders = s.openOrders ∧
    (s.divergenceReport).due = s.due ∧ (s.divergenceReport).pending = s.pending ∧ (s.divergenceReport).pass.state =
    s.pass.state ∧ (s.divergenceReport).pass.context = s.pass.context ∧ (s.divergenceReport).pass.preroll =
    s.pass.preroll ∧ (s.divergenceReport).pass.hasRun = s.pass.hasRun ∧ (s.divergenceReport).pass.summary =
    s.pass.summary := by
  unfold State.divergenceReport
  split
  · split <;> simp
  · simp

@[simp] theorem State.reportDivergence_frame (s : State) (late : Bool) :
    (s.reportDivergence late).timebase = s.timebase ∧ (s.reportDivergence late).directory = s.directory ∧
    (s.reportDivergence late).camera = s.camera ∧ (s.reportDivergence late).recording = s.recording ∧
    (s.reportDivergence late).lineQueue = s.lineQueue ∧ (s.reportDivergence late).interpolator = s.interpolator ∧
    (s.reportDivergence late).memory = s.memory ∧ (s.reportDivergence late).axes = s.axes ∧ (s.reportDivergence
    late).writeInProcessing = s.writeInProcessing ∧ (s.reportDivergence late).witness = s.witness ∧
    (s.reportDivergence late).port = s.port ∧ (s.reportDivergence late).resetControl = s.resetControl ∧
    (s.reportDivergence late).lastUpstream = s.lastUpstream ∧ (s.reportDivergence late).openOrders = s.openOrders ∧
    (s.reportDivergence late).pending = s.pending ∧ (s.reportDivergence late).pass.state = s.pass.state ∧
    (s.reportDivergence late).pass.context = s.pass.context ∧ (s.reportDivergence late).pass.preroll =
    s.pass.preroll ∧ (s.reportDivergence late).pass.hasRun = s.pass.hasRun ∧ (s.reportDivergence late).pass.summary
    = s.pass.summary := by
  unfold State.reportDivergence
  split <;> simp

@[simp] theorem State.comparison_frame (s : State) (a : Nat) (e : Int) (late : Bool) :
    (s.comparison a e late).timebase = s.timebase ∧ (s.comparison a e late).directory = s.directory ∧ (s.comparison
    a e late).camera = s.camera ∧ (s.comparison a e late).recording = s.recording ∧ (s.comparison a e
    late).lineQueue = s.lineQueue ∧ (s.comparison a e late).interpolator = s.interpolator ∧ (s.comparison a e
    late).memory = s.memory ∧ (s.comparison a e late).axes = s.axes ∧ (s.comparison a e late).writeInProcessing =
    s.writeInProcessing ∧ (s.comparison a e late).resetControl = s.resetControl ∧ (s.comparison a e
    late).lastUpstream = s.lastUpstream ∧ (s.comparison a e late).openOrders = s.openOrders ∧ (s.comparison a e
    late).pending = s.pending ∧ (s.comparison a e late).pass.state = s.pass.state ∧ (s.comparison a e
    late).pass.context = s.pass.context ∧ (s.comparison a e late).pass.preroll = s.pass.preroll ∧ (s.comparison a e
    late).pass.hasRun = s.pass.hasRun ∧ (s.comparison a e late).pass.summary = s.pass.summary ∧ (s.comparison a e
    late).witness.frameStart = s.witness.frameStart ∧ (s.comparison a e late).witness.log = s.witness.log ∧
    (s.comparison a e late).witness.lost = s.witness.lost ∧ (s.comparison a e late).port.phase = s.port.phase ∧
    (s.comparison a e late).port.code = s.port.code ∧ (s.comparison a e late).port.length = s.port.length ∧
    (s.comparison a e late).port.args = s.port.args ∧ (s.comparison a e late).port.incoming = s.port.incoming ∧
    (s.comparison a e late).port.response = s.port.response ∧ (s.comparison a e late).port.resetPending =
    s.port.resetPending ∧ (s.comparison a e late).port.mask = s.port.mask ∧ (s.comparison a e late).port.resetCause
    = s.port.resetCause ∧ (s.comparison a e late).port.powerSeen = s.port.powerSeen ∧ (s.comparison a e
    late).port.selectHigh = s.port.selectHigh := by
  unfold State.comparison
  dsimp only
  (repeat' split)
  all_goals simp

@[simp] theorem State.appendDeviation_frame (s : State) (r : DeviationRecord) :
    (s.appendDeviation r).timebase = s.timebase ∧ (s.appendDeviation r).directory = s.directory ∧ (s.appendDeviation
    r).camera = s.camera ∧ (s.appendDeviation r).recording = s.recording ∧ (s.appendDeviation r).lineQueue =
    s.lineQueue ∧ (s.appendDeviation r).interpolator = s.interpolator ∧ (s.appendDeviation r).memory = s.memory ∧
    (s.appendDeviation r).axes = s.axes ∧ (s.appendDeviation r).writeInProcessing = s.writeInProcessing ∧
    (s.appendDeviation r).resetControl = s.resetControl ∧ (s.appendDeviation r).lastUpstream = s.lastUpstream ∧
    (s.appendDeviation r).openOrders = s.openOrders ∧ (s.appendDeviation r).due = s.due ∧ (s.appendDeviation
    r).pending = s.pending ∧ (s.appendDeviation r).pass.state = s.pass.state ∧ (s.appendDeviation r).pass.context =
    s.pass.context ∧ (s.appendDeviation r).pass.pending = s.pass.pending ∧ (s.appendDeviation r).pass.preroll =
    s.pass.preroll ∧ (s.appendDeviation r).pass.hasRun = s.pass.hasRun ∧ (s.appendDeviation r).witness.axes =
    s.witness.axes ∧ (s.appendDeviation r).witness.frameStart = s.witness.frameStart ∧ (s.appendDeviation
    r).port.phase = s.port.phase ∧ (s.appendDeviation r).port.code = s.port.code ∧ (s.appendDeviation r).port.length
    = s.port.length ∧ (s.appendDeviation r).port.args = s.port.args ∧ (s.appendDeviation r).port.incoming =
    s.port.incoming ∧ (s.appendDeviation r).port.response = s.port.response ∧ (s.appendDeviation
    r).port.resetPending = s.port.resetPending ∧ (s.appendDeviation r).port.mask = s.port.mask ∧ (s.appendDeviation
    r).port.resetCause = s.port.resetCause ∧ (s.appendDeviation r).port.powerSeen = s.port.powerSeen ∧
    (s.appendDeviation r).port.selectHigh = s.port.selectHigh := by
  unfold State.appendDeviation
  dsimp only
  (repeat' split)
  all_goals simp

@[simp] theorem State.closeFrame_frame (s : State) :
    (s.closeFrame).timebase = s.timebase ∧ (s.closeFrame).directory = s.directory ∧ (s.closeFrame).camera = s.camera
    ∧ (s.closeFrame).recording = s.recording ∧ (s.closeFrame).lineQueue = s.lineQueue ∧ (s.closeFrame).interpolator
    = s.interpolator ∧ (s.closeFrame).memory = s.memory ∧ (s.closeFrame).axes = s.axes ∧
    (s.closeFrame).writeInProcessing = s.writeInProcessing ∧ (s.closeFrame).resetControl = s.resetControl ∧
    (s.closeFrame).lastUpstream = s.lastUpstream ∧ (s.closeFrame).openOrders = s.openOrders ∧ (s.closeFrame).due =
    s.due ∧ (s.closeFrame).pending = s.pending ∧ (s.closeFrame).pass.state = s.pass.state ∧
    (s.closeFrame).pass.context = s.pass.context ∧ (s.closeFrame).pass.pending = s.pass.pending ∧
    (s.closeFrame).pass.preroll = s.pass.preroll ∧ (s.closeFrame).pass.hasRun = s.pass.hasRun ∧
    (s.closeFrame).witness.axes = s.witness.axes ∧ (s.closeFrame).witness.frameStart = s.witness.frameStart ∧
    (s.closeFrame).port.phase = s.port.phase ∧ (s.closeFrame).port.code = s.port.code ∧ (s.closeFrame).port.length =
    s.port.length ∧ (s.closeFrame).port.args = s.port.args ∧ (s.closeFrame).port.incoming = s.port.incoming ∧
    (s.closeFrame).port.response = s.port.response ∧ (s.closeFrame).port.resetPending = s.port.resetPending ∧
    (s.closeFrame).port.mask = s.port.mask ∧ (s.closeFrame).port.resetCause = s.port.resetCause ∧
    (s.closeFrame).port.powerSeen = s.port.powerSeen ∧ (s.closeFrame).port.selectHigh = s.port.selectHigh := by
  unfold State.closeFrame
  dsimp only
  (repeat' split)
  all_goals simp

@[simp] theorem State.witnessBoundary_frame (s : State) (closes : Bool) (start : FrameStart) :
    (s.witnessBoundary closes start).timebase = s.timebase ∧ (s.witnessBoundary closes start).directory =
    s.directory ∧ (s.witnessBoundary closes start).camera = s.camera ∧ (s.witnessBoundary closes start).recording =
    s.recording ∧ (s.witnessBoundary closes start).lineQueue = s.lineQueue ∧ (s.witnessBoundary closes
    start).interpolator = s.interpolator ∧ (s.witnessBoundary closes start).memory = s.memory ∧ (s.witnessBoundary
    closes start).axes = s.axes ∧ (s.witnessBoundary closes start).writeInProcessing = s.writeInProcessing ∧
    (s.witnessBoundary closes start).resetControl = s.resetControl ∧ (s.witnessBoundary closes start).lastUpstream =
    s.lastUpstream ∧ (s.witnessBoundary closes start).openOrders = s.openOrders ∧ (s.witnessBoundary closes
    start).due = s.due ∧ (s.witnessBoundary closes start).pending = s.pending ∧ (s.witnessBoundary closes
    start).pass.state = s.pass.state ∧ (s.witnessBoundary closes start).pass.context = s.pass.context ∧
    (s.witnessBoundary closes start).pass.pending = s.pass.pending ∧ (s.witnessBoundary closes start).pass.preroll =
    s.pass.preroll ∧ (s.witnessBoundary closes start).pass.hasRun = s.pass.hasRun ∧ (s.witnessBoundary closes
    start).port.phase = s.port.phase ∧ (s.witnessBoundary closes start).port.code = s.port.code ∧ (s.witnessBoundary
    closes start).port.length = s.port.length ∧ (s.witnessBoundary closes start).port.args = s.port.args ∧
    (s.witnessBoundary closes start).port.incoming = s.port.incoming ∧ (s.witnessBoundary closes
    start).port.response = s.port.response ∧ (s.witnessBoundary closes start).port.resetPending =
    s.port.resetPending ∧ (s.witnessBoundary closes start).port.mask = s.port.mask ∧ (s.witnessBoundary closes
    start).port.resetCause = s.port.resetCause ∧ (s.witnessBoundary closes start).port.powerSeen = s.port.powerSeen
    ∧ (s.witnessBoundary closes start).port.selectHigh = s.port.selectHigh := by
  unfold State.witnessBoundary
  dsimp only
  (repeat' split)
  all_goals simp

@[simp] theorem State.emptyLog_frame (s : State) :
    (s.emptyLog).timebase = s.timebase ∧ (s.emptyLog).directory = s.directory ∧ (s.emptyLog).pass = s.pass ∧
    (s.emptyLog).camera = s.camera ∧ (s.emptyLog).recording = s.recording ∧ (s.emptyLog).lineQueue = s.lineQueue ∧
    (s.emptyLog).interpolator = s.interpolator ∧ (s.emptyLog).memory = s.memory ∧ (s.emptyLog).axes = s.axes ∧
    (s.emptyLog).writeInProcessing = s.writeInProcessing ∧ (s.emptyLog).resetControl = s.resetControl ∧
    (s.emptyLog).lastUpstream = s.lastUpstream ∧ (s.emptyLog).openOrders = s.openOrders ∧ (s.emptyLog).due = s.due ∧
    (s.emptyLog).pending = s.pending ∧ (s.emptyLog).witness.axes = s.witness.axes ∧ (s.emptyLog).witness.frameStart
    = s.witness.frameStart ∧ (s.emptyLog).witness.lost = s.witness.lost ∧ (s.emptyLog).port.phase = s.port.phase ∧
    (s.emptyLog).port.code = s.port.code ∧ (s.emptyLog).port.length = s.port.length ∧ (s.emptyLog).port.args =
    s.port.args ∧ (s.emptyLog).port.incoming = s.port.incoming ∧ (s.emptyLog).port.response = s.port.response ∧
    (s.emptyLog).port.resetPending = s.port.resetPending ∧ (s.emptyLog).port.mask = s.port.mask ∧
    (s.emptyLog).port.resetCause = s.port.resetCause ∧ (s.emptyLog).port.powerSeen = s.port.powerSeen ∧
    (s.emptyLog).port.selectHigh = s.port.selectHigh := by
  simp [State.emptyLog]

@[simp] theorem State.endFrame_frame (s : State) :
    (s.endFrame).timebase = s.timebase ∧ (s.endFrame).directory = s.directory ∧ (s.endFrame).pass = s.pass ∧
    (s.endFrame).camera = s.camera ∧ (s.endFrame).recording = s.recording ∧ (s.endFrame).lineQueue = s.lineQueue ∧
    (s.endFrame).interpolator = s.interpolator ∧ (s.endFrame).memory = s.memory ∧ (s.endFrame).axes = s.axes ∧
    (s.endFrame).writeInProcessing = s.writeInProcessing ∧ (s.endFrame).port = s.port ∧ (s.endFrame).resetControl =
    s.resetControl ∧ (s.endFrame).lastUpstream = s.lastUpstream ∧ (s.endFrame).openOrders = s.openOrders ∧
    (s.endFrame).due = s.due ∧ (s.endFrame).pending = s.pending ∧ (s.endFrame).witness.log = s.witness.log ∧
    (s.endFrame).witness.lost = s.witness.lost := by
  simp [State.endFrame]

@[simp] theorem State.startFetch_frame (s : State) :
    (s.startFetch).timebase = s.timebase ∧ (s.startFetch).directory = s.directory ∧ (s.startFetch).pass = s.pass ∧
    (s.startFetch).camera = s.camera ∧ (s.startFetch).recording = s.recording ∧ (s.startFetch).interpolator =
    s.interpolator ∧ (s.startFetch).memory = s.memory ∧ (s.startFetch).axes = s.axes ∧
    (s.startFetch).writeInProcessing = s.writeInProcessing ∧ (s.startFetch).witness = s.witness ∧
    (s.startFetch).port = s.port ∧ (s.startFetch).resetControl = s.resetControl ∧ (s.startFetch).lastUpstream =
    s.lastUpstream ∧ (s.startFetch).openOrders = s.openOrders ∧ (s.startFetch).due = s.due ∧ (s.startFetch).pending
    = s.pending ∧ (s.startFetch).lineQueue.geometry = s.lineQueue.geometry ∧ (s.startFetch).lineQueue.lines =
    s.lineQueue.lines ∧ (s.startFetch).lineQueue.currentLine = s.lineQueue.currentLine := by
  unfold State.startFetch
  split
  · split <;> simp
  · simp

@[simp] theorem State.lineEntry_frame (s : State) (g : Geometry) (i : Nat) (words : List Word) :
    (s.lineEntry g i words).timebase = s.timebase ∧ (s.lineEntry g i words).directory = s.directory ∧ (s.lineEntry g
    i words).camera = s.camera ∧ (s.lineEntry g i words).recording = s.recording ∧ (s.lineEntry g i
    words).interpolator = s.interpolator ∧ (s.lineEntry g i words).memory = s.memory ∧ (s.lineEntry g i words).axes
    = s.axes ∧ (s.lineEntry g i words).writeInProcessing = s.writeInProcessing ∧ (s.lineEntry g i words).witness =
    s.witness ∧ (s.lineEntry g i words).resetControl = s.resetControl ∧ (s.lineEntry g i words).lastUpstream =
    s.lastUpstream ∧ (s.lineEntry g i words).openOrders = s.openOrders ∧ (s.lineEntry g i words).due = s.due ∧
    (s.lineEntry g i words).pending = s.pending ∧ (s.lineEntry g i words).pass.state = s.pass.state ∧ (s.lineEntry g
    i words).pass.context = s.pass.context ∧ (s.lineEntry g i words).pass.pending = s.pass.pending ∧ (s.lineEntry g
    i words).pass.preroll = s.pass.preroll ∧ (s.lineEntry g i words).pass.hasRun = s.pass.hasRun ∧ (s.lineEntry g i
    words).lineQueue.geometry = s.lineQueue.geometry ∧ (s.lineEntry g i words).lineQueue.nextFetch =
    s.lineQueue.nextFetch ∧ (s.lineEntry g i words).lineQueue.currentLine = s.lineQueue.currentLine ∧ (s.lineEntry g
    i words).port.phase = s.port.phase ∧ (s.lineEntry g i words).port.code = s.port.code ∧ (s.lineEntry g i
    words).port.length = s.port.length ∧ (s.lineEntry g i words).port.args = s.port.args ∧ (s.lineEntry g i
    words).port.incoming = s.port.incoming ∧ (s.lineEntry g i words).port.response = s.port.response ∧ (s.lineEntry
    g i words).port.resetPending = s.port.resetPending ∧ (s.lineEntry g i words).port.mask = s.port.mask ∧
    (s.lineEntry g i words).port.resetCause = s.port.resetCause ∧ (s.lineEntry g i words).port.powerSeen =
    s.port.powerSeen ∧ (s.lineEntry g i words).port.selectHigh = s.port.selectHigh := by
  unfold State.lineEntry
  dsimp only
  (repeat' split)
  all_goals simp

@[simp] theorem State.fetchReadComplete_frame (s : State) (data : Word) :
    (s.fetchReadComplete data).timebase = s.timebase ∧ (s.fetchReadComplete data).directory = s.directory ∧
    (s.fetchReadComplete data).camera = s.camera ∧ (s.fetchReadComplete data).recording = s.recording ∧
    (s.fetchReadComplete data).interpolator = s.interpolator ∧ (s.fetchReadComplete data).memory = s.memory ∧
    (s.fetchReadComplete data).axes = s.axes ∧ (s.fetchReadComplete data).writeInProcessing = s.writeInProcessing ∧
    (s.fetchReadComplete data).witness = s.witness ∧ (s.fetchReadComplete data).resetControl = s.resetControl ∧
    (s.fetchReadComplete data).lastUpstream = s.lastUpstream ∧ (s.fetchReadComplete data).openOrders = s.openOrders
    ∧ (s.fetchReadComplete data).due = s.due ∧ (s.fetchReadComplete data).pending = s.pending ∧ (s.fetchReadComplete
    data).pass.state = s.pass.state ∧ (s.fetchReadComplete data).pass.context = s.pass.context ∧
    (s.fetchReadComplete data).pass.pending = s.pass.pending ∧ (s.fetchReadComplete data).pass.preroll =
    s.pass.preroll ∧ (s.fetchReadComplete data).pass.hasRun = s.pass.hasRun ∧ (s.fetchReadComplete
    data).lineQueue.geometry = s.lineQueue.geometry ∧ (s.fetchReadComplete data).lineQueue.nextFetch =
    s.lineQueue.nextFetch ∧ (s.fetchReadComplete data).lineQueue.currentLine = s.lineQueue.currentLine ∧
    (s.fetchReadComplete data).port.phase = s.port.phase ∧ (s.fetchReadComplete data).port.code = s.port.code ∧
    (s.fetchReadComplete data).port.length = s.port.length ∧ (s.fetchReadComplete data).port.args = s.port.args ∧
    (s.fetchReadComplete data).port.incoming = s.port.incoming ∧ (s.fetchReadComplete data).port.response =
    s.port.response ∧ (s.fetchReadComplete data).port.resetPending = s.port.resetPending ∧ (s.fetchReadComplete
    data).port.mask = s.port.mask ∧ (s.fetchReadComplete data).port.resetCause = s.port.resetCause ∧
    (s.fetchReadComplete data).port.powerSeen = s.port.powerSeen ∧ (s.fetchReadComplete data).port.selectHigh =
    s.port.selectHigh := by
  unfold State.fetchReadComplete
  dsimp only
  (repeat' split)
  all_goals simp

@[simp] theorem State.restartFetch_frame (s : State) (cur : Nat) :
    (s.restartFetch cur).timebase = s.timebase ∧ (s.restartFetch cur).directory = s.directory ∧ (s.restartFetch
    cur).pass = s.pass ∧ (s.restartFetch cur).camera = s.camera ∧ (s.restartFetch cur).recording = s.recording ∧
    (s.restartFetch cur).interpolator = s.interpolator ∧ (s.restartFetch cur).axes = s.axes ∧ (s.restartFetch
    cur).writeInProcessing = s.writeInProcessing ∧ (s.restartFetch cur).witness = s.witness ∧ (s.restartFetch
    cur).port = s.port ∧ (s.restartFetch cur).resetControl = s.resetControl ∧ (s.restartFetch cur).lastUpstream =
    s.lastUpstream ∧ (s.restartFetch cur).openOrders = s.openOrders ∧ (s.restartFetch cur).due = s.due ∧
    (s.restartFetch cur).pending = s.pending ∧ (s.restartFetch cur).lineQueue.geometry = s.lineQueue.geometry ∧
    (s.restartFetch cur).lineQueue.lines = s.lineQueue.lines ∧ (s.restartFetch cur).lineQueue.currentLine =
    s.lineQueue.currentLine ∧ (s.restartFetch cur).memory.upstream = s.memory.upstream ∧ (s.restartFetch
    cur).memory.urgentRun = s.memory.urgentRun ∧ (s.restartFetch cur).memory.blockedAddress =
    s.memory.blockedAddress ∧ (s.restartFetch cur).memory.protectBlocks = s.memory.protectBlocks ∧ (s.restartFetch
    cur).memory.partialBlocks = s.memory.partialBlocks := by
  unfold State.restartFetch
  dsimp only
  (repeat' split)
  all_goals simp

@[simp] theorem State.evaluateLine_frame (st : State) (line : Nat) :
    (st.evaluateLine line).timebase = st.timebase ∧ (st.evaluateLine line).directory = st.directory ∧
    (st.evaluateLine line).pass = st.pass ∧ (st.evaluateLine line).camera = st.camera ∧ (st.evaluateLine
    line).recording = st.recording ∧ (st.evaluateLine line).interpolator = st.interpolator ∧ (st.evaluateLine
    line).axes = st.axes ∧ (st.evaluateLine line).writeInProcessing = st.writeInProcessing ∧ (st.evaluateLine
    line).witness = st.witness ∧ (st.evaluateLine line).port = st.port ∧ (st.evaluateLine line).resetControl =
    st.resetControl ∧ (st.evaluateLine line).lastUpstream = st.lastUpstream ∧ (st.evaluateLine line).openOrders =
    st.openOrders ∧ (st.evaluateLine line).due = st.due ∧ (st.evaluateLine line).pending = st.pending ∧
    (st.evaluateLine line).memory.upstream = st.memory.upstream ∧ (st.evaluateLine line).memory.urgentRun =
    st.memory.urgentRun ∧ (st.evaluateLine line).memory.blockedAddress = st.memory.blockedAddress ∧ (st.evaluateLine
    line).memory.protectBlocks = st.memory.protectBlocks ∧ (st.evaluateLine line).memory.partialBlocks =
    st.memory.partialBlocks := by
  unfold State.evaluateLine
  split <;> simp

@[simp] theorem State.lineQueueBoundary_frame (s : State) :
    (s.lineQueueBoundary).timebase = s.timebase ∧ (s.lineQueueBoundary).directory = s.directory ∧
    (s.lineQueueBoundary).pass = s.pass ∧ (s.lineQueueBoundary).camera = s.camera ∧ (s.lineQueueBoundary).recording
    = s.recording ∧ (s.lineQueueBoundary).interpolator = s.interpolator ∧ (s.lineQueueBoundary).axes = s.axes ∧
    (s.lineQueueBoundary).writeInProcessing = s.writeInProcessing ∧ (s.lineQueueBoundary).witness = s.witness ∧
    (s.lineQueueBoundary).port = s.port ∧ (s.lineQueueBoundary).resetControl = s.resetControl ∧
    (s.lineQueueBoundary).lastUpstream = s.lastUpstream ∧ (s.lineQueueBoundary).openOrders = s.openOrders ∧
    (s.lineQueueBoundary).due = s.due ∧ (s.lineQueueBoundary).pending = s.pending ∧
    (s.lineQueueBoundary).memory.upstream = s.memory.upstream ∧ (s.lineQueueBoundary).memory.urgentRun =
    s.memory.urgentRun ∧ (s.lineQueueBoundary).memory.blockedAddress = s.memory.blockedAddress ∧
    (s.lineQueueBoundary).memory.protectBlocks = s.memory.protectBlocks ∧ (s.lineQueueBoundary).memory.partialBlocks
    = s.memory.partialBlocks := by
  unfold State.lineQueueBoundary
  split <;> simp

@[simp] theorem State.coherenceNotice_frame (s : State) (addr : Nat) (data : Word) (lanes : BitVec 4) :
    (s.coherenceNotice addr data lanes).timebase = s.timebase ∧ (s.coherenceNotice addr data lanes).directory =
    s.directory ∧ (s.coherenceNotice addr data lanes).pass = s.pass ∧ (s.coherenceNotice addr data lanes).camera =
    s.camera ∧ (s.coherenceNotice addr data lanes).recording = s.recording ∧ (s.coherenceNotice addr data
    lanes).interpolator = s.interpolator ∧ (s.coherenceNotice addr data lanes).memory = s.memory ∧
    (s.coherenceNotice addr data lanes).axes = s.axes ∧ (s.coherenceNotice addr data lanes).writeInProcessing =
    s.writeInProcessing ∧ (s.coherenceNotice addr data lanes).witness = s.witness ∧ (s.coherenceNotice addr data
    lanes).resetControl = s.resetControl ∧ (s.coherenceNotice addr data lanes).lastUpstream = s.lastUpstream ∧
    (s.coherenceNotice addr data lanes).openOrders = s.openOrders ∧ (s.coherenceNotice addr data lanes).due = s.due
    ∧ (s.coherenceNotice addr data lanes).pending = s.pending ∧ (s.coherenceNotice addr data
    lanes).lineQueue.geometry = s.lineQueue.geometry ∧ (s.coherenceNotice addr data lanes).lineQueue.nextFetch =
    s.lineQueue.nextFetch ∧ (s.coherenceNotice addr data lanes).lineQueue.currentLine = s.lineQueue.currentLine ∧
    (s.coherenceNotice addr data lanes).port.phase = s.port.phase ∧ (s.coherenceNotice addr data lanes).port.code =
    s.port.code ∧ (s.coherenceNotice addr data lanes).port.length = s.port.length ∧ (s.coherenceNotice addr data
    lanes).port.args = s.port.args ∧ (s.coherenceNotice addr data lanes).port.incoming = s.port.incoming ∧
    (s.coherenceNotice addr data lanes).port.response = s.port.response ∧ (s.coherenceNotice addr data
    lanes).port.resetPending = s.port.resetPending ∧ (s.coherenceNotice addr data lanes).port.mask = s.port.mask ∧
    (s.coherenceNotice addr data lanes).port.resetCause = s.port.resetCause ∧ (s.coherenceNotice addr data
    lanes).port.powerSeen = s.port.powerSeen ∧ (s.coherenceNotice addr data lanes).port.selectHigh =
    s.port.selectHigh := by
  unfold State.coherenceNotice
  dsimp only
  (repeat' split)
  all_goals simp

@[simp] theorem State.clearLineQueue_frame (s : State) :
    (s.clearLineQueue).timebase = s.timebase ∧ (s.clearLineQueue).directory = s.directory ∧ (s.clearLineQueue).pass
    = s.pass ∧ (s.clearLineQueue).camera = s.camera ∧ (s.clearLineQueue).recording = s.recording ∧
    (s.clearLineQueue).interpolator = s.interpolator ∧ (s.clearLineQueue).axes = s.axes ∧
    (s.clearLineQueue).writeInProcessing = s.writeInProcessing ∧ (s.clearLineQueue).witness = s.witness ∧
    (s.clearLineQueue).port = s.port ∧ (s.clearLineQueue).resetControl = s.resetControl ∧
    (s.clearLineQueue).lastUpstream = s.lastUpstream ∧ (s.clearLineQueue).openOrders = s.openOrders ∧
    (s.clearLineQueue).due = s.due ∧ (s.clearLineQueue).pending = s.pending ∧ (s.clearLineQueue).memory.upstream =
    s.memory.upstream ∧ (s.clearLineQueue).memory.urgentRun = s.memory.urgentRun ∧
    (s.clearLineQueue).memory.blockedAddress = s.memory.blockedAddress ∧ (s.clearLineQueue).memory.protectBlocks =
    s.memory.protectBlocks ∧ (s.clearLineQueue).memory.partialBlocks = s.memory.partialBlocks := by
  simp [State.clearLineQueue]

@[simp] theorem State.completeUpstream_frame (s : State) (readData : Word) :
    (s.completeUpstream readData).timebase = s.timebase ∧ (s.completeUpstream readData).directory = s.directory ∧
    (s.completeUpstream readData).pass = s.pass ∧ (s.completeUpstream readData).camera = s.camera ∧
    (s.completeUpstream readData).recording = s.recording ∧ (s.completeUpstream readData).lineQueue = s.lineQueue ∧
    (s.completeUpstream readData).interpolator = s.interpolator ∧ (s.completeUpstream readData).axes = s.axes ∧
    (s.completeUpstream readData).writeInProcessing = s.writeInProcessing ∧ (s.completeUpstream readData).witness =
    s.witness ∧ (s.completeUpstream readData).port = s.port ∧ (s.completeUpstream readData).resetControl =
    s.resetControl ∧ (s.completeUpstream readData).openOrders = s.openOrders ∧ (s.completeUpstream readData).due =
    s.due ∧ (s.completeUpstream readData).pending = s.pending ∧ (s.completeUpstream readData).memory.downstream =
    s.memory.downstream ∧ (s.completeUpstream readData).memory.urgentRun = s.memory.urgentRun ∧ (s.completeUpstream
    readData).memory.blockedAddress = s.memory.blockedAddress ∧ (s.completeUpstream readData).memory.protectBlocks =
    s.memory.protectBlocks ∧ (s.completeUpstream readData).memory.partialBlocks = s.memory.partialBlocks := by
  unfold State.completeUpstream
  split <;> simp

@[simp] theorem State.countPartial_frame (s : State) :
    (s.countPartial).timebase = s.timebase ∧ (s.countPartial).directory = s.directory ∧ (s.countPartial).pass =
    s.pass ∧ (s.countPartial).camera = s.camera ∧ (s.countPartial).recording = s.recording ∧
    (s.countPartial).lineQueue = s.lineQueue ∧ (s.countPartial).interpolator = s.interpolator ∧
    (s.countPartial).axes = s.axes ∧ (s.countPartial).writeInProcessing = s.writeInProcessing ∧
    (s.countPartial).witness = s.witness ∧ (s.countPartial).resetControl = s.resetControl ∧
    (s.countPartial).lastUpstream = s.lastUpstream ∧ (s.countPartial).openOrders = s.openOrders ∧
    (s.countPartial).due = s.due ∧ (s.countPartial).pending = s.pending ∧ (s.countPartial).memory.upstream =
    s.memory.upstream ∧ (s.countPartial).memory.downstream = s.memory.downstream ∧ (s.countPartial).memory.urgentRun
    = s.memory.urgentRun ∧ (s.countPartial).memory.blockedAddress = s.memory.blockedAddress ∧
    (s.countPartial).memory.protectBlocks = s.memory.protectBlocks ∧ (s.countPartial).port.phase = s.port.phase ∧
    (s.countPartial).port.code = s.port.code ∧ (s.countPartial).port.length = s.port.length ∧
    (s.countPartial).port.args = s.port.args ∧ (s.countPartial).port.incoming = s.port.incoming ∧
    (s.countPartial).port.response = s.port.response ∧ (s.countPartial).port.resetPending = s.port.resetPending ∧
    (s.countPartial).port.mask = s.port.mask ∧ (s.countPartial).port.resetCause = s.port.resetCause ∧
    (s.countPartial).port.powerSeen = s.port.powerSeen ∧ (s.countPartial).port.selectHigh = s.port.selectHigh := by
  simp [State.countPartial]

@[simp] theorem State.countProtect_frame (s : State) (addr : Nat) :
    (s.countProtect addr).timebase = s.timebase ∧ (s.countProtect addr).directory = s.directory ∧ (s.countProtect
    addr).pass = s.pass ∧ (s.countProtect addr).camera = s.camera ∧ (s.countProtect addr).recording = s.recording ∧
    (s.countProtect addr).lineQueue = s.lineQueue ∧ (s.countProtect addr).interpolator = s.interpolator ∧
    (s.countProtect addr).axes = s.axes ∧ (s.countProtect addr).writeInProcessing = s.writeInProcessing ∧
    (s.countProtect addr).witness = s.witness ∧ (s.countProtect addr).resetControl = s.resetControl ∧
    (s.countProtect addr).lastUpstream = s.lastUpstream ∧ (s.countProtect addr).openOrders = s.openOrders ∧
    (s.countProtect addr).due = s.due ∧ (s.countProtect addr).pending = s.pending ∧ (s.countProtect
    addr).memory.upstream = s.memory.upstream ∧ (s.countProtect addr).memory.downstream = s.memory.downstream ∧
    (s.countProtect addr).memory.urgentRun = s.memory.urgentRun ∧ (s.countProtect addr).memory.partialBlocks =
    s.memory.partialBlocks ∧ (s.countProtect addr).port.phase = s.port.phase ∧ (s.countProtect addr).port.code =
    s.port.code ∧ (s.countProtect addr).port.length = s.port.length ∧ (s.countProtect addr).port.args = s.port.args
    ∧ (s.countProtect addr).port.incoming = s.port.incoming ∧ (s.countProtect addr).port.response = s.port.response
    ∧ (s.countProtect addr).port.resetPending = s.port.resetPending ∧ (s.countProtect addr).port.mask = s.port.mask
    ∧ (s.countProtect addr).port.resetCause = s.port.resetCause ∧ (s.countProtect addr).port.powerSeen =
    s.port.powerSeen ∧ (s.countProtect addr).port.selectHigh = s.port.selectHigh := by
  simp [State.countProtect]

@[simp] theorem State.startTake_frame (s : State) (r : DownstreamTxn) :
    (s.startTake r).timebase = s.timebase ∧ (s.startTake r).directory = s.directory ∧ (s.startTake r).pass = s.pass
    ∧ (s.startTake r).camera = s.camera ∧ (s.startTake r).interpolator = s.interpolator ∧ (s.startTake r).axes =
    s.axes ∧ (s.startTake r).writeInProcessing = s.writeInProcessing ∧ (s.startTake r).witness = s.witness ∧
    (s.startTake r).port = s.port ∧ (s.startTake r).resetControl = s.resetControl ∧ (s.startTake r).lastUpstream =
    s.lastUpstream ∧ (s.startTake r).openOrders = s.openOrders ∧ (s.startTake r).due = s.due ∧ (s.startTake
    r).pending = s.pending ∧ (s.startTake r).recording.isOpen = s.recording.isOpen ∧ (s.startTake r).recording.queue
    = s.recording.queue ∧ (s.startTake r).recording.highWater = s.recording.highWater ∧ (s.startTake
    r).lineQueue.geometry = s.lineQueue.geometry ∧ (s.startTake r).lineQueue.lines = s.lineQueue.lines ∧
    (s.startTake r).lineQueue.nextFetch = s.lineQueue.nextFetch ∧ (s.startTake r).lineQueue.currentLine =
    s.lineQueue.currentLine ∧ (s.startTake r).memory.upstream = s.memory.upstream ∧ (s.startTake r).memory.urgentRun
    = s.memory.urgentRun ∧ (s.startTake r).memory.blockedAddress = s.memory.blockedAddress ∧ (s.startTake
    r).memory.protectBlocks = s.memory.protectBlocks ∧ (s.startTake r).memory.partialBlocks = s.memory.partialBlocks := by
  unfold State.startTake
  split <;> simp

@[simp] theorem State.grantPassThrough_frame (s : State) (t : UpstreamTxn) :
    (s.grantPassThrough t).timebase = s.timebase ∧ (s.grantPassThrough t).directory = s.directory ∧
    (s.grantPassThrough t).pass = s.pass ∧ (s.grantPassThrough t).camera = s.camera ∧ (s.grantPassThrough
    t).recording = s.recording ∧ (s.grantPassThrough t).lineQueue = s.lineQueue ∧ (s.grantPassThrough
    t).interpolator = s.interpolator ∧ (s.grantPassThrough t).axes = s.axes ∧ (s.grantPassThrough
    t).writeInProcessing = s.writeInProcessing ∧ (s.grantPassThrough t).witness = s.witness ∧ (s.grantPassThrough
    t).resetControl = s.resetControl ∧ (s.grantPassThrough t).openOrders = s.openOrders ∧ (s.grantPassThrough t).due
    = s.due ∧ (s.grantPassThrough t).pending = s.pending ∧ (s.grantPassThrough t).memory.urgentRun =
    s.memory.urgentRun ∧ (s.grantPassThrough t).port.phase = s.port.phase ∧ (s.grantPassThrough t).port.code =
    s.port.code ∧ (s.grantPassThrough t).port.length = s.port.length ∧ (s.grantPassThrough t).port.args =
    s.port.args ∧ (s.grantPassThrough t).port.incoming = s.port.incoming ∧ (s.grantPassThrough t).port.response =
    s.port.response ∧ (s.grantPassThrough t).port.resetPending = s.port.resetPending ∧ (s.grantPassThrough
    t).port.mask = s.port.mask ∧ (s.grantPassThrough t).port.resetCause = s.port.resetCause ∧ (s.grantPassThrough
    t).port.powerSeen = s.port.powerSeen ∧ (s.grantPassThrough t).port.selectHigh = s.port.selectHigh := by
  unfold State.grantPassThrough
  split <;> simp

@[simp] theorem State.grantTake_frame (s : State) (r : DownstreamTxn) :
    (s.grantTake r).timebase = s.timebase ∧ (s.grantTake r).directory = s.directory ∧ (s.grantTake r).pass = s.pass
    ∧ (s.grantTake r).camera = s.camera ∧ (s.grantTake r).interpolator = s.interpolator ∧ (s.grantTake r).axes =
    s.axes ∧ (s.grantTake r).writeInProcessing = s.writeInProcessing ∧ (s.grantTake r).witness = s.witness ∧
    (s.grantTake r).port = s.port ∧ (s.grantTake r).resetControl = s.resetControl ∧ (s.grantTake r).lastUpstream =
    s.lastUpstream ∧ (s.grantTake r).openOrders = s.openOrders ∧ (s.grantTake r).due = s.due ∧ (s.grantTake
    r).pending = s.pending ∧ (s.grantTake r).recording.isOpen = s.recording.isOpen ∧ (s.grantTake r).recording.queue
    = s.recording.queue ∧ (s.grantTake r).recording.highWater = s.recording.highWater ∧ (s.grantTake
    r).lineQueue.geometry = s.lineQueue.geometry ∧ (s.grantTake r).lineQueue.lines = s.lineQueue.lines ∧
    (s.grantTake r).lineQueue.nextFetch = s.lineQueue.nextFetch ∧ (s.grantTake r).lineQueue.currentLine =
    s.lineQueue.currentLine ∧ (s.grantTake r).memory.upstream = s.memory.upstream ∧ (s.grantTake
    r).memory.blockedAddress = s.memory.blockedAddress ∧ (s.grantTake r).memory.protectBlocks =
    s.memory.protectBlocks ∧ (s.grantTake r).memory.partialBlocks = s.memory.partialBlocks := by
  simp [State.grantTake]

@[simp] theorem State.arbitrate_frame (s : State) :
    (s.arbitrate).timebase = s.timebase ∧ (s.arbitrate).directory = s.directory ∧ (s.arbitrate).pass = s.pass ∧
    (s.arbitrate).camera = s.camera ∧ (s.arbitrate).interpolator = s.interpolator ∧ (s.arbitrate).axes = s.axes ∧
    (s.arbitrate).writeInProcessing = s.writeInProcessing ∧ (s.arbitrate).witness = s.witness ∧
    (s.arbitrate).resetControl = s.resetControl ∧ (s.arbitrate).openOrders = s.openOrders ∧ (s.arbitrate).due =
    s.due ∧ (s.arbitrate).pending = s.pending ∧ (s.arbitrate).recording.isOpen = s.recording.isOpen ∧
    (s.arbitrate).recording.queue = s.recording.queue ∧ (s.arbitrate).recording.highWater = s.recording.highWater ∧
    (s.arbitrate).lineQueue.geometry = s.lineQueue.geometry ∧ (s.arbitrate).lineQueue.lines = s.lineQueue.lines ∧
    (s.arbitrate).lineQueue.nextFetch = s.lineQueue.nextFetch ∧ (s.arbitrate).lineQueue.currentLine =
    s.lineQueue.currentLine ∧ (s.arbitrate).port.phase = s.port.phase ∧ (s.arbitrate).port.code = s.port.code ∧
    (s.arbitrate).port.length = s.port.length ∧ (s.arbitrate).port.args = s.port.args ∧ (s.arbitrate).port.incoming
    = s.port.incoming ∧ (s.arbitrate).port.response = s.port.response ∧ (s.arbitrate).port.resetPending =
    s.port.resetPending ∧ (s.arbitrate).port.mask = s.port.mask ∧ (s.arbitrate).port.resetCause = s.port.resetCause
    ∧ (s.arbitrate).port.powerSeen = s.port.powerSeen ∧ (s.arbitrate).port.selectHigh = s.port.selectHigh := by
  unfold State.arbitrate
  dsimp only
  (repeat' split)
  all_goals simp

@[simp] theorem State.settle_frame (s : State) :
    (s.settle).timebase = s.timebase ∧ (s.settle).directory = s.directory ∧ (s.settle).pass = s.pass ∧
    (s.settle).camera = s.camera ∧ (s.settle).interpolator = s.interpolator ∧ (s.settle).axes = s.axes ∧
    (s.settle).writeInProcessing = s.writeInProcessing ∧ (s.settle).witness = s.witness ∧ (s.settle).resetControl =
    s.resetControl ∧ (s.settle).openOrders = s.openOrders ∧ (s.settle).due = s.due ∧ (s.settle).pending = s.pending
    ∧ (s.settle).recording.isOpen = s.recording.isOpen ∧ (s.settle).recording.queue = s.recording.queue ∧
    (s.settle).recording.highWater = s.recording.highWater ∧ (s.settle).lineQueue.geometry = s.lineQueue.geometry ∧
    (s.settle).lineQueue.lines = s.lineQueue.lines ∧ (s.settle).lineQueue.currentLine = s.lineQueue.currentLine ∧
    (s.settle).port.phase = s.port.phase ∧ (s.settle).port.code = s.port.code ∧ (s.settle).port.length =
    s.port.length ∧ (s.settle).port.args = s.port.args ∧ (s.settle).port.incoming = s.port.incoming ∧
    (s.settle).port.response = s.port.response ∧ (s.settle).port.resetPending = s.port.resetPending ∧
    (s.settle).port.mask = s.port.mask ∧ (s.settle).port.resetCause = s.port.resetCause ∧ (s.settle).port.powerSeen
    = s.port.powerSeen ∧ (s.settle).port.selectHigh = s.port.selectHigh := by
  unfold State.settle
  split <;> simp

@[simp] theorem State.requestInterpolation_frame (s : State) (a : Nat) (mode : PassMode) :
    (s.requestInterpolation a mode).timebase = s.timebase ∧ (s.requestInterpolation a mode).directory = s.directory
    ∧ (s.requestInterpolation a mode).camera = s.camera ∧ (s.requestInterpolation a mode).recording = s.recording ∧
    (s.requestInterpolation a mode).axes = s.axes ∧ (s.requestInterpolation a mode).writeInProcessing =
    s.writeInProcessing ∧ (s.requestInterpolation a mode).witness = s.witness ∧ (s.requestInterpolation a
    mode).resetControl = s.resetControl ∧ (s.requestInterpolation a mode).lastUpstream = s.lastUpstream ∧
    (s.requestInterpolation a mode).openOrders = s.openOrders ∧ (s.requestInterpolation a mode).due = s.due ∧
    (s.requestInterpolation a mode).pending = s.pending ∧ (s.requestInterpolation a mode).pass.state = s.pass.state
    ∧ (s.requestInterpolation a mode).pass.context = s.pass.context ∧ (s.requestInterpolation a mode).pass.pending =
    s.pass.pending ∧ (s.requestInterpolation a mode).pass.preroll = s.pass.preroll ∧ (s.requestInterpolation a
    mode).pass.hasRun = s.pass.hasRun ∧ (s.requestInterpolation a mode).interpolator.lastEval =
    s.interpolator.lastEval ∧ (s.requestInterpolation a mode).memory.upstream = s.memory.upstream ∧
    (s.requestInterpolation a mode).memory.urgentRun = s.memory.urgentRun ∧ (s.requestInterpolation a
    mode).memory.blockedAddress = s.memory.blockedAddress ∧ (s.requestInterpolation a mode).memory.protectBlocks =
    s.memory.protectBlocks ∧ (s.requestInterpolation a mode).memory.partialBlocks = s.memory.partialBlocks ∧
    (s.requestInterpolation a mode).port.phase = s.port.phase ∧ (s.requestInterpolation a mode).port.code =
    s.port.code ∧ (s.requestInterpolation a mode).port.length = s.port.length ∧ (s.requestInterpolation a
    mode).port.args = s.port.args ∧ (s.requestInterpolation a mode).port.incoming = s.port.incoming ∧
    (s.requestInterpolation a mode).port.response = s.port.response ∧ (s.requestInterpolation a
    mode).port.resetPending = s.port.resetPending ∧ (s.requestInterpolation a mode).port.mask = s.port.mask ∧
    (s.requestInterpolation a mode).port.resetCause = s.port.resetCause ∧ (s.requestInterpolation a
    mode).port.powerSeen = s.port.powerSeen ∧ (s.requestInterpolation a mode).port.selectHigh = s.port.selectHigh := by
  unfold State.requestInterpolation
  dsimp only
  (repeat' split)
  all_goals simp

@[simp] theorem State.finishInterpolation_frame (s : State) (r : InterpRequest) (o : InterpOutcome) :
    (s.finishInterpolation r o).timebase = s.timebase ∧ (s.finishInterpolation r o).directory = s.directory ∧
    (s.finishInterpolation r o).camera = s.camera ∧ (s.finishInterpolation r o).recording = s.recording ∧
    (s.finishInterpolation r o).lineQueue = s.lineQueue ∧ (s.finishInterpolation r o).memory = s.memory ∧
    (s.finishInterpolation r o).writeInProcessing = s.writeInProcessing ∧ (s.finishInterpolation r o).witness =
    s.witness ∧ (s.finishInterpolation r o).resetControl = s.resetControl ∧ (s.finishInterpolation r o).lastUpstream
    = s.lastUpstream ∧ (s.finishInterpolation r o).openOrders = s.openOrders ∧ (s.finishInterpolation r o).due =
    s.due ∧ (s.finishInterpolation r o).pending = s.pending ∧ (s.finishInterpolation r o).pass.state = s.pass.state
    ∧ (s.finishInterpolation r o).pass.context = s.pass.context ∧ (s.finishInterpolation r o).pass.pending =
    s.pass.pending ∧ (s.finishInterpolation r o).pass.preroll = s.pass.preroll ∧ (s.finishInterpolation r
    o).pass.hasRun = s.pass.hasRun ∧ (s.finishInterpolation r o).port.phase = s.port.phase ∧ (s.finishInterpolation
    r o).port.code = s.port.code ∧ (s.finishInterpolation r o).port.length = s.port.length ∧ (s.finishInterpolation
    r o).port.args = s.port.args ∧ (s.finishInterpolation r o).port.incoming = s.port.incoming ∧
    (s.finishInterpolation r o).port.response = s.port.response ∧ (s.finishInterpolation r o).port.resetPending =
    s.port.resetPending ∧ (s.finishInterpolation r o).port.mask = s.port.mask ∧ (s.finishInterpolation r
    o).port.resetCause = s.port.resetCause ∧ (s.finishInterpolation r o).port.powerSeen = s.port.powerSeen ∧
    (s.finishInterpolation r o).port.selectHigh = s.port.selectHigh := by
  unfold State.finishInterpolation
  (repeat' split)
  all_goals simp

@[simp] theorem State.followClamps_frame (s : State) :
    (s.followClamps).timebase = s.timebase ∧ (s.followClamps).pass = s.pass ∧ (s.followClamps).camera = s.camera ∧
    (s.followClamps).recording = s.recording ∧ (s.followClamps).lineQueue = s.lineQueue ∧
    (s.followClamps).interpolator = s.interpolator ∧ (s.followClamps).memory = s.memory ∧ (s.followClamps).axes =
    s.axes ∧ (s.followClamps).writeInProcessing = s.writeInProcessing ∧ (s.followClamps).witness = s.witness ∧
    (s.followClamps).port = s.port ∧ (s.followClamps).resetControl = s.resetControl ∧ (s.followClamps).lastUpstream
    = s.lastUpstream ∧ (s.followClamps).openOrders = s.openOrders ∧ (s.followClamps).due = s.due ∧
    (s.followClamps).pending = s.pending ∧ (s.followClamps).directory.regionBase = s.directory.regionBase ∧
    (s.followClamps).directory.regionSize = s.directory.regionSize ∧ (s.followClamps).directory.verifyOrder =
    s.directory.verifyOrder ∧ (s.followClamps).directory.verifyCursor = s.directory.verifyCursor := by
  unfold State.followClamps
  split <;> simp

@[simp] theorem State.reportClamp_frame (s : State) :
    (s.reportClamp).timebase = s.timebase ∧ (s.reportClamp).camera = s.camera ∧ (s.reportClamp).recording =
    s.recording ∧ (s.reportClamp).lineQueue = s.lineQueue ∧ (s.reportClamp).interpolator = s.interpolator ∧
    (s.reportClamp).memory = s.memory ∧ (s.reportClamp).axes = s.axes ∧ (s.reportClamp).writeInProcessing =
    s.writeInProcessing ∧ (s.reportClamp).witness = s.witness ∧ (s.reportClamp).port = s.port ∧
    (s.reportClamp).resetControl = s.resetControl ∧ (s.reportClamp).lastUpstream = s.lastUpstream ∧
    (s.reportClamp).openOrders = s.openOrders ∧ (s.reportClamp).due = s.due ∧ (s.reportClamp).pending = s.pending ∧
    (s.reportClamp).directory.regionBase = s.directory.regionBase ∧ (s.reportClamp).directory.regionSize =
    s.directory.regionSize ∧ (s.reportClamp).directory.verifyOrder = s.directory.verifyOrder ∧
    (s.reportClamp).directory.verifyCursor = s.directory.verifyCursor ∧ (s.reportClamp).pass.state = s.pass.state ∧
    (s.reportClamp).pass.context = s.pass.context ∧ (s.reportClamp).pass.pending = s.pass.pending ∧
    (s.reportClamp).pass.preroll = s.pass.preroll ∧ (s.reportClamp).pass.hasRun = s.pass.hasRun := by
  unfold State.reportClamp
  dsimp only
  (repeat' split)
  all_goals simp

@[simp] theorem State.handBack_frame (s : State) (a : Nat) (c : Int) :
    (s.handBack a c).timebase = s.timebase ∧ (s.handBack a c).camera = s.camera ∧ (s.handBack a c).recording =
    s.recording ∧ (s.handBack a c).lineQueue = s.lineQueue ∧ (s.handBack a c).interpolator = s.interpolator ∧
    (s.handBack a c).writeInProcessing = s.writeInProcessing ∧ (s.handBack a c).witness = s.witness ∧ (s.handBack a
    c).resetControl = s.resetControl ∧ (s.handBack a c).lastUpstream = s.lastUpstream ∧ (s.handBack a c).openOrders
    = s.openOrders ∧ (s.handBack a c).due = s.due ∧ (s.handBack a c).pending = s.pending ∧ (s.handBack a
    c).directory.regionBase = s.directory.regionBase ∧ (s.handBack a c).directory.regionSize =
    s.directory.regionSize ∧ (s.handBack a c).directory.verifyOrder = s.directory.verifyOrder ∧ (s.handBack a
    c).directory.verifyCursor = s.directory.verifyCursor ∧ (s.handBack a c).pass.state = s.pass.state ∧ (s.handBack
    a c).pass.context = s.pass.context ∧ (s.handBack a c).pass.pending = s.pass.pending ∧ (s.handBack a
    c).pass.preroll = s.pass.preroll ∧ (s.handBack a c).pass.hasRun = s.pass.hasRun ∧ (s.handBack a
    c).memory.downstream = s.memory.downstream ∧ (s.handBack a c).memory.urgentRun = s.memory.urgentRun ∧
    (s.handBack a c).memory.blockedAddress = s.memory.blockedAddress ∧ (s.handBack a c).memory.protectBlocks =
    s.memory.protectBlocks ∧ (s.handBack a c).memory.partialBlocks = s.memory.partialBlocks ∧ (s.handBack a
    c).port.phase = s.port.phase ∧ (s.handBack a c).port.code = s.port.code ∧ (s.handBack a c).port.length =
    s.port.length ∧ (s.handBack a c).port.args = s.port.args ∧ (s.handBack a c).port.incoming = s.port.incoming ∧
    (s.handBack a c).port.response = s.port.response ∧ (s.handBack a c).port.resetPending = s.port.resetPending ∧
    (s.handBack a c).port.mask = s.port.mask ∧ (s.handBack a c).port.resetCause = s.port.resetCause ∧ (s.handBack a
    c).port.powerSeen = s.port.powerSeen ∧ (s.handBack a c).port.selectHigh = s.port.selectHigh := by
  unfold State.handBack
  dsimp only
  (repeat' split)
  all_goals simp

@[simp] theorem State.saturateWrite_frame (s : State) (a : Nat) (v : Int) :
    (s.saturateWrite a v).timebase = s.timebase ∧ (s.saturateWrite a v).directory = s.directory ∧ (s.saturateWrite a
    v).camera = s.camera ∧ (s.saturateWrite a v).recording = s.recording ∧ (s.saturateWrite a v).lineQueue =
    s.lineQueue ∧ (s.saturateWrite a v).interpolator = s.interpolator ∧ (s.saturateWrite a v).memory = s.memory ∧
    (s.saturateWrite a v).writeInProcessing = s.writeInProcessing ∧ (s.saturateWrite a v).witness = s.witness ∧
    (s.saturateWrite a v).resetControl = s.resetControl ∧ (s.saturateWrite a v).lastUpstream = s.lastUpstream ∧
    (s.saturateWrite a v).openOrders = s.openOrders ∧ (s.saturateWrite a v).due = s.due ∧ (s.saturateWrite a
    v).pending = s.pending ∧ (s.saturateWrite a v).pass.state = s.pass.state ∧ (s.saturateWrite a v).pass.context =
    s.pass.context ∧ (s.saturateWrite a v).pass.pending = s.pass.pending ∧ (s.saturateWrite a v).pass.preroll =
    s.pass.preroll ∧ (s.saturateWrite a v).pass.hasRun = s.pass.hasRun ∧ (s.saturateWrite a v).port.phase =
    s.port.phase ∧ (s.saturateWrite a v).port.code = s.port.code ∧ (s.saturateWrite a v).port.length = s.port.length
    ∧ (s.saturateWrite a v).port.args = s.port.args ∧ (s.saturateWrite a v).port.incoming = s.port.incoming ∧
    (s.saturateWrite a v).port.response = s.port.response ∧ (s.saturateWrite a v).port.resetPending =
    s.port.resetPending ∧ (s.saturateWrite a v).port.mask = s.port.mask ∧ (s.saturateWrite a v).port.resetCause =
    s.port.resetCause ∧ (s.saturateWrite a v).port.powerSeen = s.port.powerSeen ∧ (s.saturateWrite a
    v).port.selectHigh = s.port.selectHigh := by
  unfold State.saturateWrite
  split <;> simp

@[simp] theorem State.takeTargetWrite_frame (s : State) (a : Nat) (v : Int) :
    (s.takeTargetWrite a v).timebase = s.timebase ∧ (s.takeTargetWrite a v).camera = s.camera ∧ (s.takeTargetWrite a
    v).recording = s.recording ∧ (s.takeTargetWrite a v).witness = s.witness ∧ (s.takeTargetWrite a v).resetControl
    = s.resetControl ∧ (s.takeTargetWrite a v).lastUpstream = s.lastUpstream ∧ (s.takeTargetWrite a v).openOrders =
    s.openOrders ∧ (s.takeTargetWrite a v).due = s.due ∧ (s.takeTargetWrite a v).pending = s.pending ∧
    (s.takeTargetWrite a v).directory.regionBase = s.directory.regionBase ∧ (s.takeTargetWrite a
    v).directory.regionSize = s.directory.regionSize ∧ (s.takeTargetWrite a v).directory.verifyOrder =
    s.directory.verifyOrder ∧ (s.takeTargetWrite a v).directory.verifyCursor = s.directory.verifyCursor ∧
    (s.takeTargetWrite a v).pass.state = s.pass.state ∧ (s.takeTargetWrite a v).pass.context = s.pass.context ∧
    (s.takeTargetWrite a v).pass.pending = s.pass.pending ∧ (s.takeTargetWrite a v).pass.preroll = s.pass.preroll ∧
    (s.takeTargetWrite a v).pass.hasRun = s.pass.hasRun ∧ (s.takeTargetWrite a v).interpolator.lastEval =
    s.interpolator.lastEval ∧ (s.takeTargetWrite a v).memory.urgentRun = s.memory.urgentRun ∧ (s.takeTargetWrite a
    v).memory.blockedAddress = s.memory.blockedAddress ∧ (s.takeTargetWrite a v).memory.protectBlocks =
    s.memory.protectBlocks ∧ (s.takeTargetWrite a v).memory.partialBlocks = s.memory.partialBlocks ∧
    (s.takeTargetWrite a v).port.phase = s.port.phase ∧ (s.takeTargetWrite a v).port.code = s.port.code ∧
    (s.takeTargetWrite a v).port.length = s.port.length ∧ (s.takeTargetWrite a v).port.args = s.port.args ∧
    (s.takeTargetWrite a v).port.incoming = s.port.incoming ∧ (s.takeTargetWrite a v).port.response =
    s.port.response ∧ (s.takeTargetWrite a v).port.resetPending = s.port.resetPending ∧ (s.takeTargetWrite a
    v).port.mask = s.port.mask ∧ (s.takeTargetWrite a v).port.resetCause = s.port.resetCause ∧ (s.takeTargetWrite a
    v).port.powerSeen = s.port.powerSeen ∧ (s.takeTargetWrite a v).port.selectHigh = s.port.selectHigh := by
  unfold State.takeTargetWrite
  dsimp only
  (repeat' split)
  all_goals simp

@[simp] theorem State.finishWrite_frame (s : State) (w : WriteInProcessing) (o : InterpOutcome) (late : Bool) :
    (s.finishWrite w o late).timebase = s.timebase ∧ (s.finishWrite w o late).camera = s.camera ∧ (s.finishWrite w o
    late).recording = s.recording ∧ (s.finishWrite w o late).lineQueue = s.lineQueue ∧ (s.finishWrite w o
    late).interpolator = s.interpolator ∧ (s.finishWrite w o late).resetControl = s.resetControl ∧ (s.finishWrite w
    o late).lastUpstream = s.lastUpstream ∧ (s.finishWrite w o late).openOrders = s.openOrders ∧ (s.finishWrite w o
    late).pending = s.pending ∧ (s.finishWrite w o late).directory.regionBase = s.directory.regionBase ∧
    (s.finishWrite w o late).directory.regionSize = s.directory.regionSize ∧ (s.finishWrite w o
    late).directory.verifyOrder = s.directory.verifyOrder ∧ (s.finishWrite w o late).directory.verifyCursor =
    s.directory.verifyCursor ∧ (s.finishWrite w o late).pass.state = s.pass.state ∧ (s.finishWrite w o
    late).pass.context = s.pass.context ∧ (s.finishWrite w o late).pass.preroll = s.pass.preroll ∧ (s.finishWrite w
    o late).pass.hasRun = s.pass.hasRun ∧ (s.finishWrite w o late).memory.downstream = s.memory.downstream ∧
    (s.finishWrite w o late).memory.urgentRun = s.memory.urgentRun ∧ (s.finishWrite w o late).memory.blockedAddress
    = s.memory.blockedAddress ∧ (s.finishWrite w o late).memory.protectBlocks = s.memory.protectBlocks ∧
    (s.finishWrite w o late).memory.partialBlocks = s.memory.partialBlocks ∧ (s.finishWrite w o
    late).witness.frameStart = s.witness.frameStart ∧ (s.finishWrite w o late).witness.log = s.witness.log ∧
    (s.finishWrite w o late).witness.lost = s.witness.lost ∧ (s.finishWrite w o late).port.phase = s.port.phase ∧
    (s.finishWrite w o late).port.code = s.port.code ∧ (s.finishWrite w o late).port.length = s.port.length ∧
    (s.finishWrite w o late).port.args = s.port.args ∧ (s.finishWrite w o late).port.incoming = s.port.incoming ∧
    (s.finishWrite w o late).port.response = s.port.response ∧ (s.finishWrite w o late).port.resetPending =
    s.port.resetPending ∧ (s.finishWrite w o late).port.mask = s.port.mask ∧ (s.finishWrite w o
    late).port.resetCause = s.port.resetCause ∧ (s.finishWrite w o late).port.powerSeen = s.port.powerSeen ∧
    (s.finishWrite w o late).port.selectHigh = s.port.selectHigh := by
  unfold State.finishWrite
  split <;> simp

@[simp] theorem State.finishHeldWrite_frame (s : State) :
    (s.finishHeldWrite).timebase = s.timebase ∧ (s.finishHeldWrite).camera = s.camera ∧
    (s.finishHeldWrite).recording = s.recording ∧ (s.finishHeldWrite).lineQueue = s.lineQueue ∧
    (s.finishHeldWrite).witness = s.witness ∧ (s.finishHeldWrite).resetControl = s.resetControl ∧
    (s.finishHeldWrite).lastUpstream = s.lastUpstream ∧ (s.finishHeldWrite).openOrders = s.openOrders ∧
    (s.finishHeldWrite).due = s.due ∧ (s.finishHeldWrite).pending = s.pending ∧
    (s.finishHeldWrite).directory.regionBase = s.directory.regionBase ∧ (s.finishHeldWrite).directory.regionSize =
    s.directory.regionSize ∧ (s.finishHeldWrite).directory.verifyOrder = s.directory.verifyOrder ∧
    (s.finishHeldWrite).directory.verifyCursor = s.directory.verifyCursor ∧ (s.finishHeldWrite).pass.state =
    s.pass.state ∧ (s.finishHeldWrite).pass.context = s.pass.context ∧ (s.finishHeldWrite).pass.pending =
    s.pass.pending ∧ (s.finishHeldWrite).pass.preroll = s.pass.preroll ∧ (s.finishHeldWrite).pass.hasRun =
    s.pass.hasRun ∧ (s.finishHeldWrite).interpolator.lastEval = s.interpolator.lastEval ∧
    (s.finishHeldWrite).memory.downstream = s.memory.downstream ∧ (s.finishHeldWrite).memory.urgentRun =
    s.memory.urgentRun ∧ (s.finishHeldWrite).memory.blockedAddress = s.memory.blockedAddress ∧
    (s.finishHeldWrite).memory.protectBlocks = s.memory.protectBlocks ∧ (s.finishHeldWrite).memory.partialBlocks =
    s.memory.partialBlocks ∧ (s.finishHeldWrite).port.phase = s.port.phase ∧ (s.finishHeldWrite).port.code =
    s.port.code ∧ (s.finishHeldWrite).port.length = s.port.length ∧ (s.finishHeldWrite).port.args = s.port.args ∧
    (s.finishHeldWrite).port.incoming = s.port.incoming ∧ (s.finishHeldWrite).port.response = s.port.response ∧
    (s.finishHeldWrite).port.resetPending = s.port.resetPending ∧ (s.finishHeldWrite).port.mask = s.port.mask ∧
    (s.finishHeldWrite).port.resetCause = s.port.resetCause ∧ (s.finishHeldWrite).port.powerSeen = s.port.powerSeen
    ∧ (s.finishHeldWrite).port.selectHigh = s.port.selectHigh := by
  unfold State.finishHeldWrite
  split <;> simp

@[simp] theorem State.observeFeedback_frame (s : State) (a : Nat) (data : Word) (late : Bool) :
    (s.observeFeedback a data late).timebase = s.timebase ∧ (s.observeFeedback a data late).directory = s.directory
    ∧ (s.observeFeedback a data late).camera = s.camera ∧ (s.observeFeedback a data late).recording = s.recording ∧
    (s.observeFeedback a data late).lineQueue = s.lineQueue ∧ (s.observeFeedback a data late).interpolator =
    s.interpolator ∧ (s.observeFeedback a data late).memory = s.memory ∧ (s.observeFeedback a data
    late).writeInProcessing = s.writeInProcessing ∧ (s.observeFeedback a data late).resetControl = s.resetControl ∧
    (s.observeFeedback a data late).lastUpstream = s.lastUpstream ∧ (s.observeFeedback a data late).openOrders =
    s.openOrders ∧ (s.observeFeedback a data late).pending = s.pending ∧ (s.observeFeedback a data late).pass.state
    = s.pass.state ∧ (s.observeFeedback a data late).pass.context = s.pass.context ∧ (s.observeFeedback a data
    late).pass.preroll = s.pass.preroll ∧ (s.observeFeedback a data late).pass.hasRun = s.pass.hasRun ∧
    (s.observeFeedback a data late).pass.summary = s.pass.summary ∧ (s.observeFeedback a data
    late).witness.frameStart = s.witness.frameStart ∧ (s.observeFeedback a data late).witness.log = s.witness.log ∧
    (s.observeFeedback a data late).witness.lost = s.witness.lost ∧ (s.observeFeedback a data late).port.phase =
    s.port.phase ∧ (s.observeFeedback a data late).port.code = s.port.code ∧ (s.observeFeedback a data
    late).port.length = s.port.length ∧ (s.observeFeedback a data late).port.args = s.port.args ∧ (s.observeFeedback
    a data late).port.incoming = s.port.incoming ∧ (s.observeFeedback a data late).port.response = s.port.response ∧
    (s.observeFeedback a data late).port.resetPending = s.port.resetPending ∧ (s.observeFeedback a data
    late).port.mask = s.port.mask ∧ (s.observeFeedback a data late).port.resetCause = s.port.resetCause ∧
    (s.observeFeedback a data late).port.powerSeen = s.port.powerSeen ∧ (s.observeFeedback a data
    late).port.selectHigh = s.port.selectHigh := by
  unfold State.observeFeedback
  dsimp only
  (repeat' split)
  all_goals simp

@[simp] theorem State.cameraBoundary_frame (s : State) :
    (s.cameraBoundary).timebase = s.timebase ∧ (s.cameraBoundary).directory = s.directory ∧ (s.cameraBoundary).pass
    = s.pass ∧ (s.cameraBoundary).recording = s.recording ∧ (s.cameraBoundary).lineQueue = s.lineQueue ∧
    (s.cameraBoundary).interpolator = s.interpolator ∧ (s.cameraBoundary).memory = s.memory ∧
    (s.cameraBoundary).axes = s.axes ∧ (s.cameraBoundary).writeInProcessing = s.writeInProcessing ∧
    (s.cameraBoundary).witness = s.witness ∧ (s.cameraBoundary).resetControl = s.resetControl ∧
    (s.cameraBoundary).lastUpstream = s.lastUpstream ∧ (s.cameraBoundary).openOrders = s.openOrders ∧
    (s.cameraBoundary).due = s.due ∧ (s.cameraBoundary).pending = s.pending ∧ (s.cameraBoundary).port.phase =
    s.port.phase ∧ (s.cameraBoundary).port.code = s.port.code ∧ (s.cameraBoundary).port.length = s.port.length ∧
    (s.cameraBoundary).port.args = s.port.args ∧ (s.cameraBoundary).port.incoming = s.port.incoming ∧
    (s.cameraBoundary).port.response = s.port.response ∧ (s.cameraBoundary).port.resetPending = s.port.resetPending
    ∧ (s.cameraBoundary).port.mask = s.port.mask ∧ (s.cameraBoundary).port.resetCause = s.port.resetCause ∧
    (s.cameraBoundary).port.powerSeen = s.port.powerSeen ∧ (s.cameraBoundary).port.selectHigh = s.port.selectHigh ∧
    (s.cameraBoundary).camera.receiver = s.camera.receiver ∧ (s.cameraBoundary).camera.rule = s.camera.rule ∧
    (s.cameraBoundary).camera.wordCount = s.camera.wordCount ∧ (s.cameraBoundary).camera.errorCount =
    s.camera.errorCount := by
  unfold State.cameraBoundary
  dsimp only
  (repeat' split)
  all_goals simp [Camera.fileSlot]

@[simp] theorem State.declarationReaches_frame (s : State) (old new : Byte) :
    (s.declarationReaches old new).timebase = s.timebase ∧ (s.declarationReaches old new).directory = s.directory ∧
    (s.declarationReaches old new).camera = s.camera ∧ (s.declarationReaches old new).recording = s.recording ∧
    (s.declarationReaches old new).lineQueue = s.lineQueue ∧ (s.declarationReaches old new).interpolator =
    s.interpolator ∧ (s.declarationReaches old new).memory = s.memory ∧ (s.declarationReaches old new).axes = s.axes
    ∧ (s.declarationReaches old new).writeInProcessing = s.writeInProcessing ∧ (s.declarationReaches old
    new).witness = s.witness ∧ (s.declarationReaches old new).resetControl = s.resetControl ∧ (s.declarationReaches
    old new).lastUpstream = s.lastUpstream ∧ (s.declarationReaches old new).openOrders = s.openOrders ∧
    (s.declarationReaches old new).due = s.due ∧ (s.declarationReaches old new).pending = s.pending ∧
    (s.declarationReaches old new).pass.context = s.pass.context ∧ (s.declarationReaches old new).pass.hasRun =
    s.pass.hasRun ∧ (s.declarationReaches old new).pass.summary = s.pass.summary ∧ (s.declarationReaches old
    new).port.phase = s.port.phase ∧ (s.declarationReaches old new).port.code = s.port.code ∧ (s.declarationReaches
    old new).port.length = s.port.length ∧ (s.declarationReaches old new).port.args = s.port.args ∧
    (s.declarationReaches old new).port.incoming = s.port.incoming ∧ (s.declarationReaches old new).port.response =
    s.port.response ∧ (s.declarationReaches old new).port.resetPending = s.port.resetPending ∧ (s.declarationReaches
    old new).port.mask = s.port.mask ∧ (s.declarationReaches old new).port.resetCause = s.port.resetCause ∧
    (s.declarationReaches old new).port.powerSeen = s.port.powerSeen ∧ (s.declarationReaches old
    new).port.selectHigh = s.port.selectHigh := by
  unfold State.declarationReaches
  split
  · split <;> simp
  · simp

@[simp] theorem State.makeRecordInfo_frame (s : State) :
    (s.makeRecordInfo).timebase = s.timebase ∧ (s.makeRecordInfo).pass = s.pass ∧ (s.makeRecordInfo).camera =
    s.camera ∧ (s.makeRecordInfo).recording = s.recording ∧ (s.makeRecordInfo).lineQueue = s.lineQueue ∧
    (s.makeRecordInfo).interpolator = s.interpolator ∧ (s.makeRecordInfo).memory = s.memory ∧
    (s.makeRecordInfo).axes = s.axes ∧ (s.makeRecordInfo).writeInProcessing = s.writeInProcessing ∧
    (s.makeRecordInfo).witness = s.witness ∧ (s.makeRecordInfo).port = s.port ∧ (s.makeRecordInfo).resetControl =
    s.resetControl ∧ (s.makeRecordInfo).lastUpstream = s.lastUpstream ∧ (s.makeRecordInfo).openOrders = s.openOrders
    ∧ (s.makeRecordInfo).due = s.due ∧ (s.makeRecordInfo).pending = s.pending ∧
    (s.makeRecordInfo).directory.regionBase = s.directory.regionBase ∧ (s.makeRecordInfo).directory.regionSize =
    s.directory.regionSize ∧ (s.makeRecordInfo).directory.verifyOrder = s.directory.verifyOrder ∧
    (s.makeRecordInfo).directory.verifyCursor = s.directory.verifyCursor := by
  unfold State.makeRecordInfo
  split
  · split <;> simp
  · simp

@[simp] theorem State.firstRun_frame (s : State) :
    (s.firstRun).timebase = s.timebase ∧ (s.firstRun).camera = s.camera ∧ (s.firstRun).recording = s.recording ∧
    (s.firstRun).lineQueue = s.lineQueue ∧ (s.firstRun).interpolator = s.interpolator ∧ (s.firstRun).memory =
    s.memory ∧ (s.firstRun).axes = s.axes ∧ (s.firstRun).writeInProcessing = s.writeInProcessing ∧
    (s.firstRun).witness = s.witness ∧ (s.firstRun).port = s.port ∧ (s.firstRun).resetControl = s.resetControl ∧
    (s.firstRun).lastUpstream = s.lastUpstream ∧ (s.firstRun).openOrders = s.openOrders ∧ (s.firstRun).due = s.due ∧
    (s.firstRun).pending = s.pending ∧ (s.firstRun).directory.regionBase = s.directory.regionBase ∧
    (s.firstRun).directory.regionSize = s.directory.regionSize ∧ (s.firstRun).directory.verifyOrder =
    s.directory.verifyOrder ∧ (s.firstRun).directory.verifyCursor = s.directory.verifyCursor ∧
    (s.firstRun).pass.state = s.pass.state ∧ (s.firstRun).pass.context = s.pass.context ∧ (s.firstRun).pass.pending
    = s.pass.pending ∧ (s.firstRun).pass.preroll = s.pass.preroll := by
  unfold State.firstRun
  split <;> simp

@[simp] theorem State.enterRunning_frame (s : State) :
    (s.enterRunning).camera = s.camera ∧ (s.enterRunning).lineQueue = s.lineQueue ∧ (s.enterRunning).interpolator =
    s.interpolator ∧ (s.enterRunning).memory = s.memory ∧ (s.enterRunning).writeInProcessing = s.writeInProcessing ∧
    (s.enterRunning).witness = s.witness ∧ (s.enterRunning).resetControl = s.resetControl ∧
    (s.enterRunning).lastUpstream = s.lastUpstream ∧ (s.enterRunning).openOrders = s.openOrders ∧
    (s.enterRunning).due = s.due ∧ (s.enterRunning).pending = s.pending ∧ (s.enterRunning).timebase.active =
    s.timebase.active ∧ (s.enterRunning).timebase.pending = s.timebase.pending ∧ (s.enterRunning).timebase.lock =
    s.timebase.lock ∧ (s.enterRunning).timebase.run = s.timebase.run ∧ (s.enterRunning).timebase.lockPending =
    s.timebase.lockPending ∧ (s.enterRunning).timebase.history = s.timebase.history ∧
    (s.enterRunning).timebase.holdoverCount = s.timebase.holdoverCount ∧ (s.enterRunning).timebase.interval =
    s.timebase.interval ∧ (s.enterRunning).timebase.flywheel = s.timebase.flywheel ∧
    (s.enterRunning).timebase.watching = s.timebase.watching ∧ (s.enterRunning).timebase.pulseNear =
    s.timebase.pulseNear ∧ (s.enterRunning).timebase.pulseBefore = s.timebase.pulseBefore ∧
    (s.enterRunning).timebase.record = s.timebase.record ∧ (s.enterRunning).timebase.refTime = s.timebase.refTime ∧
    (s.enterRunning).timebase.passPulses = s.timebase.passPulses ∧ (s.enterRunning).timebase.advances =
    s.timebase.advances ∧ (s.enterRunning).timebase.frameOffset = s.timebase.frameOffset ∧
    (s.enterRunning).timebase.slips = s.timebase.slips ∧ (s.enterRunning).directory.regionBase =
    s.directory.regionBase ∧ (s.enterRunning).directory.regionSize = s.directory.regionSize ∧
    (s.enterRunning).directory.verifyOrder = s.directory.verifyOrder ∧ (s.enterRunning).directory.verifyCursor =
    s.directory.verifyCursor ∧ (s.enterRunning).pass.context = s.pass.context ∧ (s.enterRunning).port.phase =
    s.port.phase ∧ (s.enterRunning).port.code = s.port.code ∧ (s.enterRunning).port.length = s.port.length ∧
    (s.enterRunning).port.args = s.port.args ∧ (s.enterRunning).port.incoming = s.port.incoming ∧
    (s.enterRunning).port.response = s.port.response ∧ (s.enterRunning).port.resetPending = s.port.resetPending ∧
    (s.enterRunning).port.mask = s.port.mask ∧ (s.enterRunning).port.resetCause = s.port.resetCause ∧
    (s.enterRunning).port.powerSeen = s.port.powerSeen ∧ (s.enterRunning).port.selectHigh = s.port.selectHigh := by
  simp [State.enterRunning]

@[simp] theorem State.applyRequest_frame (s : State) (r : Request) :
    (s.applyRequest r).camera = s.camera ∧ (s.applyRequest r).lineQueue = s.lineQueue ∧ (s.applyRequest
    r).interpolator = s.interpolator ∧ (s.applyRequest r).memory = s.memory ∧ (s.applyRequest r).writeInProcessing =
    s.writeInProcessing ∧ (s.applyRequest r).witness = s.witness ∧ (s.applyRequest r).resetControl = s.resetControl
    ∧ (s.applyRequest r).lastUpstream = s.lastUpstream ∧ (s.applyRequest r).openOrders = s.openOrders ∧
    (s.applyRequest r).due = s.due ∧ (s.applyRequest r).pending = s.pending ∧ (s.applyRequest r).timebase.active =
    s.timebase.active ∧ (s.applyRequest r).timebase.pending = s.timebase.pending ∧ (s.applyRequest r).timebase.lock
    = s.timebase.lock ∧ (s.applyRequest r).timebase.run = s.timebase.run ∧ (s.applyRequest r).timebase.lockPending =
    s.timebase.lockPending ∧ (s.applyRequest r).timebase.history = s.timebase.history ∧ (s.applyRequest
    r).timebase.holdoverCount = s.timebase.holdoverCount ∧ (s.applyRequest r).timebase.interval =
    s.timebase.interval ∧ (s.applyRequest r).timebase.flywheel = s.timebase.flywheel ∧ (s.applyRequest
    r).timebase.watching = s.timebase.watching ∧ (s.applyRequest r).timebase.pulseNear = s.timebase.pulseNear ∧
    (s.applyRequest r).timebase.pulseBefore = s.timebase.pulseBefore ∧ (s.applyRequest r).timebase.record =
    s.timebase.record ∧ (s.applyRequest r).timebase.refTime = s.timebase.refTime ∧ (s.applyRequest
    r).timebase.passPulses = s.timebase.passPulses ∧ (s.applyRequest r).timebase.advances = s.timebase.advances ∧
    (s.applyRequest r).timebase.frameOffset = s.timebase.frameOffset ∧ (s.applyRequest r).timebase.slips =
    s.timebase.slips ∧ (s.applyRequest r).directory.regionBase = s.directory.regionBase ∧ (s.applyRequest
    r).directory.regionSize = s.directory.regionSize ∧ (s.applyRequest r).directory.verifyOrder =
    s.directory.verifyOrder ∧ (s.applyRequest r).directory.verifyCursor = s.directory.verifyCursor ∧ (s.applyRequest
    r).pass.context = s.pass.context ∧ (s.applyRequest r).port.phase = s.port.phase ∧ (s.applyRequest r).port.code =
    s.port.code ∧ (s.applyRequest r).port.length = s.port.length ∧ (s.applyRequest r).port.args = s.port.args ∧
    (s.applyRequest r).port.incoming = s.port.incoming ∧ (s.applyRequest r).port.response = s.port.response ∧
    (s.applyRequest r).port.resetPending = s.port.resetPending ∧ (s.applyRequest r).port.mask = s.port.mask ∧
    (s.applyRequest r).port.resetCause = s.port.resetCause ∧ (s.applyRequest r).port.powerSeen = s.port.powerSeen ∧
    (s.applyRequest r).port.selectHigh = s.port.selectHigh := by
  unfold State.applyRequest
  split <;> simp

@[simp] theorem State.applyPending_frame (s : State) :
    (s.applyPending).camera = s.camera ∧ (s.applyPending).lineQueue = s.lineQueue ∧ (s.applyPending).interpolator =
    s.interpolator ∧ (s.applyPending).memory = s.memory ∧ (s.applyPending).writeInProcessing = s.writeInProcessing ∧
    (s.applyPending).witness = s.witness ∧ (s.applyPending).resetControl = s.resetControl ∧
    (s.applyPending).lastUpstream = s.lastUpstream ∧ (s.applyPending).openOrders = s.openOrders ∧
    (s.applyPending).due = s.due ∧ (s.applyPending).pending = s.pending ∧ (s.applyPending).timebase.active =
    s.timebase.active ∧ (s.applyPending).timebase.pending = s.timebase.pending ∧ (s.applyPending).timebase.lock =
    s.timebase.lock ∧ (s.applyPending).timebase.run = s.timebase.run ∧ (s.applyPending).timebase.lockPending =
    s.timebase.lockPending ∧ (s.applyPending).timebase.history = s.timebase.history ∧
    (s.applyPending).timebase.holdoverCount = s.timebase.holdoverCount ∧ (s.applyPending).timebase.interval =
    s.timebase.interval ∧ (s.applyPending).timebase.flywheel = s.timebase.flywheel ∧
    (s.applyPending).timebase.watching = s.timebase.watching ∧ (s.applyPending).timebase.pulseNear =
    s.timebase.pulseNear ∧ (s.applyPending).timebase.pulseBefore = s.timebase.pulseBefore ∧
    (s.applyPending).timebase.record = s.timebase.record ∧ (s.applyPending).timebase.refTime = s.timebase.refTime ∧
    (s.applyPending).timebase.passPulses = s.timebase.passPulses ∧ (s.applyPending).timebase.advances =
    s.timebase.advances ∧ (s.applyPending).timebase.frameOffset = s.timebase.frameOffset ∧
    (s.applyPending).timebase.slips = s.timebase.slips ∧ (s.applyPending).directory.regionBase =
    s.directory.regionBase ∧ (s.applyPending).directory.regionSize = s.directory.regionSize ∧
    (s.applyPending).directory.verifyOrder = s.directory.verifyOrder ∧ (s.applyPending).directory.verifyCursor =
    s.directory.verifyCursor ∧ (s.applyPending).pass.context = s.pass.context ∧ (s.applyPending).port.phase =
    s.port.phase ∧ (s.applyPending).port.code = s.port.code ∧ (s.applyPending).port.length = s.port.length ∧
    (s.applyPending).port.args = s.port.args ∧ (s.applyPending).port.incoming = s.port.incoming ∧
    (s.applyPending).port.response = s.port.response ∧ (s.applyPending).port.resetPending = s.port.resetPending ∧
    (s.applyPending).port.mask = s.port.mask ∧ (s.applyPending).port.resetCause = s.port.resetCause ∧
    (s.applyPending).port.powerSeen = s.port.powerSeen ∧ (s.applyPending).port.selectHigh = s.port.selectHigh := by
  unfold State.applyPending
  split <;> simp

@[simp] theorem State.enterPreroll_frame (s : State) (n : Nat) (o : Origin) :
    (s.enterPreroll n o).timebase = s.timebase ∧ (s.enterPreroll n o).directory = s.directory ∧ (s.enterPreroll n
    o).camera = s.camera ∧ (s.enterPreroll n o).recording = s.recording ∧ (s.enterPreroll n o).lineQueue =
    s.lineQueue ∧ (s.enterPreroll n o).interpolator = s.interpolator ∧ (s.enterPreroll n o).memory = s.memory ∧
    (s.enterPreroll n o).axes = s.axes ∧ (s.enterPreroll n o).writeInProcessing = s.writeInProcessing ∧
    (s.enterPreroll n o).witness = s.witness ∧ (s.enterPreroll n o).resetControl = s.resetControl ∧ (s.enterPreroll
    n o).lastUpstream = s.lastUpstream ∧ (s.enterPreroll n o).openOrders = s.openOrders ∧ (s.enterPreroll n o).due =
    s.due ∧ (s.enterPreroll n o).pending = s.pending ∧ (s.enterPreroll n o).pass.context = s.pass.context ∧
    (s.enterPreroll n o).pass.pending = s.pass.pending ∧ (s.enterPreroll n o).pass.hasRun = s.pass.hasRun ∧
    (s.enterPreroll n o).pass.summary = s.pass.summary ∧ (s.enterPreroll n o).port.phase = s.port.phase ∧
    (s.enterPreroll n o).port.code = s.port.code ∧ (s.enterPreroll n o).port.length = s.port.length ∧
    (s.enterPreroll n o).port.args = s.port.args ∧ (s.enterPreroll n o).port.incoming = s.port.incoming ∧
    (s.enterPreroll n o).port.response = s.port.response ∧ (s.enterPreroll n o).port.resetPending =
    s.port.resetPending ∧ (s.enterPreroll n o).port.mask = s.port.mask ∧ (s.enterPreroll n o).port.resetCause =
    s.port.resetCause ∧ (s.enterPreroll n o).port.powerSeen = s.port.powerSeen ∧ (s.enterPreroll n
    o).port.selectHigh = s.port.selectHigh := by
  simp [State.enterPreroll]

@[simp] theorem State.passBoundary_frame (s : State) (b : HandedOn) :
    (s.passBoundary b).camera = s.camera ∧ (s.passBoundary b).lineQueue = s.lineQueue ∧ (s.passBoundary
    b).interpolator = s.interpolator ∧ (s.passBoundary b).memory = s.memory ∧ (s.passBoundary b).writeInProcessing =
    s.writeInProcessing ∧ (s.passBoundary b).witness = s.witness ∧ (s.passBoundary b).resetControl = s.resetControl ∧
    (s.passBoundary b).lastUpstream = s.lastUpstream ∧ (s.passBoundary b).openOrders = s.openOrders ∧ (s.passBoundary
    b).due = s.due ∧ (s.passBoundary b).pending = s.pending ∧ (s.passBoundary b).timebase.active = s.timebase.active
    ∧ (s.passBoundary b).timebase.pending = s.timebase.pending ∧ (s.passBoundary b).timebase.lock = s.timebase.lock ∧
    (s.passBoundary b).timebase.run = s.timebase.run ∧ (s.passBoundary b).timebase.lockPending =
    s.timebase.lockPending ∧ (s.passBoundary b).timebase.history = s.timebase.history ∧ (s.passBoundary
    b).timebase.holdoverCount = s.timebase.holdoverCount ∧ (s.passBoundary b).timebase.interval = s.timebase.interval
    ∧ (s.passBoundary b).timebase.flywheel = s.timebase.flywheel ∧ (s.passBoundary b).timebase.watching =
    s.timebase.watching ∧ (s.passBoundary b).timebase.pulseNear = s.timebase.pulseNear ∧ (s.passBoundary
    b).timebase.pulseBefore = s.timebase.pulseBefore ∧ (s.passBoundary b).timebase.record = s.timebase.record ∧
    (s.passBoundary b).timebase.refTime = s.timebase.refTime ∧ (s.passBoundary b).timebase.passPulses =
    s.timebase.passPulses ∧ (s.passBoundary b).timebase.advances = s.timebase.advances ∧ (s.passBoundary
    b).timebase.frameOffset = s.timebase.frameOffset ∧ (s.passBoundary b).timebase.slips = s.timebase.slips ∧
    (s.passBoundary b).directory.regionBase = s.directory.regionBase ∧ (s.passBoundary b).directory.regionSize =
    s.directory.regionSize ∧ (s.passBoundary b).directory.verifyOrder = s.directory.verifyOrder ∧ (s.passBoundary
    b).directory.verifyCursor = s.directory.verifyCursor ∧ (s.passBoundary b).pass.context = s.pass.context ∧
    (s.passBoundary b).port.phase = s.port.phase ∧ (s.passBoundary b).port.code = s.port.code ∧ (s.passBoundary
    b).port.length = s.port.length ∧ (s.passBoundary b).port.args = s.port.args ∧ (s.passBoundary b).port.incoming =
    s.port.incoming ∧ (s.passBoundary b).port.response = s.port.response ∧ (s.passBoundary b).port.resetPending =
    s.port.resetPending ∧ (s.passBoundary b).port.mask = s.port.mask ∧ (s.passBoundary b).port.resetCause =
    s.port.resetCause ∧ (s.passBoundary b).port.powerSeen = s.port.powerSeen ∧ (s.passBoundary b).port.selectHigh =
    s.port.selectHigh := by
  unfold State.passBoundary
  (repeat' split)
  all_goals simp

@[simp] theorem State.controllerBoundary_frame (s : State) (old new : Byte) (declarationFirst : Bool) (b : HandedOn) :
    (s.controllerBoundary old new declarationFirst b).lineQueue = s.lineQueue ∧ (s.controllerBoundary old new
    declarationFirst b).interpolator = s.interpolator ∧ (s.controllerBoundary old new declarationFirst b).memory =
    s.memory ∧ (s.controllerBoundary old new declarationFirst b).writeInProcessing = s.writeInProcessing ∧
    (s.controllerBoundary old new declarationFirst b).witness = s.witness ∧ (s.controllerBoundary old new
    declarationFirst b).resetControl = s.resetControl ∧ (s.controllerBoundary old new declarationFirst
    b).lastUpstream = s.lastUpstream ∧ (s.controllerBoundary old new declarationFirst b).openOrders = s.openOrders ∧
    (s.controllerBoundary old new declarationFirst b).due = s.due ∧ (s.controllerBoundary old new declarationFirst
    b).pending = s.pending ∧ (s.controllerBoundary old new declarationFirst b).timebase.active = s.timebase.active ∧
    (s.controllerBoundary old new declarationFirst b).timebase.pending = s.timebase.pending ∧ (s.controllerBoundary
    old new declarationFirst b).timebase.lock = s.timebase.lock ∧ (s.controllerBoundary old new declarationFirst
    b).timebase.run = s.timebase.run ∧ (s.controllerBoundary old new declarationFirst b).timebase.lockPending =
    s.timebase.lockPending ∧ (s.controllerBoundary old new declarationFirst b).timebase.history = s.timebase.history
    ∧ (s.controllerBoundary old new declarationFirst b).timebase.holdoverCount = s.timebase.holdoverCount ∧
    (s.controllerBoundary old new declarationFirst b).timebase.interval = s.timebase.interval ∧ (s.controllerBoundary
    old new declarationFirst b).timebase.flywheel = s.timebase.flywheel ∧ (s.controllerBoundary old new
    declarationFirst b).timebase.watching = s.timebase.watching ∧ (s.controllerBoundary old new declarationFirst
    b).timebase.pulseNear = s.timebase.pulseNear ∧ (s.controllerBoundary old new declarationFirst
    b).timebase.pulseBefore = s.timebase.pulseBefore ∧ (s.controllerBoundary old new declarationFirst
    b).timebase.record = s.timebase.record ∧ (s.controllerBoundary old new declarationFirst b).timebase.refTime =
    s.timebase.refTime ∧ (s.controllerBoundary old new declarationFirst b).timebase.passPulses =
    s.timebase.passPulses ∧ (s.controllerBoundary old new declarationFirst b).timebase.advances = s.timebase.advances
    ∧ (s.controllerBoundary old new declarationFirst b).timebase.frameOffset = s.timebase.frameOffset ∧
    (s.controllerBoundary old new declarationFirst b).timebase.slips = s.timebase.slips ∧ (s.controllerBoundary old
    new declarationFirst b).directory.regionBase = s.directory.regionBase ∧ (s.controllerBoundary old new
    declarationFirst b).directory.regionSize = s.directory.regionSize ∧ (s.controllerBoundary old new
    declarationFirst b).directory.verifyOrder = s.directory.verifyOrder ∧ (s.controllerBoundary old new
    declarationFirst b).directory.verifyCursor = s.directory.verifyCursor ∧ (s.controllerBoundary old new
    declarationFirst b).pass.context = s.pass.context ∧ (s.controllerBoundary old new declarationFirst b).port.phase
    = s.port.phase ∧ (s.controllerBoundary old new declarationFirst b).port.code = s.port.code ∧
    (s.controllerBoundary old new declarationFirst b).port.length = s.port.length ∧ (s.controllerBoundary old new
    declarationFirst b).port.args = s.port.args ∧ (s.controllerBoundary old new declarationFirst b).port.incoming =
    s.port.incoming ∧ (s.controllerBoundary old new declarationFirst b).port.response = s.port.response ∧
    (s.controllerBoundary old new declarationFirst b).port.resetPending = s.port.resetPending ∧ (s.controllerBoundary
    old new declarationFirst b).port.mask = s.port.mask ∧ (s.controllerBoundary old new declarationFirst
    b).port.resetCause = s.port.resetCause ∧ (s.controllerBoundary old new declarationFirst b).port.powerSeen =
    s.port.powerSeen ∧ (s.controllerBoundary old new declarationFirst b).port.selectHigh = s.port.selectHigh ∧
    (s.controllerBoundary old new declarationFirst b).camera.receiver = s.camera.receiver ∧ (s.controllerBoundary old
    new declarationFirst b).camera.held = s.camera.held ∧ (s.controllerBoundary old new declarationFirst
    b).camera.ring = s.camera.ring ∧ (s.controllerBoundary old new declarationFirst b).camera.rule = s.camera.rule ∧
    (s.controllerBoundary old new declarationFirst b).camera.wordCount = s.camera.wordCount ∧ (s.controllerBoundary
    old new declarationFirst b).camera.errorCount = s.camera.errorCount := by
  unfold State.controllerBoundary
  (repeat' split)
  all_goals simp

@[simp] theorem State.updateOffset_frame (s : State) :
    (s.updateOffset).directory = s.directory ∧ (s.updateOffset).camera = s.camera ∧ (s.updateOffset).recording =
    s.recording ∧ (s.updateOffset).lineQueue = s.lineQueue ∧ (s.updateOffset).interpolator = s.interpolator ∧
    (s.updateOffset).memory = s.memory ∧ (s.updateOffset).axes = s.axes ∧ (s.updateOffset).writeInProcessing =
    s.writeInProcessing ∧ (s.updateOffset).witness = s.witness ∧ (s.updateOffset).resetControl = s.resetControl ∧
    (s.updateOffset).lastUpstream = s.lastUpstream ∧ (s.updateOffset).openOrders = s.openOrders ∧
    (s.updateOffset).due = s.due ∧ (s.updateOffset).pending = s.pending ∧ (s.updateOffset).timebase.active =
    s.timebase.active ∧ (s.updateOffset).timebase.pending = s.timebase.pending ∧ (s.updateOffset).timebase.lock =
    s.timebase.lock ∧ (s.updateOffset).timebase.run = s.timebase.run ∧ (s.updateOffset).timebase.lockPending =
    s.timebase.lockPending ∧ (s.updateOffset).timebase.history = s.timebase.history ∧
    (s.updateOffset).timebase.holdoverCount = s.timebase.holdoverCount ∧ (s.updateOffset).timebase.interval =
    s.timebase.interval ∧ (s.updateOffset).timebase.flywheel = s.timebase.flywheel ∧
    (s.updateOffset).timebase.watching = s.timebase.watching ∧ (s.updateOffset).timebase.pulseNear =
    s.timebase.pulseNear ∧ (s.updateOffset).timebase.pulseBefore = s.timebase.pulseBefore ∧
    (s.updateOffset).timebase.record = s.timebase.record ∧ (s.updateOffset).timebase.refTime = s.timebase.refTime ∧
    (s.updateOffset).timebase.position = s.timebase.position ∧ (s.updateOffset).timebase.nextPoint =
    s.timebase.nextPoint ∧ (s.updateOffset).timebase.passPulses = s.timebase.passPulses ∧
    (s.updateOffset).timebase.advances = s.timebase.advances ∧ (s.updateOffset).pass.state = s.pass.state ∧
    (s.updateOffset).pass.context = s.pass.context ∧ (s.updateOffset).pass.pending = s.pass.pending ∧
    (s.updateOffset).pass.preroll = s.pass.preroll ∧ (s.updateOffset).pass.hasRun = s.pass.hasRun ∧
    (s.updateOffset).port.phase = s.port.phase ∧ (s.updateOffset).port.code = s.port.code ∧
    (s.updateOffset).port.length = s.port.length ∧ (s.updateOffset).port.args = s.port.args ∧
    (s.updateOffset).port.incoming = s.port.incoming ∧ (s.updateOffset).port.response = s.port.response ∧
    (s.updateOffset).port.resetPending = s.port.resetPending ∧ (s.updateOffset).port.mask = s.port.mask ∧
    (s.updateOffset).port.resetCause = s.port.resetCause ∧ (s.updateOffset).port.powerSeen = s.port.powerSeen ∧
    (s.updateOffset).port.selectHigh = s.port.selectHigh := by
  unfold State.updateOffset
  dsimp only
  (repeat' split)
  all_goals simp

@[simp] theorem State.toIdle_frame (s : State) :
    (s.toIdle).directory = s.directory ∧ (s.toIdle).camera = s.camera ∧ (s.toIdle).recording = s.recording ∧
    (s.toIdle).lineQueue = s.lineQueue ∧ (s.toIdle).interpolator = s.interpolator ∧ (s.toIdle).memory = s.memory ∧
    (s.toIdle).axes = s.axes ∧ (s.toIdle).writeInProcessing = s.writeInProcessing ∧ (s.toIdle).witness = s.witness ∧
    (s.toIdle).resetControl = s.resetControl ∧ (s.toIdle).lastUpstream = s.lastUpstream ∧ (s.toIdle).openOrders =
    s.openOrders ∧ (s.toIdle).pending = s.pending ∧ (s.toIdle).timebase.active = s.timebase.active ∧
    (s.toIdle).timebase.pending = s.timebase.pending ∧ (s.toIdle).timebase.lock = s.timebase.lock ∧
    (s.toIdle).timebase.run = s.timebase.run ∧ (s.toIdle).timebase.lockPending = s.timebase.lockPending ∧
    (s.toIdle).timebase.history = s.timebase.history ∧ (s.toIdle).timebase.holdoverCount = s.timebase.holdoverCount
    ∧ (s.toIdle).timebase.interval = s.timebase.interval ∧ (s.toIdle).timebase.flywheel = s.timebase.flywheel ∧
    (s.toIdle).timebase.watching = s.timebase.watching ∧ (s.toIdle).timebase.pulseNear = s.timebase.pulseNear ∧
    (s.toIdle).timebase.pulseBefore = s.timebase.pulseBefore ∧ (s.toIdle).timebase.record = s.timebase.record ∧
    (s.toIdle).timebase.refTime = s.timebase.refTime ∧ (s.toIdle).timebase.nextPoint = s.timebase.nextPoint ∧
    (s.toIdle).timebase.passPulses = s.timebase.passPulses ∧ (s.toIdle).timebase.advances = s.timebase.advances ∧
    (s.toIdle).timebase.frameOffset = s.timebase.frameOffset ∧ (s.toIdle).timebase.slips = s.timebase.slips ∧
    (s.toIdle).pass.context = s.pass.context ∧ (s.toIdle).pass.hasRun = s.pass.hasRun ∧ (s.toIdle).pass.summary =
    s.pass.summary ∧ (s.toIdle).port.phase = s.port.phase ∧ (s.toIdle).port.code = s.port.code ∧
    (s.toIdle).port.length = s.port.length ∧ (s.toIdle).port.args = s.port.args ∧ (s.toIdle).port.incoming =
    s.port.incoming ∧ (s.toIdle).port.response = s.port.response ∧ (s.toIdle).port.resetPending =
    s.port.resetPending ∧ (s.toIdle).port.mask = s.port.mask ∧ (s.toIdle).port.resetCause = s.port.resetCause ∧
    (s.toIdle).port.powerSeen = s.port.powerSeen ∧ (s.toIdle).port.selectHigh = s.port.selectHigh := by
  simp [State.toIdle]

@[simp] theorem State.abortPass_frame (s : State) :
    (s.abortPass).camera = s.camera ∧ (s.abortPass).resetControl = s.resetControl ∧ (s.abortPass).lastUpstream =
    s.lastUpstream ∧ (s.abortPass).openOrders = s.openOrders ∧ (s.abortPass).pending = s.pending ∧
    (s.abortPass).timebase.active = s.timebase.active ∧ (s.abortPass).timebase.pending = s.timebase.pending ∧
    (s.abortPass).timebase.lock = s.timebase.lock ∧ (s.abortPass).timebase.run = s.timebase.run ∧
    (s.abortPass).timebase.lockPending = s.timebase.lockPending ∧ (s.abortPass).timebase.history =
    s.timebase.history ∧ (s.abortPass).timebase.holdoverCount = s.timebase.holdoverCount ∧
    (s.abortPass).timebase.interval = s.timebase.interval ∧ (s.abortPass).timebase.flywheel = s.timebase.flywheel ∧
    (s.abortPass).timebase.watching = s.timebase.watching ∧ (s.abortPass).timebase.pulseNear = s.timebase.pulseNear
    ∧ (s.abortPass).timebase.pulseBefore = s.timebase.pulseBefore ∧ (s.abortPass).timebase.record =
    s.timebase.record ∧ (s.abortPass).timebase.refTime = s.timebase.refTime ∧ (s.abortPass).timebase.nextPoint =
    s.timebase.nextPoint ∧ (s.abortPass).timebase.passPulses = s.timebase.passPulses ∧
    (s.abortPass).timebase.advances = s.timebase.advances ∧ (s.abortPass).directory.regionBase =
    s.directory.regionBase ∧ (s.abortPass).directory.regionSize = s.directory.regionSize ∧
    (s.abortPass).directory.verifyOrder = s.directory.verifyOrder ∧ (s.abortPass).directory.verifyCursor =
    s.directory.verifyCursor ∧ (s.abortPass).pass.context = s.pass.context ∧ (s.abortPass).pass.hasRun =
    s.pass.hasRun ∧ (s.abortPass).recording.highWater = s.recording.highWater ∧ (s.abortPass).interpolator.lastEval
    = s.interpolator.lastEval ∧ (s.abortPass).memory.urgentRun = s.memory.urgentRun ∧
    (s.abortPass).memory.blockedAddress = s.memory.blockedAddress ∧ (s.abortPass).memory.protectBlocks =
    s.memory.protectBlocks ∧ (s.abortPass).memory.partialBlocks = s.memory.partialBlocks ∧ (s.abortPass).witness.log
    = s.witness.log ∧ (s.abortPass).witness.lost = s.witness.lost ∧ (s.abortPass).port.phase = s.port.phase ∧
    (s.abortPass).port.code = s.port.code ∧ (s.abortPass).port.length = s.port.length ∧ (s.abortPass).port.args =
    s.port.args ∧ (s.abortPass).port.incoming = s.port.incoming ∧ (s.abortPass).port.response = s.port.response ∧
    (s.abortPass).port.resetPending = s.port.resetPending ∧ (s.abortPass).port.mask = s.port.mask ∧
    (s.abortPass).port.resetCause = s.port.resetCause ∧ (s.abortPass).port.powerSeen = s.port.powerSeen ∧
    (s.abortPass).port.selectHigh = s.port.selectHigh := by
  simp [State.abortPass]

@[simp] theorem State.setLock_frame (s : State) (l : LockState) :
    (s.setLock l).directory = s.directory ∧ (s.setLock l).pass = s.pass ∧ (s.setLock l).camera = s.camera ∧
    (s.setLock l).recording = s.recording ∧ (s.setLock l).lineQueue = s.lineQueue ∧ (s.setLock l).interpolator =
    s.interpolator ∧ (s.setLock l).memory = s.memory ∧ (s.setLock l).axes = s.axes ∧ (s.setLock l).writeInProcessing
    = s.writeInProcessing ∧ (s.setLock l).witness = s.witness ∧ (s.setLock l).resetControl = s.resetControl ∧
    (s.setLock l).lastUpstream = s.lastUpstream ∧ (s.setLock l).openOrders = s.openOrders ∧ (s.setLock l).due =
    s.due ∧ (s.setLock l).pending = s.pending ∧ (s.setLock l).timebase.active = s.timebase.active ∧ (s.setLock
    l).timebase.pending = s.timebase.pending ∧ (s.setLock l).timebase.run = s.timebase.run ∧ (s.setLock
    l).timebase.lockPending = s.timebase.lockPending ∧ (s.setLock l).timebase.history = s.timebase.history ∧
    (s.setLock l).timebase.holdoverCount = s.timebase.holdoverCount ∧ (s.setLock l).timebase.interval =
    s.timebase.interval ∧ (s.setLock l).timebase.flywheel = s.timebase.flywheel ∧ (s.setLock l).timebase.watching =
    s.timebase.watching ∧ (s.setLock l).timebase.pulseNear = s.timebase.pulseNear ∧ (s.setLock
    l).timebase.pulseBefore = s.timebase.pulseBefore ∧ (s.setLock l).timebase.record = s.timebase.record ∧
    (s.setLock l).timebase.refTime = s.timebase.refTime ∧ (s.setLock l).timebase.position = s.timebase.position ∧
    (s.setLock l).timebase.nextPoint = s.timebase.nextPoint ∧ (s.setLock l).timebase.passPulses =
    s.timebase.passPulses ∧ (s.setLock l).timebase.advances = s.timebase.advances ∧ (s.setLock
    l).timebase.frameOffset = s.timebase.frameOffset ∧ (s.setLock l).timebase.slips = s.timebase.slips ∧ (s.setLock
    l).port.phase = s.port.phase ∧ (s.setLock l).port.code = s.port.code ∧ (s.setLock l).port.length = s.port.length
    ∧ (s.setLock l).port.args = s.port.args ∧ (s.setLock l).port.incoming = s.port.incoming ∧ (s.setLock
    l).port.response = s.port.response ∧ (s.setLock l).port.resetPending = s.port.resetPending ∧ (s.setLock
    l).port.mask = s.port.mask ∧ (s.setLock l).port.resetCause = s.port.resetCause ∧ (s.setLock l).port.powerSeen =
    s.port.powerSeen ∧ (s.setLock l).port.selectHigh = s.port.selectHigh := by
  unfold State.setLock
  split <;> simp

@[simp] theorem State.enterFree_frame (s : State) :
    (s.enterFree).directory = s.directory ∧ (s.enterFree).pass = s.pass ∧ (s.enterFree).camera = s.camera ∧
    (s.enterFree).recording = s.recording ∧ (s.enterFree).lineQueue = s.lineQueue ∧ (s.enterFree).interpolator =
    s.interpolator ∧ (s.enterFree).memory = s.memory ∧ (s.enterFree).axes = s.axes ∧ (s.enterFree).writeInProcessing
    = s.writeInProcessing ∧ (s.enterFree).witness = s.witness ∧ (s.enterFree).resetControl = s.resetControl ∧
    (s.enterFree).lastUpstream = s.lastUpstream ∧ (s.enterFree).openOrders = s.openOrders ∧ (s.enterFree).due =
    s.due ∧ (s.enterFree).pending = s.pending ∧ (s.enterFree).timebase.active = s.timebase.active ∧
    (s.enterFree).timebase.pending = s.timebase.pending ∧ (s.enterFree).timebase.interval = s.timebase.interval ∧
    (s.enterFree).timebase.flywheel = s.timebase.flywheel ∧ (s.enterFree).timebase.record = s.timebase.record ∧
    (s.enterFree).timebase.refTime = s.timebase.refTime ∧ (s.enterFree).timebase.position = s.timebase.position ∧
    (s.enterFree).timebase.nextPoint = s.timebase.nextPoint ∧ (s.enterFree).timebase.passPulses =
    s.timebase.passPulses ∧ (s.enterFree).timebase.advances = s.timebase.advances ∧
    (s.enterFree).timebase.frameOffset = s.timebase.frameOffset ∧ (s.enterFree).timebase.slips = s.timebase.slips ∧
    (s.enterFree).port.phase = s.port.phase ∧ (s.enterFree).port.code = s.port.code ∧ (s.enterFree).port.length =
    s.port.length ∧ (s.enterFree).port.args = s.port.args ∧ (s.enterFree).port.incoming = s.port.incoming ∧
    (s.enterFree).port.response = s.port.response ∧ (s.enterFree).port.resetPending = s.port.resetPending ∧
    (s.enterFree).port.mask = s.port.mask ∧ (s.enterFree).port.resetCause = s.port.resetCause ∧
    (s.enterFree).port.powerSeen = s.port.powerSeen ∧ (s.enterFree).port.selectHigh = s.port.selectHigh := by
  simp [State.enterFree]

@[simp] theorem State.addMark_frame (s : State) (m : Mark) :
    (s.addMark m).directory = s.directory ∧ (s.addMark m).pass = s.pass ∧ (s.addMark m).camera = s.camera ∧
    (s.addMark m).recording = s.recording ∧ (s.addMark m).lineQueue = s.lineQueue ∧ (s.addMark m).interpolator =
    s.interpolator ∧ (s.addMark m).memory = s.memory ∧ (s.addMark m).axes = s.axes ∧ (s.addMark m).writeInProcessing
    = s.writeInProcessing ∧ (s.addMark m).witness = s.witness ∧ (s.addMark m).resetControl = s.resetControl ∧
    (s.addMark m).lastUpstream = s.lastUpstream ∧ (s.addMark m).openOrders = s.openOrders ∧ (s.addMark m).due =
    s.due ∧ (s.addMark m).pending = s.pending ∧ (s.addMark m).timebase.active = s.timebase.active ∧ (s.addMark
    m).timebase.pending = s.timebase.pending ∧ (s.addMark m).timebase.lockPending = s.timebase.lockPending ∧
    (s.addMark m).timebase.interval = s.timebase.interval ∧ (s.addMark m).timebase.flywheel = s.timebase.flywheel ∧
    (s.addMark m).timebase.watching = s.timebase.watching ∧ (s.addMark m).timebase.pulseNear = s.timebase.pulseNear
    ∧ (s.addMark m).timebase.pulseBefore = s.timebase.pulseBefore ∧ (s.addMark m).timebase.record =
    s.timebase.record ∧ (s.addMark m).timebase.refTime = s.timebase.refTime ∧ (s.addMark m).timebase.position =
    s.timebase.position ∧ (s.addMark m).timebase.nextPoint = s.timebase.nextPoint ∧ (s.addMark
    m).timebase.passPulses = s.timebase.passPulses ∧ (s.addMark m).timebase.advances = s.timebase.advances ∧
    (s.addMark m).timebase.frameOffset = s.timebase.frameOffset ∧ (s.addMark m).timebase.slips = s.timebase.slips ∧
    (s.addMark m).port.phase = s.port.phase ∧ (s.addMark m).port.code = s.port.code ∧ (s.addMark m).port.length =
    s.port.length ∧ (s.addMark m).port.args = s.port.args ∧ (s.addMark m).port.incoming = s.port.incoming ∧
    (s.addMark m).port.response = s.port.response ∧ (s.addMark m).port.resetPending = s.port.resetPending ∧
    (s.addMark m).port.mask = s.port.mask ∧ (s.addMark m).port.resetCause = s.port.resetCause ∧ (s.addMark
    m).port.powerSeen = s.port.powerSeen ∧ (s.addMark m).port.selectHigh = s.port.selectHigh := by
  unfold State.addMark
  dsimp only
  (repeat' split)
  all_goals simp

@[simp] theorem State.enterLocked_frame (s : State) :
    (s.enterLocked).directory = s.directory ∧ (s.enterLocked).pass = s.pass ∧ (s.enterLocked).camera = s.camera ∧
    (s.enterLocked).recording = s.recording ∧ (s.enterLocked).lineQueue = s.lineQueue ∧ (s.enterLocked).interpolator
    = s.interpolator ∧ (s.enterLocked).memory = s.memory ∧ (s.enterLocked).axes = s.axes ∧
    (s.enterLocked).writeInProcessing = s.writeInProcessing ∧ (s.enterLocked).witness = s.witness ∧
    (s.enterLocked).resetControl = s.resetControl ∧ (s.enterLocked).lastUpstream = s.lastUpstream ∧
    (s.enterLocked).openOrders = s.openOrders ∧ (s.enterLocked).due = s.due ∧ (s.enterLocked).pending = s.pending ∧
    (s.enterLocked).timebase.active = s.timebase.active ∧ (s.enterLocked).timebase.pending = s.timebase.pending ∧
    (s.enterLocked).timebase.holdoverCount = s.timebase.holdoverCount ∧ (s.enterLocked).timebase.interval =
    s.timebase.interval ∧ (s.enterLocked).timebase.flywheel = s.timebase.flywheel ∧ (s.enterLocked).timebase.record
    = s.timebase.record ∧ (s.enterLocked).timebase.refTime = s.timebase.refTime ∧ (s.enterLocked).timebase.position
    = s.timebase.position ∧ (s.enterLocked).timebase.nextPoint = s.timebase.nextPoint ∧
    (s.enterLocked).timebase.passPulses = s.timebase.passPulses ∧ (s.enterLocked).timebase.advances =
    s.timebase.advances ∧ (s.enterLocked).timebase.frameOffset = s.timebase.frameOffset ∧
    (s.enterLocked).timebase.slips = s.timebase.slips ∧ (s.enterLocked).port.phase = s.port.phase ∧
    (s.enterLocked).port.code = s.port.code ∧ (s.enterLocked).port.length = s.port.length ∧
    (s.enterLocked).port.args = s.port.args ∧ (s.enterLocked).port.incoming = s.port.incoming ∧
    (s.enterLocked).port.response = s.port.response ∧ (s.enterLocked).port.resetPending = s.port.resetPending ∧
    (s.enterLocked).port.mask = s.port.mask ∧ (s.enterLocked).port.resetCause = s.port.resetCause ∧
    (s.enterLocked).port.powerSeen = s.port.powerSeen ∧ (s.enterLocked).port.selectHigh = s.port.selectHigh := by
  simp [State.enterLocked]

@[simp] theorem State.loseSync_frame (s : State) :
    (s.loseSync).directory = s.directory ∧ (s.loseSync).camera = s.camera ∧ (s.loseSync).recording = s.recording ∧
    (s.loseSync).lineQueue = s.lineQueue ∧ (s.loseSync).interpolator = s.interpolator ∧ (s.loseSync).memory =
    s.memory ∧ (s.loseSync).axes = s.axes ∧ (s.loseSync).writeInProcessing = s.writeInProcessing ∧
    (s.loseSync).witness = s.witness ∧ (s.loseSync).resetControl = s.resetControl ∧ (s.loseSync).lastUpstream =
    s.lastUpstream ∧ (s.loseSync).openOrders = s.openOrders ∧ (s.loseSync).due = s.due ∧ (s.loseSync).pending =
    s.pending ∧ (s.loseSync).timebase.active = s.timebase.active ∧ (s.loseSync).timebase.pending =
    s.timebase.pending ∧ (s.loseSync).timebase.interval = s.timebase.interval ∧ (s.loseSync).timebase.flywheel =
    s.timebase.flywheel ∧ (s.loseSync).timebase.record = s.timebase.record ∧ (s.loseSync).timebase.refTime =
    s.timebase.refTime ∧ (s.loseSync).timebase.position = s.timebase.position ∧ (s.loseSync).timebase.nextPoint =
    s.timebase.nextPoint ∧ (s.loseSync).timebase.passPulses = s.timebase.passPulses ∧ (s.loseSync).timebase.advances
    = s.timebase.advances ∧ (s.loseSync).timebase.frameOffset = s.timebase.frameOffset ∧ (s.loseSync).timebase.slips
    = s.timebase.slips ∧ (s.loseSync).pass.state = s.pass.state ∧ (s.loseSync).pass.context = s.pass.context ∧
    (s.loseSync).pass.pending = s.pass.pending ∧ (s.loseSync).pass.preroll = s.pass.preroll ∧
    (s.loseSync).pass.hasRun = s.pass.hasRun ∧ (s.loseSync).port.phase = s.port.phase ∧ (s.loseSync).port.code =
    s.port.code ∧ (s.loseSync).port.length = s.port.length ∧ (s.loseSync).port.args = s.port.args ∧
    (s.loseSync).port.incoming = s.port.incoming ∧ (s.loseSync).port.response = s.port.response ∧
    (s.loseSync).port.resetPending = s.port.resetPending ∧ (s.loseSync).port.mask = s.port.mask ∧
    (s.loseSync).port.resetCause = s.port.resetCause ∧ (s.loseSync).port.powerSeen = s.port.powerSeen ∧
    (s.loseSync).port.selectHigh = s.port.selectHigh := by
  simp [State.loseSync]

@[simp] theorem State.causeRelock_frame (s : State) :
    (s.causeRelock).directory = s.directory ∧ (s.causeRelock).pass = s.pass ∧ (s.causeRelock).camera = s.camera ∧
    (s.causeRelock).recording = s.recording ∧ (s.causeRelock).lineQueue = s.lineQueue ∧ (s.causeRelock).interpolator
    = s.interpolator ∧ (s.causeRelock).memory = s.memory ∧ (s.causeRelock).axes = s.axes ∧
    (s.causeRelock).writeInProcessing = s.writeInProcessing ∧ (s.causeRelock).witness = s.witness ∧
    (s.causeRelock).resetControl = s.resetControl ∧ (s.causeRelock).lastUpstream = s.lastUpstream ∧
    (s.causeRelock).openOrders = s.openOrders ∧ (s.causeRelock).due = s.due ∧ (s.causeRelock).pending = s.pending ∧
    (s.causeRelock).timebase.active = s.timebase.active ∧ (s.causeRelock).timebase.pending = s.timebase.pending ∧
    (s.causeRelock).timebase.interval = s.timebase.interval ∧ (s.causeRelock).timebase.flywheel =
    s.timebase.flywheel ∧ (s.causeRelock).timebase.record = s.timebase.record ∧ (s.causeRelock).timebase.refTime =
    s.timebase.refTime ∧ (s.causeRelock).timebase.position = s.timebase.position ∧
    (s.causeRelock).timebase.nextPoint = s.timebase.nextPoint ∧ (s.causeRelock).timebase.passPulses =
    s.timebase.passPulses ∧ (s.causeRelock).timebase.advances = s.timebase.advances ∧
    (s.causeRelock).timebase.frameOffset = s.timebase.frameOffset ∧ (s.causeRelock).timebase.slips =
    s.timebase.slips ∧ (s.causeRelock).port.phase = s.port.phase ∧ (s.causeRelock).port.code = s.port.code ∧
    (s.causeRelock).port.length = s.port.length ∧ (s.causeRelock).port.args = s.port.args ∧
    (s.causeRelock).port.incoming = s.port.incoming ∧ (s.causeRelock).port.response = s.port.response ∧
    (s.causeRelock).port.resetPending = s.port.resetPending ∧ (s.causeRelock).port.mask = s.port.mask ∧
    (s.causeRelock).port.resetCause = s.port.resetCause ∧ (s.causeRelock).port.powerSeen = s.port.powerSeen ∧
    (s.causeRelock).port.selectHigh = s.port.selectHigh := by
  simp [State.causeRelock]

@[simp] theorem State.causePulse_frame (s : State) :
    (s.causePulse).directory = s.directory ∧ (s.causePulse).pass = s.pass ∧ (s.causePulse).camera = s.camera ∧
    (s.causePulse).recording = s.recording ∧ (s.causePulse).lineQueue = s.lineQueue ∧ (s.causePulse).interpolator =
    s.interpolator ∧ (s.causePulse).memory = s.memory ∧ (s.causePulse).axes = s.axes ∧
    (s.causePulse).writeInProcessing = s.writeInProcessing ∧ (s.causePulse).witness = s.witness ∧
    (s.causePulse).resetControl = s.resetControl ∧ (s.causePulse).lastUpstream = s.lastUpstream ∧
    (s.causePulse).openOrders = s.openOrders ∧ (s.causePulse).due = s.due ∧ (s.causePulse).pending = s.pending ∧
    (s.causePulse).timebase.active = s.timebase.active ∧ (s.causePulse).timebase.pending = s.timebase.pending ∧
    (s.causePulse).timebase.lockPending = s.timebase.lockPending ∧ (s.causePulse).timebase.interval =
    s.timebase.interval ∧ (s.causePulse).timebase.flywheel = s.timebase.flywheel ∧ (s.causePulse).timebase.record =
    s.timebase.record ∧ (s.causePulse).timebase.refTime = s.timebase.refTime ∧ (s.causePulse).timebase.position =
    s.timebase.position ∧ (s.causePulse).timebase.nextPoint = s.timebase.nextPoint ∧
    (s.causePulse).timebase.passPulses = s.timebase.passPulses ∧ (s.causePulse).timebase.advances =
    s.timebase.advances ∧ (s.causePulse).timebase.frameOffset = s.timebase.frameOffset ∧
    (s.causePulse).timebase.slips = s.timebase.slips ∧ (s.causePulse).port.phase = s.port.phase ∧
    (s.causePulse).port.code = s.port.code ∧ (s.causePulse).port.length = s.port.length ∧ (s.causePulse).port.args =
    s.port.args ∧ (s.causePulse).port.incoming = s.port.incoming ∧ (s.causePulse).port.response = s.port.response ∧
    (s.causePulse).port.resetPending = s.port.resetPending ∧ (s.causePulse).port.mask = s.port.mask ∧
    (s.causePulse).port.resetCause = s.port.resetCause ∧ (s.causePulse).port.powerSeen = s.port.powerSeen ∧
    (s.causePulse).port.selectHigh = s.port.selectHigh := by
  simp [State.causePulse]

@[simp] theorem State.causeSubstituted_frame (s : State) :
    (s.causeSubstituted).directory = s.directory ∧ (s.causeSubstituted).pass = s.pass ∧ (s.causeSubstituted).camera
    = s.camera ∧ (s.causeSubstituted).recording = s.recording ∧ (s.causeSubstituted).lineQueue = s.lineQueue ∧
    (s.causeSubstituted).interpolator = s.interpolator ∧ (s.causeSubstituted).memory = s.memory ∧
    (s.causeSubstituted).axes = s.axes ∧ (s.causeSubstituted).writeInProcessing = s.writeInProcessing ∧
    (s.causeSubstituted).witness = s.witness ∧ (s.causeSubstituted).resetControl = s.resetControl ∧
    (s.causeSubstituted).lastUpstream = s.lastUpstream ∧ (s.causeSubstituted).openOrders = s.openOrders ∧
    (s.causeSubstituted).due = s.due ∧ (s.causeSubstituted).pending = s.pending ∧
    (s.causeSubstituted).timebase.active = s.timebase.active ∧ (s.causeSubstituted).timebase.pending =
    s.timebase.pending ∧ (s.causeSubstituted).timebase.lockPending = s.timebase.lockPending ∧
    (s.causeSubstituted).timebase.interval = s.timebase.interval ∧ (s.causeSubstituted).timebase.flywheel =
    s.timebase.flywheel ∧ (s.causeSubstituted).timebase.record = s.timebase.record ∧
    (s.causeSubstituted).timebase.refTime = s.timebase.refTime ∧ (s.causeSubstituted).timebase.position =
    s.timebase.position ∧ (s.causeSubstituted).timebase.nextPoint = s.timebase.nextPoint ∧
    (s.causeSubstituted).timebase.passPulses = s.timebase.passPulses ∧ (s.causeSubstituted).timebase.advances =
    s.timebase.advances ∧ (s.causeSubstituted).timebase.frameOffset = s.timebase.frameOffset ∧
    (s.causeSubstituted).timebase.slips = s.timebase.slips ∧ (s.causeSubstituted).port.phase = s.port.phase ∧
    (s.causeSubstituted).port.code = s.port.code ∧ (s.causeSubstituted).port.length = s.port.length ∧
    (s.causeSubstituted).port.args = s.port.args ∧ (s.causeSubstituted).port.incoming = s.port.incoming ∧
    (s.causeSubstituted).port.response = s.port.response ∧ (s.causeSubstituted).port.resetPending =
    s.port.resetPending ∧ (s.causeSubstituted).port.mask = s.port.mask ∧ (s.causeSubstituted).port.resetCause =
    s.port.resetCause ∧ (s.causeSubstituted).port.powerSeen = s.port.powerSeen ∧
    (s.causeSubstituted).port.selectHigh = s.port.selectHigh := by
  simp [State.causeSubstituted]

@[simp] theorem State.causeFlywheel_frame (s : State) :
    (s.causeFlywheel).directory = s.directory ∧ (s.causeFlywheel).camera = s.camera ∧ (s.causeFlywheel).recording =
    s.recording ∧ (s.causeFlywheel).lineQueue = s.lineQueue ∧ (s.causeFlywheel).interpolator = s.interpolator ∧
    (s.causeFlywheel).memory = s.memory ∧ (s.causeFlywheel).axes = s.axes ∧ (s.causeFlywheel).writeInProcessing =
    s.writeInProcessing ∧ (s.causeFlywheel).witness = s.witness ∧ (s.causeFlywheel).resetControl = s.resetControl ∧
    (s.causeFlywheel).lastUpstream = s.lastUpstream ∧ (s.causeFlywheel).openOrders = s.openOrders ∧
    (s.causeFlywheel).due = s.due ∧ (s.causeFlywheel).pending = s.pending ∧ (s.causeFlywheel).timebase.active =
    s.timebase.active ∧ (s.causeFlywheel).timebase.pending = s.timebase.pending ∧
    (s.causeFlywheel).timebase.interval = s.timebase.interval ∧ (s.causeFlywheel).timebase.flywheel =
    s.timebase.flywheel ∧ (s.causeFlywheel).timebase.record = s.timebase.record ∧ (s.causeFlywheel).timebase.refTime
    = s.timebase.refTime ∧ (s.causeFlywheel).timebase.position = s.timebase.position ∧
    (s.causeFlywheel).timebase.nextPoint = s.timebase.nextPoint ∧ (s.causeFlywheel).timebase.passPulses =
    s.timebase.passPulses ∧ (s.causeFlywheel).timebase.advances = s.timebase.advances ∧
    (s.causeFlywheel).timebase.frameOffset = s.timebase.frameOffset ∧ (s.causeFlywheel).timebase.slips =
    s.timebase.slips ∧ (s.causeFlywheel).pass.state = s.pass.state ∧ (s.causeFlywheel).pass.context = s.pass.context
    ∧ (s.causeFlywheel).pass.pending = s.pass.pending ∧ (s.causeFlywheel).pass.preroll = s.pass.preroll ∧
    (s.causeFlywheel).pass.hasRun = s.pass.hasRun ∧ (s.causeFlywheel).port.phase = s.port.phase ∧
    (s.causeFlywheel).port.code = s.port.code ∧ (s.causeFlywheel).port.length = s.port.length ∧
    (s.causeFlywheel).port.args = s.port.args ∧ (s.causeFlywheel).port.incoming = s.port.incoming ∧
    (s.causeFlywheel).port.response = s.port.response ∧ (s.causeFlywheel).port.resetPending = s.port.resetPending ∧
    (s.causeFlywheel).port.mask = s.port.mask ∧ (s.causeFlywheel).port.resetCause = s.port.resetCause ∧
    (s.causeFlywheel).port.powerSeen = s.port.powerSeen ∧ (s.causeFlywheel).port.selectHigh = s.port.selectHigh := by
  unfold State.causeFlywheel
  dsimp only
  (repeat' split)
  all_goals simp

@[simp] theorem State.applySettings_frame (s : State) (p : TimebaseSettings) :
    (s.applySettings p).directory = s.directory ∧ (s.applySettings p).pass = s.pass ∧ (s.applySettings p).camera =
    s.camera ∧ (s.applySettings p).recording = s.recording ∧ (s.applySettings p).lineQueue = s.lineQueue ∧
    (s.applySettings p).interpolator = s.interpolator ∧ (s.applySettings p).memory = s.memory ∧ (s.applySettings
    p).axes = s.axes ∧ (s.applySettings p).writeInProcessing = s.writeInProcessing ∧ (s.applySettings p).witness =
    s.witness ∧ (s.applySettings p).resetControl = s.resetControl ∧ (s.applySettings p).lastUpstream =
    s.lastUpstream ∧ (s.applySettings p).openOrders = s.openOrders ∧ (s.applySettings p).due = s.due ∧
    (s.applySettings p).pending = s.pending ∧ (s.applySettings p).timebase.interval = s.timebase.interval ∧
    (s.applySettings p).timebase.flywheel = s.timebase.flywheel ∧ (s.applySettings p).timebase.record =
    s.timebase.record ∧ (s.applySettings p).timebase.refTime = s.timebase.refTime ∧ (s.applySettings
    p).timebase.position = s.timebase.position ∧ (s.applySettings p).timebase.nextPoint = s.timebase.nextPoint ∧
    (s.applySettings p).timebase.passPulses = s.timebase.passPulses ∧ (s.applySettings p).timebase.advances =
    s.timebase.advances ∧ (s.applySettings p).timebase.frameOffset = s.timebase.frameOffset ∧ (s.applySettings
    p).timebase.slips = s.timebase.slips ∧ (s.applySettings p).port.phase = s.port.phase ∧ (s.applySettings
    p).port.code = s.port.code ∧ (s.applySettings p).port.length = s.port.length ∧ (s.applySettings p).port.args =
    s.port.args ∧ (s.applySettings p).port.incoming = s.port.incoming ∧ (s.applySettings p).port.response =
    s.port.response ∧ (s.applySettings p).port.resetPending = s.port.resetPending ∧ (s.applySettings p).port.mask =
    s.port.mask ∧ (s.applySettings p).port.resetCause = s.port.resetCause ∧ (s.applySettings p).port.powerSeen =
    s.port.powerSeen ∧ (s.applySettings p).port.selectHigh = s.port.selectHigh := by
  simp [State.applySettings]

@[simp] theorem State.writeRecord_frame (s : State) (kind : BoundaryKind) :
    (s.writeRecord kind).directory = s.directory ∧ (s.writeRecord kind).pass = s.pass ∧ (s.writeRecord kind).camera
    = s.camera ∧ (s.writeRecord kind).recording = s.recording ∧ (s.writeRecord kind).lineQueue = s.lineQueue ∧
    (s.writeRecord kind).interpolator = s.interpolator ∧ (s.writeRecord kind).memory = s.memory ∧ (s.writeRecord
    kind).axes = s.axes ∧ (s.writeRecord kind).writeInProcessing = s.writeInProcessing ∧ (s.writeRecord
    kind).witness = s.witness ∧ (s.writeRecord kind).port = s.port ∧ (s.writeRecord kind).resetControl =
    s.resetControl ∧ (s.writeRecord kind).lastUpstream = s.lastUpstream ∧ (s.writeRecord kind).openOrders =
    s.openOrders ∧ (s.writeRecord kind).due = s.due ∧ (s.writeRecord kind).pending = s.pending ∧ (s.writeRecord
    kind).timebase.active = s.timebase.active ∧ (s.writeRecord kind).timebase.pending = s.timebase.pending ∧
    (s.writeRecord kind).timebase.lock = s.timebase.lock ∧ (s.writeRecord kind).timebase.run = s.timebase.run ∧
    (s.writeRecord kind).timebase.lockPending = s.timebase.lockPending ∧ (s.writeRecord kind).timebase.history =
    s.timebase.history ∧ (s.writeRecord kind).timebase.holdoverCount = s.timebase.holdoverCount ∧ (s.writeRecord
    kind).timebase.interval = s.timebase.interval ∧ (s.writeRecord kind).timebase.watching = s.timebase.watching ∧
    (s.writeRecord kind).timebase.pulseNear = s.timebase.pulseNear ∧ (s.writeRecord kind).timebase.pulseBefore =
    s.timebase.pulseBefore ∧ (s.writeRecord kind).timebase.refTime = s.timebase.refTime ∧ (s.writeRecord
    kind).timebase.position = s.timebase.position ∧ (s.writeRecord kind).timebase.nextPoint = s.timebase.nextPoint ∧
    (s.writeRecord kind).timebase.passPulses = s.timebase.passPulses ∧ (s.writeRecord kind).timebase.advances =
    s.timebase.advances ∧ (s.writeRecord kind).timebase.frameOffset = s.timebase.frameOffset ∧ (s.writeRecord
    kind).timebase.slips = s.timebase.slips := by
  simp [State.writeRecord]

@[simp] theorem State.advance_frame (s : State) :
    (s.advance).directory = s.directory ∧ (s.advance).camera = s.camera ∧ (s.advance).recording = s.recording ∧
    (s.advance).lineQueue = s.lineQueue ∧ (s.advance).interpolator = s.interpolator ∧ (s.advance).memory = s.memory
    ∧ (s.advance).axes = s.axes ∧ (s.advance).writeInProcessing = s.writeInProcessing ∧ (s.advance).witness =
    s.witness ∧ (s.advance).port = s.port ∧ (s.advance).resetControl = s.resetControl ∧ (s.advance).lastUpstream =
    s.lastUpstream ∧ (s.advance).openOrders = s.openOrders ∧ (s.advance).due = s.due ∧ (s.advance).pending =
    s.pending ∧ (s.advance).timebase.active = s.timebase.active ∧ (s.advance).timebase.pending = s.timebase.pending
    ∧ (s.advance).timebase.lock = s.timebase.lock ∧ (s.advance).timebase.run = s.timebase.run ∧
    (s.advance).timebase.lockPending = s.timebase.lockPending ∧ (s.advance).timebase.history = s.timebase.history ∧
    (s.advance).timebase.holdoverCount = s.timebase.holdoverCount ∧ (s.advance).timebase.interval =
    s.timebase.interval ∧ (s.advance).timebase.flywheel = s.timebase.flywheel ∧ (s.advance).timebase.watching =
    s.timebase.watching ∧ (s.advance).timebase.pulseNear = s.timebase.pulseNear ∧ (s.advance).timebase.pulseBefore =
    s.timebase.pulseBefore ∧ (s.advance).timebase.record = s.timebase.record ∧ (s.advance).timebase.refTime =
    s.timebase.refTime ∧ (s.advance).timebase.nextPoint = s.timebase.nextPoint ∧ (s.advance).timebase.passPulses =
    s.timebase.passPulses ∧ (s.advance).timebase.frameOffset = s.timebase.frameOffset ∧ (s.advance).timebase.slips =
    s.timebase.slips ∧ (s.advance).pass.state = s.pass.state ∧ (s.advance).pass.context = s.pass.context ∧
    (s.advance).pass.pending = s.pass.pending ∧ (s.advance).pass.preroll = s.pass.preroll ∧ (s.advance).pass.hasRun
    = s.pass.hasRun := by
  simp [State.advance]

@[simp] theorem State.raiseToS_frame (s : State) :
    (s.raiseToS).camera = s.camera ∧ (s.raiseToS).lineQueue = s.lineQueue ∧ (s.raiseToS).interpolator =
    s.interpolator ∧ (s.raiseToS).memory = s.memory ∧ (s.raiseToS).writeInProcessing = s.writeInProcessing ∧
    (s.raiseToS).witness = s.witness ∧ (s.raiseToS).resetControl = s.resetControl ∧ (s.raiseToS).lastUpstream =
    s.lastUpstream ∧ (s.raiseToS).openOrders = s.openOrders ∧ (s.raiseToS).due = s.due ∧ (s.raiseToS).pending =
    s.pending ∧ (s.raiseToS).timebase.active = s.timebase.active ∧ (s.raiseToS).timebase.pending =
    s.timebase.pending ∧ (s.raiseToS).timebase.lock = s.timebase.lock ∧ (s.raiseToS).timebase.run = s.timebase.run ∧
    (s.raiseToS).timebase.lockPending = s.timebase.lockPending ∧ (s.raiseToS).timebase.history = s.timebase.history
    ∧ (s.raiseToS).timebase.holdoverCount = s.timebase.holdoverCount ∧ (s.raiseToS).timebase.interval =
    s.timebase.interval ∧ (s.raiseToS).timebase.flywheel = s.timebase.flywheel ∧ (s.raiseToS).timebase.watching =
    s.timebase.watching ∧ (s.raiseToS).timebase.pulseNear = s.timebase.pulseNear ∧ (s.raiseToS).timebase.pulseBefore
    = s.timebase.pulseBefore ∧ (s.raiseToS).timebase.record = s.timebase.record ∧ (s.raiseToS).timebase.refTime =
    s.timebase.refTime ∧ (s.raiseToS).timebase.passPulses = s.timebase.passPulses ∧ (s.raiseToS).timebase.advances =
    s.timebase.advances ∧ (s.raiseToS).timebase.frameOffset = s.timebase.frameOffset ∧ (s.raiseToS).timebase.slips =
    s.timebase.slips ∧ (s.raiseToS).directory.regionBase = s.directory.regionBase ∧
    (s.raiseToS).directory.regionSize = s.directory.regionSize ∧ (s.raiseToS).directory.verifyOrder =
    s.directory.verifyOrder ∧ (s.raiseToS).directory.verifyCursor = s.directory.verifyCursor ∧
    (s.raiseToS).pass.context = s.pass.context ∧ (s.raiseToS).pass.preroll = s.pass.preroll ∧
    (s.raiseToS).pass.hasRun = s.pass.hasRun ∧ (s.raiseToS).port.phase = s.port.phase ∧ (s.raiseToS).port.code =
    s.port.code ∧ (s.raiseToS).port.length = s.port.length ∧ (s.raiseToS).port.args = s.port.args ∧
    (s.raiseToS).port.incoming = s.port.incoming ∧ (s.raiseToS).port.response = s.port.response ∧
    (s.raiseToS).port.resetPending = s.port.resetPending ∧ (s.raiseToS).port.mask = s.port.mask ∧
    (s.raiseToS).port.resetCause = s.port.resetCause ∧ (s.raiseToS).port.powerSeen = s.port.powerSeen ∧
    (s.raiseToS).port.selectHigh = s.port.selectHigh := by
  simp [State.raiseToS]

@[simp] theorem State.toWitness_frame (s : State) (order : BoundaryOrder) (b : HandedOn) :
    (s.toWitness order b).timebase = s.timebase ∧ (s.toWitness order b).directory = s.directory ∧ (s.toWitness order
    b).camera = s.camera ∧ (s.toWitness order b).recording = s.recording ∧ (s.toWitness order b).lineQueue =
    s.lineQueue ∧ (s.toWitness order b).interpolator = s.interpolator ∧ (s.toWitness order b).memory = s.memory ∧
    (s.toWitness order b).axes = s.axes ∧ (s.toWitness order b).writeInProcessing = s.writeInProcessing ∧
    (s.toWitness order b).resetControl = s.resetControl ∧ (s.toWitness order b).lastUpstream = s.lastUpstream ∧
    (s.toWitness order b).openOrders = s.openOrders ∧ (s.toWitness order b).pending = s.pending ∧ (s.toWitness order
    b).pass.state = s.pass.state ∧ (s.toWitness order b).pass.context = s.pass.context ∧ (s.toWitness order
    b).pass.pending = s.pass.pending ∧ (s.toWitness order b).pass.preroll = s.pass.preroll ∧ (s.toWitness order
    b).pass.hasRun = s.pass.hasRun ∧ (s.toWitness order b).port.phase = s.port.phase ∧ (s.toWitness order
    b).port.code = s.port.code ∧ (s.toWitness order b).port.length = s.port.length ∧ (s.toWitness order b).port.args
    = s.port.args ∧ (s.toWitness order b).port.incoming = s.port.incoming ∧ (s.toWitness order b).port.response =
    s.port.response ∧ (s.toWitness order b).port.resetPending = s.port.resetPending ∧ (s.toWitness order b).port.mask
    = s.port.mask ∧ (s.toWitness order b).port.resetCause = s.port.resetCause ∧ (s.toWitness order b).port.powerSeen
    = s.port.powerSeen ∧ (s.toWitness order b).port.selectHigh = s.port.selectHigh := by
  unfold State.toWitness
  split <;> simp

@[simp] theorem State.toController_frame (s : State) (order : BoundaryOrder) (b : HandedOn) :
    (s.toController order b).lineQueue = s.lineQueue ∧ (s.toController order b).interpolator = s.interpolator ∧
    (s.toController order b).memory = s.memory ∧ (s.toController order b).writeInProcessing = s.writeInProcessing ∧
    (s.toController order b).witness = s.witness ∧ (s.toController order b).resetControl = s.resetControl ∧
    (s.toController order b).lastUpstream = s.lastUpstream ∧ (s.toController order b).openOrders = s.openOrders ∧
    (s.toController order b).pending = s.pending ∧ (s.toController order b).timebase.active = s.timebase.active ∧
    (s.toController order b).timebase.pending = s.timebase.pending ∧ (s.toController order b).timebase.lock =
    s.timebase.lock ∧ (s.toController order b).timebase.run = s.timebase.run ∧ (s.toController order
    b).timebase.lockPending = s.timebase.lockPending ∧ (s.toController order b).timebase.history = s.timebase.history
    ∧ (s.toController order b).timebase.holdoverCount = s.timebase.holdoverCount ∧ (s.toController order
    b).timebase.interval = s.timebase.interval ∧ (s.toController order b).timebase.flywheel = s.timebase.flywheel ∧
    (s.toController order b).timebase.watching = s.timebase.watching ∧ (s.toController order b).timebase.pulseNear =
    s.timebase.pulseNear ∧ (s.toController order b).timebase.pulseBefore = s.timebase.pulseBefore ∧ (s.toController
    order b).timebase.record = s.timebase.record ∧ (s.toController order b).timebase.refTime = s.timebase.refTime ∧
    (s.toController order b).timebase.passPulses = s.timebase.passPulses ∧ (s.toController order b).timebase.advances
    = s.timebase.advances ∧ (s.toController order b).timebase.frameOffset = s.timebase.frameOffset ∧ (s.toController
    order b).timebase.slips = s.timebase.slips ∧ (s.toController order b).directory.regionBase =
    s.directory.regionBase ∧ (s.toController order b).directory.regionSize = s.directory.regionSize ∧ (s.toController
    order b).directory.verifyOrder = s.directory.verifyOrder ∧ (s.toController order b).directory.verifyCursor =
    s.directory.verifyCursor ∧ (s.toController order b).pass.context = s.pass.context ∧ (s.toController order
    b).port.phase = s.port.phase ∧ (s.toController order b).port.code = s.port.code ∧ (s.toController order
    b).port.length = s.port.length ∧ (s.toController order b).port.args = s.port.args ∧ (s.toController order
    b).port.incoming = s.port.incoming ∧ (s.toController order b).port.response = s.port.response ∧ (s.toController
    order b).port.resetPending = s.port.resetPending ∧ (s.toController order b).port.mask = s.port.mask ∧
    (s.toController order b).port.resetCause = s.port.resetCause ∧ (s.toController order b).port.powerSeen =
    s.port.powerSeen ∧ (s.toController order b).port.selectHigh = s.port.selectHigh ∧ (s.toController order
    b).camera.receiver = s.camera.receiver ∧ (s.toController order b).camera.rule = s.camera.rule ∧ (s.toController
    order b).camera.wordCount = s.camera.wordCount ∧ (s.toController order b).camera.errorCount = s.camera.errorCount
    := by
  unfold State.toController
  dsimp only
  (repeat' split)
  all_goals simp

@[simp] theorem State.handOver_frame (s : State) (order : BoundaryOrder) (b : HandedOn) :
    (s.handOver order b).interpolator = s.interpolator ∧ (s.handOver order b).writeInProcessing = s.writeInProcessing
    ∧ (s.handOver order b).resetControl = s.resetControl ∧ (s.handOver order b).openOrders = s.openOrders ∧
    (s.handOver order b).pending = s.pending ∧ (s.handOver order b).timebase.active = s.timebase.active ∧ (s.handOver
    order b).timebase.pending = s.timebase.pending ∧ (s.handOver order b).timebase.lock = s.timebase.lock ∧
    (s.handOver order b).timebase.run = s.timebase.run ∧ (s.handOver order b).timebase.lockPending =
    s.timebase.lockPending ∧ (s.handOver order b).timebase.history = s.timebase.history ∧ (s.handOver order
    b).timebase.holdoverCount = s.timebase.holdoverCount ∧ (s.handOver order b).timebase.interval =
    s.timebase.interval ∧ (s.handOver order b).timebase.flywheel = s.timebase.flywheel ∧ (s.handOver order
    b).timebase.watching = s.timebase.watching ∧ (s.handOver order b).timebase.pulseNear = s.timebase.pulseNear ∧
    (s.handOver order b).timebase.pulseBefore = s.timebase.pulseBefore ∧ (s.handOver order b).timebase.record =
    s.timebase.record ∧ (s.handOver order b).timebase.refTime = s.timebase.refTime ∧ (s.handOver order
    b).timebase.passPulses = s.timebase.passPulses ∧ (s.handOver order b).timebase.advances = s.timebase.advances ∧
    (s.handOver order b).timebase.frameOffset = s.timebase.frameOffset ∧ (s.handOver order b).timebase.slips =
    s.timebase.slips ∧ (s.handOver order b).directory.regionBase = s.directory.regionBase ∧ (s.handOver order
    b).directory.regionSize = s.directory.regionSize ∧ (s.handOver order b).directory.verifyOrder =
    s.directory.verifyOrder ∧ (s.handOver order b).directory.verifyCursor = s.directory.verifyCursor ∧ (s.handOver
    order b).pass.context = s.pass.context ∧ (s.handOver order b).port.phase = s.port.phase ∧ (s.handOver order
    b).port.code = s.port.code ∧ (s.handOver order b).port.length = s.port.length ∧ (s.handOver order b).port.args =
    s.port.args ∧ (s.handOver order b).port.incoming = s.port.incoming ∧ (s.handOver order b).port.response =
    s.port.response ∧ (s.handOver order b).port.resetPending = s.port.resetPending ∧ (s.handOver order b).port.mask =
    s.port.mask ∧ (s.handOver order b).port.resetCause = s.port.resetCause ∧ (s.handOver order b).port.powerSeen =
    s.port.powerSeen ∧ (s.handOver order b).port.selectHigh = s.port.selectHigh ∧ (s.handOver order
    b).camera.receiver = s.camera.receiver ∧ (s.handOver order b).camera.rule = s.camera.rule ∧ (s.handOver order
    b).camera.wordCount = s.camera.wordCount ∧ (s.handOver order b).camera.errorCount = s.camera.errorCount := by
  simp [State.handOver]

@[simp] theorem State.openFrame_causeRelock (s : State) (kind : BoundaryKind) :
    (s.openFrame kind State.causeRelock).directory = s.directory ∧ (s.openFrame kind State.causeRelock).pass =
    s.pass ∧ (s.openFrame kind State.causeRelock).camera = s.camera ∧ (s.openFrame kind State.causeRelock).recording
    = s.recording ∧ (s.openFrame kind State.causeRelock).lineQueue = s.lineQueue ∧ (s.openFrame kind
    State.causeRelock).interpolator = s.interpolator ∧ (s.openFrame kind State.causeRelock).memory = s.memory ∧
    (s.openFrame kind State.causeRelock).axes = s.axes ∧ (s.openFrame kind State.causeRelock).writeInProcessing =
    s.writeInProcessing ∧ (s.openFrame kind State.causeRelock).witness = s.witness ∧ (s.openFrame kind
    State.causeRelock).resetControl = s.resetControl ∧ (s.openFrame kind State.causeRelock).lastUpstream =
    s.lastUpstream ∧ (s.openFrame kind State.causeRelock).openOrders = s.openOrders ∧ (s.openFrame kind
    State.causeRelock).due = s.due ∧ (s.openFrame kind State.causeRelock).pending = s.pending ∧ (s.openFrame kind
    State.causeRelock).timebase.interval = s.timebase.interval ∧ (s.openFrame kind
    State.causeRelock).timebase.passPulses = s.timebase.passPulses ∧ (s.openFrame kind
    State.causeRelock).timebase.refTime = s.timebase.refTime ∧ (s.openFrame kind
    State.causeRelock).timebase.position = s.timebase.position ∧ (s.openFrame kind
    State.causeRelock).timebase.nextPoint = s.timebase.nextPoint ∧ (s.openFrame kind
    State.causeRelock).timebase.advances = s.timebase.advances ∧ (s.openFrame kind
    State.causeRelock).timebase.frameOffset = s.timebase.frameOffset ∧ (s.openFrame kind
    State.causeRelock).timebase.slips = s.timebase.slips ∧ (s.openFrame kind State.causeRelock).port.phase =
    s.port.phase ∧ (s.openFrame kind State.causeRelock).port.code = s.port.code ∧ (s.openFrame kind
    State.causeRelock).port.length = s.port.length ∧ (s.openFrame kind State.causeRelock).port.args = s.port.args ∧
    (s.openFrame kind State.causeRelock).port.incoming = s.port.incoming ∧ (s.openFrame kind
    State.causeRelock).port.response = s.port.response ∧ (s.openFrame kind State.causeRelock).port.resetPending =
    s.port.resetPending ∧ (s.openFrame kind State.causeRelock).port.mask = s.port.mask ∧ (s.openFrame kind
    State.causeRelock).port.resetCause = s.port.resetCause ∧ (s.openFrame kind State.causeRelock).port.powerSeen =
    s.port.powerSeen ∧ (s.openFrame kind State.causeRelock).port.selectHigh = s.port.selectHigh := by
  unfold State.openFrame
  split <;> simp

@[simp] theorem State.makeBoundary_causeRelock (s : State) (kind : BoundaryKind) (order : BoundaryOrder) :
    (s.makeBoundary kind order State.causeRelock).interpolator = s.interpolator ∧ (s.makeBoundary kind order
    State.causeRelock).writeInProcessing = s.writeInProcessing ∧ (s.makeBoundary kind order
    State.causeRelock).resetControl = s.resetControl ∧ (s.makeBoundary kind order State.causeRelock).openOrders =
    s.openOrders ∧ (s.makeBoundary kind order State.causeRelock).pending = s.pending ∧ (s.makeBoundary kind order
    State.causeRelock).pass.context = s.pass.context ∧ (s.makeBoundary kind order
    State.causeRelock).timebase.interval = s.timebase.interval ∧ (s.makeBoundary kind order
    State.causeRelock).timebase.passPulses = s.timebase.passPulses ∧ (s.makeBoundary kind order
    State.causeRelock).timebase.refTime = s.timebase.refTime ∧ (s.makeBoundary kind order
    State.causeRelock).directory.regionBase = s.directory.regionBase ∧ (s.makeBoundary kind order
    State.causeRelock).directory.regionSize = s.directory.regionSize ∧ (s.makeBoundary kind order
    State.causeRelock).directory.verifyOrder = s.directory.verifyOrder ∧ (s.makeBoundary kind order
    State.causeRelock).directory.verifyCursor = s.directory.verifyCursor ∧ (s.makeBoundary kind order
    State.causeRelock).port.phase = s.port.phase ∧ (s.makeBoundary kind order State.causeRelock).port.code =
    s.port.code ∧ (s.makeBoundary kind order State.causeRelock).port.length = s.port.length ∧ (s.makeBoundary kind
    order State.causeRelock).port.args = s.port.args ∧ (s.makeBoundary kind order State.causeRelock).port.incoming =
    s.port.incoming ∧ (s.makeBoundary kind order State.causeRelock).port.response = s.port.response ∧
    (s.makeBoundary kind order State.causeRelock).port.resetPending = s.port.resetPending ∧ (s.makeBoundary kind
    order State.causeRelock).port.mask = s.port.mask ∧ (s.makeBoundary kind order State.causeRelock).port.resetCause
    = s.port.resetCause ∧ (s.makeBoundary kind order State.causeRelock).port.powerSeen = s.port.powerSeen ∧
    (s.makeBoundary kind order State.causeRelock).port.selectHigh = s.port.selectHigh := by
  unfold State.makeBoundary
  dsimp only
  (repeat' split)
  all_goals simp

@[simp] theorem State.openFrame_causePulse (s : State) (kind : BoundaryKind) :
    (s.openFrame kind State.causePulse).directory = s.directory ∧ (s.openFrame kind State.causePulse).pass = s.pass
    ∧ (s.openFrame kind State.causePulse).camera = s.camera ∧ (s.openFrame kind State.causePulse).recording =
    s.recording ∧ (s.openFrame kind State.causePulse).lineQueue = s.lineQueue ∧ (s.openFrame kind
    State.causePulse).interpolator = s.interpolator ∧ (s.openFrame kind State.causePulse).memory = s.memory ∧
    (s.openFrame kind State.causePulse).axes = s.axes ∧ (s.openFrame kind State.causePulse).writeInProcessing =
    s.writeInProcessing ∧ (s.openFrame kind State.causePulse).witness = s.witness ∧ (s.openFrame kind
    State.causePulse).resetControl = s.resetControl ∧ (s.openFrame kind State.causePulse).lastUpstream =
    s.lastUpstream ∧ (s.openFrame kind State.causePulse).openOrders = s.openOrders ∧ (s.openFrame kind
    State.causePulse).due = s.due ∧ (s.openFrame kind State.causePulse).pending = s.pending ∧ (s.openFrame kind
    State.causePulse).timebase.interval = s.timebase.interval ∧ (s.openFrame kind
    State.causePulse).timebase.passPulses = s.timebase.passPulses ∧ (s.openFrame kind
    State.causePulse).timebase.refTime = s.timebase.refTime ∧ (s.openFrame kind State.causePulse).timebase.position
    = s.timebase.position ∧ (s.openFrame kind State.causePulse).timebase.nextPoint = s.timebase.nextPoint ∧
    (s.openFrame kind State.causePulse).timebase.advances = s.timebase.advances ∧ (s.openFrame kind
    State.causePulse).timebase.frameOffset = s.timebase.frameOffset ∧ (s.openFrame kind
    State.causePulse).timebase.slips = s.timebase.slips ∧ (s.openFrame kind State.causePulse).port.phase =
    s.port.phase ∧ (s.openFrame kind State.causePulse).port.code = s.port.code ∧ (s.openFrame kind
    State.causePulse).port.length = s.port.length ∧ (s.openFrame kind State.causePulse).port.args = s.port.args ∧
    (s.openFrame kind State.causePulse).port.incoming = s.port.incoming ∧ (s.openFrame kind
    State.causePulse).port.response = s.port.response ∧ (s.openFrame kind State.causePulse).port.resetPending =
    s.port.resetPending ∧ (s.openFrame kind State.causePulse).port.mask = s.port.mask ∧ (s.openFrame kind
    State.causePulse).port.resetCause = s.port.resetCause ∧ (s.openFrame kind State.causePulse).port.powerSeen =
    s.port.powerSeen ∧ (s.openFrame kind State.causePulse).port.selectHigh = s.port.selectHigh := by
  unfold State.openFrame
  split <;> simp

@[simp] theorem State.makeBoundary_causePulse (s : State) (kind : BoundaryKind) (order : BoundaryOrder) :
    (s.makeBoundary kind order State.causePulse).interpolator = s.interpolator ∧ (s.makeBoundary kind order
    State.causePulse).writeInProcessing = s.writeInProcessing ∧ (s.makeBoundary kind order
    State.causePulse).resetControl = s.resetControl ∧ (s.makeBoundary kind order State.causePulse).openOrders =
    s.openOrders ∧ (s.makeBoundary kind order State.causePulse).pending = s.pending ∧ (s.makeBoundary kind order
    State.causePulse).pass.context = s.pass.context ∧ (s.makeBoundary kind order State.causePulse).timebase.interval
    = s.timebase.interval ∧ (s.makeBoundary kind order State.causePulse).timebase.passPulses = s.timebase.passPulses
    ∧ (s.makeBoundary kind order State.causePulse).timebase.refTime = s.timebase.refTime ∧ (s.makeBoundary kind
    order State.causePulse).directory.regionBase = s.directory.regionBase ∧ (s.makeBoundary kind order
    State.causePulse).directory.regionSize = s.directory.regionSize ∧ (s.makeBoundary kind order
    State.causePulse).directory.verifyOrder = s.directory.verifyOrder ∧ (s.makeBoundary kind order
    State.causePulse).directory.verifyCursor = s.directory.verifyCursor ∧ (s.makeBoundary kind order
    State.causePulse).port.phase = s.port.phase ∧ (s.makeBoundary kind order State.causePulse).port.code =
    s.port.code ∧ (s.makeBoundary kind order State.causePulse).port.length = s.port.length ∧ (s.makeBoundary kind
    order State.causePulse).port.args = s.port.args ∧ (s.makeBoundary kind order State.causePulse).port.incoming =
    s.port.incoming ∧ (s.makeBoundary kind order State.causePulse).port.response = s.port.response ∧ (s.makeBoundary
    kind order State.causePulse).port.resetPending = s.port.resetPending ∧ (s.makeBoundary kind order
    State.causePulse).port.mask = s.port.mask ∧ (s.makeBoundary kind order State.causePulse).port.resetCause =
    s.port.resetCause ∧ (s.makeBoundary kind order State.causePulse).port.powerSeen = s.port.powerSeen ∧
    (s.makeBoundary kind order State.causePulse).port.selectHigh = s.port.selectHigh := by
  unfold State.makeBoundary
  dsimp only
  (repeat' split)
  all_goals simp

@[simp] theorem State.openFrame_causeSubstituted (s : State) (kind : BoundaryKind) :
    (s.openFrame kind State.causeSubstituted).directory = s.directory ∧ (s.openFrame kind
    State.causeSubstituted).pass = s.pass ∧ (s.openFrame kind State.causeSubstituted).camera = s.camera ∧
    (s.openFrame kind State.causeSubstituted).recording = s.recording ∧ (s.openFrame kind
    State.causeSubstituted).lineQueue = s.lineQueue ∧ (s.openFrame kind State.causeSubstituted).interpolator =
    s.interpolator ∧ (s.openFrame kind State.causeSubstituted).memory = s.memory ∧ (s.openFrame kind
    State.causeSubstituted).axes = s.axes ∧ (s.openFrame kind State.causeSubstituted).writeInProcessing =
    s.writeInProcessing ∧ (s.openFrame kind State.causeSubstituted).witness = s.witness ∧ (s.openFrame kind
    State.causeSubstituted).resetControl = s.resetControl ∧ (s.openFrame kind State.causeSubstituted).lastUpstream =
    s.lastUpstream ∧ (s.openFrame kind State.causeSubstituted).openOrders = s.openOrders ∧ (s.openFrame kind
    State.causeSubstituted).due = s.due ∧ (s.openFrame kind State.causeSubstituted).pending = s.pending ∧
    (s.openFrame kind State.causeSubstituted).timebase.interval = s.timebase.interval ∧ (s.openFrame kind
    State.causeSubstituted).timebase.passPulses = s.timebase.passPulses ∧ (s.openFrame kind
    State.causeSubstituted).timebase.refTime = s.timebase.refTime ∧ (s.openFrame kind
    State.causeSubstituted).timebase.position = s.timebase.position ∧ (s.openFrame kind
    State.causeSubstituted).timebase.nextPoint = s.timebase.nextPoint ∧ (s.openFrame kind
    State.causeSubstituted).timebase.advances = s.timebase.advances ∧ (s.openFrame kind
    State.causeSubstituted).timebase.frameOffset = s.timebase.frameOffset ∧ (s.openFrame kind
    State.causeSubstituted).timebase.slips = s.timebase.slips ∧ (s.openFrame kind State.causeSubstituted).port.phase
    = s.port.phase ∧ (s.openFrame kind State.causeSubstituted).port.code = s.port.code ∧ (s.openFrame kind
    State.causeSubstituted).port.length = s.port.length ∧ (s.openFrame kind State.causeSubstituted).port.args =
    s.port.args ∧ (s.openFrame kind State.causeSubstituted).port.incoming = s.port.incoming ∧ (s.openFrame kind
    State.causeSubstituted).port.response = s.port.response ∧ (s.openFrame kind
    State.causeSubstituted).port.resetPending = s.port.resetPending ∧ (s.openFrame kind
    State.causeSubstituted).port.mask = s.port.mask ∧ (s.openFrame kind State.causeSubstituted).port.resetCause =
    s.port.resetCause ∧ (s.openFrame kind State.causeSubstituted).port.powerSeen = s.port.powerSeen ∧ (s.openFrame
    kind State.causeSubstituted).port.selectHigh = s.port.selectHigh := by
  unfold State.openFrame
  split <;> simp

@[simp] theorem State.makeBoundary_causeSubstituted (s : State) (kind : BoundaryKind) (order : BoundaryOrder) :
    (s.makeBoundary kind order State.causeSubstituted).interpolator = s.interpolator ∧ (s.makeBoundary kind order
    State.causeSubstituted).writeInProcessing = s.writeInProcessing ∧ (s.makeBoundary kind order
    State.causeSubstituted).resetControl = s.resetControl ∧ (s.makeBoundary kind order
    State.causeSubstituted).openOrders = s.openOrders ∧ (s.makeBoundary kind order State.causeSubstituted).pending =
    s.pending ∧ (s.makeBoundary kind order State.causeSubstituted).pass.context = s.pass.context ∧ (s.makeBoundary
    kind order State.causeSubstituted).timebase.interval = s.timebase.interval ∧ (s.makeBoundary kind order
    State.causeSubstituted).timebase.passPulses = s.timebase.passPulses ∧ (s.makeBoundary kind order
    State.causeSubstituted).timebase.refTime = s.timebase.refTime ∧ (s.makeBoundary kind order
    State.causeSubstituted).directory.regionBase = s.directory.regionBase ∧ (s.makeBoundary kind order
    State.causeSubstituted).directory.regionSize = s.directory.regionSize ∧ (s.makeBoundary kind order
    State.causeSubstituted).directory.verifyOrder = s.directory.verifyOrder ∧ (s.makeBoundary kind order
    State.causeSubstituted).directory.verifyCursor = s.directory.verifyCursor ∧ (s.makeBoundary kind order
    State.causeSubstituted).port.phase = s.port.phase ∧ (s.makeBoundary kind order State.causeSubstituted).port.code
    = s.port.code ∧ (s.makeBoundary kind order State.causeSubstituted).port.length = s.port.length ∧ (s.makeBoundary
    kind order State.causeSubstituted).port.args = s.port.args ∧ (s.makeBoundary kind order
    State.causeSubstituted).port.incoming = s.port.incoming ∧ (s.makeBoundary kind order
    State.causeSubstituted).port.response = s.port.response ∧ (s.makeBoundary kind order
    State.causeSubstituted).port.resetPending = s.port.resetPending ∧ (s.makeBoundary kind order
    State.causeSubstituted).port.mask = s.port.mask ∧ (s.makeBoundary kind order
    State.causeSubstituted).port.resetCause = s.port.resetCause ∧ (s.makeBoundary kind order
    State.causeSubstituted).port.powerSeen = s.port.powerSeen ∧ (s.makeBoundary kind order
    State.causeSubstituted).port.selectHigh = s.port.selectHigh := by
  unfold State.makeBoundary
  dsimp only
  (repeat' split)
  all_goals simp

@[simp] theorem State.openFrame_causeFlywheel (s : State) (kind : BoundaryKind) :
    (s.openFrame kind State.causeFlywheel).directory = s.directory ∧ (s.openFrame kind
    State.causeFlywheel).pass.context = s.pass.context ∧ (s.openFrame kind State.causeFlywheel).camera = s.camera ∧
    (s.openFrame kind State.causeFlywheel).recording = s.recording ∧ (s.openFrame kind
    State.causeFlywheel).lineQueue = s.lineQueue ∧ (s.openFrame kind State.causeFlywheel).interpolator =
    s.interpolator ∧ (s.openFrame kind State.causeFlywheel).memory = s.memory ∧ (s.openFrame kind
    State.causeFlywheel).axes = s.axes ∧ (s.openFrame kind State.causeFlywheel).writeInProcessing =
    s.writeInProcessing ∧ (s.openFrame kind State.causeFlywheel).witness = s.witness ∧ (s.openFrame kind
    State.causeFlywheel).resetControl = s.resetControl ∧ (s.openFrame kind State.causeFlywheel).lastUpstream =
    s.lastUpstream ∧ (s.openFrame kind State.causeFlywheel).openOrders = s.openOrders ∧ (s.openFrame kind
    State.causeFlywheel).due = s.due ∧ (s.openFrame kind State.causeFlywheel).pending = s.pending ∧ (s.openFrame
    kind State.causeFlywheel).timebase.interval = s.timebase.interval ∧ (s.openFrame kind
    State.causeFlywheel).timebase.passPulses = s.timebase.passPulses ∧ (s.openFrame kind
    State.causeFlywheel).timebase.refTime = s.timebase.refTime ∧ (s.openFrame kind
    State.causeFlywheel).timebase.position = s.timebase.position ∧ (s.openFrame kind
    State.causeFlywheel).timebase.nextPoint = s.timebase.nextPoint ∧ (s.openFrame kind
    State.causeFlywheel).timebase.advances = s.timebase.advances ∧ (s.openFrame kind
    State.causeFlywheel).timebase.frameOffset = s.timebase.frameOffset ∧ (s.openFrame kind
    State.causeFlywheel).timebase.slips = s.timebase.slips ∧ (s.openFrame kind State.causeFlywheel).port.phase =
    s.port.phase ∧ (s.openFrame kind State.causeFlywheel).port.code = s.port.code ∧ (s.openFrame kind
    State.causeFlywheel).port.length = s.port.length ∧ (s.openFrame kind State.causeFlywheel).port.args =
    s.port.args ∧ (s.openFrame kind State.causeFlywheel).port.incoming = s.port.incoming ∧ (s.openFrame kind
    State.causeFlywheel).port.response = s.port.response ∧ (s.openFrame kind State.causeFlywheel).port.resetPending
    = s.port.resetPending ∧ (s.openFrame kind State.causeFlywheel).port.mask = s.port.mask ∧ (s.openFrame kind
    State.causeFlywheel).port.resetCause = s.port.resetCause ∧ (s.openFrame kind State.causeFlywheel).port.powerSeen
    = s.port.powerSeen ∧ (s.openFrame kind State.causeFlywheel).port.selectHigh = s.port.selectHigh := by
  unfold State.openFrame
  split <;> simp

@[simp] theorem State.makeBoundary_causeFlywheel (s : State) (kind : BoundaryKind) (order : BoundaryOrder) :
    (s.makeBoundary kind order State.causeFlywheel).interpolator = s.interpolator ∧ (s.makeBoundary kind order
    State.causeFlywheel).writeInProcessing = s.writeInProcessing ∧ (s.makeBoundary kind order
    State.causeFlywheel).resetControl = s.resetControl ∧ (s.makeBoundary kind order State.causeFlywheel).openOrders
    = s.openOrders ∧ (s.makeBoundary kind order State.causeFlywheel).pending = s.pending ∧ (s.makeBoundary kind
    order State.causeFlywheel).pass.context = s.pass.context ∧ (s.makeBoundary kind order
    State.causeFlywheel).timebase.interval = s.timebase.interval ∧ (s.makeBoundary kind order
    State.causeFlywheel).timebase.passPulses = s.timebase.passPulses ∧ (s.makeBoundary kind order
    State.causeFlywheel).timebase.refTime = s.timebase.refTime ∧ (s.makeBoundary kind order
    State.causeFlywheel).directory.regionBase = s.directory.regionBase ∧ (s.makeBoundary kind order
    State.causeFlywheel).directory.regionSize = s.directory.regionSize ∧ (s.makeBoundary kind order
    State.causeFlywheel).directory.verifyOrder = s.directory.verifyOrder ∧ (s.makeBoundary kind order
    State.causeFlywheel).directory.verifyCursor = s.directory.verifyCursor ∧ (s.makeBoundary kind order
    State.causeFlywheel).port.phase = s.port.phase ∧ (s.makeBoundary kind order State.causeFlywheel).port.code =
    s.port.code ∧ (s.makeBoundary kind order State.causeFlywheel).port.length = s.port.length ∧ (s.makeBoundary kind
    order State.causeFlywheel).port.args = s.port.args ∧ (s.makeBoundary kind order
    State.causeFlywheel).port.incoming = s.port.incoming ∧ (s.makeBoundary kind order
    State.causeFlywheel).port.response = s.port.response ∧ (s.makeBoundary kind order
    State.causeFlywheel).port.resetPending = s.port.resetPending ∧ (s.makeBoundary kind order
    State.causeFlywheel).port.mask = s.port.mask ∧ (s.makeBoundary kind order State.causeFlywheel).port.resetCause =
    s.port.resetCause ∧ (s.makeBoundary kind order State.causeFlywheel).port.powerSeen = s.port.powerSeen ∧
    (s.makeBoundary kind order State.causeFlywheel).port.selectHigh = s.port.selectHigh := by
  unfold State.makeBoundary
  dsimp only
  (repeat' split)
  all_goals simp

@[simp] theorem State.pulseInFree_frame (s : State) :
    (s.pulseInFree).directory = s.directory ∧ (s.pulseInFree).pass = s.pass ∧ (s.pulseInFree).camera = s.camera ∧
    (s.pulseInFree).recording = s.recording ∧ (s.pulseInFree).lineQueue = s.lineQueue ∧ (s.pulseInFree).interpolator
    = s.interpolator ∧ (s.pulseInFree).memory = s.memory ∧ (s.pulseInFree).axes = s.axes ∧
    (s.pulseInFree).writeInProcessing = s.writeInProcessing ∧ (s.pulseInFree).witness = s.witness ∧
    (s.pulseInFree).resetControl = s.resetControl ∧ (s.pulseInFree).lastUpstream = s.lastUpstream ∧
    (s.pulseInFree).openOrders = s.openOrders ∧ (s.pulseInFree).due = s.due ∧ (s.pulseInFree).pending = s.pending ∧
    (s.pulseInFree).timebase.active = s.timebase.active ∧ (s.pulseInFree).timebase.pending = s.timebase.pending ∧
    (s.pulseInFree).timebase.lockPending = s.timebase.lockPending ∧ (s.pulseInFree).timebase.history =
    s.timebase.history ∧ (s.pulseInFree).timebase.holdoverCount = s.timebase.holdoverCount ∧
    (s.pulseInFree).timebase.interval = s.timebase.interval ∧ (s.pulseInFree).timebase.flywheel =
    s.timebase.flywheel ∧ (s.pulseInFree).timebase.watching = s.timebase.watching ∧
    (s.pulseInFree).timebase.pulseNear = s.timebase.pulseNear ∧ (s.pulseInFree).timebase.pulseBefore =
    s.timebase.pulseBefore ∧ (s.pulseInFree).timebase.record = s.timebase.record ∧ (s.pulseInFree).timebase.refTime
    = s.timebase.refTime ∧ (s.pulseInFree).timebase.position = s.timebase.position ∧
    (s.pulseInFree).timebase.nextPoint = s.timebase.nextPoint ∧ (s.pulseInFree).timebase.passPulses =
    s.timebase.passPulses ∧ (s.pulseInFree).timebase.advances = s.timebase.advances ∧
    (s.pulseInFree).timebase.frameOffset = s.timebase.frameOffset ∧ (s.pulseInFree).timebase.slips =
    s.timebase.slips ∧ (s.pulseInFree).port.phase = s.port.phase ∧ (s.pulseInFree).port.code = s.port.code ∧
    (s.pulseInFree).port.length = s.port.length ∧ (s.pulseInFree).port.args = s.port.args ∧
    (s.pulseInFree).port.incoming = s.port.incoming ∧ (s.pulseInFree).port.response = s.port.response ∧
    (s.pulseInFree).port.resetPending = s.port.resetPending ∧ (s.pulseInFree).port.mask = s.port.mask ∧
    (s.pulseInFree).port.resetCause = s.port.resetCause ∧ (s.pulseInFree).port.powerSeen = s.port.powerSeen ∧
    (s.pulseInFree).port.selectHigh = s.port.selectHigh := by
  unfold State.pulseInFree
  split <;> simp

@[simp] theorem State.pulseInAcquire_frame (s : State) (order : BoundaryOrder) :
    (s.pulseInAcquire order).interpolator = s.interpolator ∧ (s.pulseInAcquire order).writeInProcessing =
    s.writeInProcessing ∧ (s.pulseInAcquire order).resetControl = s.resetControl ∧ (s.pulseInAcquire
    order).openOrders = s.openOrders ∧ (s.pulseInAcquire order).pending = s.pending ∧ (s.pulseInAcquire
    order).timebase.interval = s.timebase.interval ∧ (s.pulseInAcquire order).timebase.refTime = s.timebase.refTime
    ∧ (s.pulseInAcquire order).timebase.passPulses = s.timebase.passPulses ∧ (s.pulseInAcquire
    order).directory.regionBase = s.directory.regionBase ∧ (s.pulseInAcquire order).directory.regionSize =
    s.directory.regionSize ∧ (s.pulseInAcquire order).directory.verifyOrder = s.directory.verifyOrder ∧
    (s.pulseInAcquire order).directory.verifyCursor = s.directory.verifyCursor ∧ (s.pulseInAcquire order).port.phase
    = s.port.phase ∧ (s.pulseInAcquire order).port.code = s.port.code ∧ (s.pulseInAcquire order).port.length =
    s.port.length ∧ (s.pulseInAcquire order).port.args = s.port.args ∧ (s.pulseInAcquire order).port.incoming =
    s.port.incoming ∧ (s.pulseInAcquire order).port.response = s.port.response ∧ (s.pulseInAcquire
    order).port.resetPending = s.port.resetPending ∧ (s.pulseInAcquire order).port.mask = s.port.mask ∧
    (s.pulseInAcquire order).port.resetCause = s.port.resetCause ∧ (s.pulseInAcquire order).port.powerSeen =
    s.port.powerSeen ∧ (s.pulseInAcquire order).port.selectHigh = s.port.selectHigh := by
  unfold State.pulseInAcquire
  (repeat' split)
  all_goals simp

@[simp] theorem State.pulseInLocked_frame (s : State) (order : BoundaryOrder) :
    (s.pulseInLocked order).interpolator = s.interpolator ∧ (s.pulseInLocked order).writeInProcessing =
    s.writeInProcessing ∧ (s.pulseInLocked order).resetControl = s.resetControl ∧ (s.pulseInLocked order).openOrders
    = s.openOrders ∧ (s.pulseInLocked order).pending = s.pending ∧ (s.pulseInLocked order).timebase.interval =
    s.timebase.interval ∧ (s.pulseInLocked order).timebase.refTime = s.timebase.refTime ∧ (s.pulseInLocked
    order).timebase.passPulses = s.timebase.passPulses ∧ (s.pulseInLocked order).directory.regionBase =
    s.directory.regionBase ∧ (s.pulseInLocked order).directory.regionSize = s.directory.regionSize ∧
    (s.pulseInLocked order).directory.verifyOrder = s.directory.verifyOrder ∧ (s.pulseInLocked
    order).directory.verifyCursor = s.directory.verifyCursor ∧ (s.pulseInLocked order).port.phase = s.port.phase ∧
    (s.pulseInLocked order).port.code = s.port.code ∧ (s.pulseInLocked order).port.length = s.port.length ∧
    (s.pulseInLocked order).port.args = s.port.args ∧ (s.pulseInLocked order).port.incoming = s.port.incoming ∧
    (s.pulseInLocked order).port.response = s.port.response ∧ (s.pulseInLocked order).port.resetPending =
    s.port.resetPending ∧ (s.pulseInLocked order).port.mask = s.port.mask ∧ (s.pulseInLocked order).port.resetCause
    = s.port.resetCause ∧ (s.pulseInLocked order).port.powerSeen = s.port.powerSeen ∧ (s.pulseInLocked
    order).port.selectHigh = s.port.selectHigh := by
  unfold State.pulseInLocked
  split <;> simp

@[simp] theorem State.pulseInHoldover_frame (s : State) (order : BoundaryOrder) :
    (s.pulseInHoldover order).interpolator = s.interpolator ∧ (s.pulseInHoldover order).writeInProcessing =
    s.writeInProcessing ∧ (s.pulseInHoldover order).resetControl = s.resetControl ∧ (s.pulseInHoldover
    order).openOrders = s.openOrders ∧ (s.pulseInHoldover order).pending = s.pending ∧ (s.pulseInHoldover
    order).timebase.interval = s.timebase.interval ∧ (s.pulseInHoldover order).timebase.refTime = s.timebase.refTime
    ∧ (s.pulseInHoldover order).timebase.passPulses = s.timebase.passPulses ∧ (s.pulseInHoldover
    order).directory.regionBase = s.directory.regionBase ∧ (s.pulseInHoldover order).directory.regionSize =
    s.directory.regionSize ∧ (s.pulseInHoldover order).directory.verifyOrder = s.directory.verifyOrder ∧
    (s.pulseInHoldover order).directory.verifyCursor = s.directory.verifyCursor ∧ (s.pulseInHoldover
    order).port.phase = s.port.phase ∧ (s.pulseInHoldover order).port.code = s.port.code ∧ (s.pulseInHoldover
    order).port.length = s.port.length ∧ (s.pulseInHoldover order).port.args = s.port.args ∧ (s.pulseInHoldover
    order).port.incoming = s.port.incoming ∧ (s.pulseInHoldover order).port.response = s.port.response ∧
    (s.pulseInHoldover order).port.resetPending = s.port.resetPending ∧ (s.pulseInHoldover order).port.mask =
    s.port.mask ∧ (s.pulseInHoldover order).port.resetCause = s.port.resetCause ∧ (s.pulseInHoldover
    order).port.powerSeen = s.port.powerSeen ∧ (s.pulseInHoldover order).port.selectHigh = s.port.selectHigh := by
  unfold State.pulseInHoldover
  dsimp only
  (repeat' split)
  all_goals simp

@[simp] theorem State.evaluatePulse_frame (s : State) (order : BoundaryOrder) :
    (s.evaluatePulse order).interpolator = s.interpolator ∧ (s.evaluatePulse order).writeInProcessing =
    s.writeInProcessing ∧ (s.evaluatePulse order).resetControl = s.resetControl ∧ (s.evaluatePulse order).openOrders
    = s.openOrders ∧ (s.evaluatePulse order).pending = s.pending ∧ (s.evaluatePulse order).timebase.interval =
    s.timebase.interval ∧ (s.evaluatePulse order).timebase.refTime = s.timebase.refTime ∧ (s.evaluatePulse
    order).timebase.passPulses = s.timebase.passPulses ∧ (s.evaluatePulse order).directory.regionBase =
    s.directory.regionBase ∧ (s.evaluatePulse order).directory.regionSize = s.directory.regionSize ∧
    (s.evaluatePulse order).directory.verifyOrder = s.directory.verifyOrder ∧ (s.evaluatePulse
    order).directory.verifyCursor = s.directory.verifyCursor ∧ (s.evaluatePulse order).port.phase = s.port.phase ∧
    (s.evaluatePulse order).port.code = s.port.code ∧ (s.evaluatePulse order).port.length = s.port.length ∧
    (s.evaluatePulse order).port.args = s.port.args ∧ (s.evaluatePulse order).port.incoming = s.port.incoming ∧
    (s.evaluatePulse order).port.response = s.port.response ∧ (s.evaluatePulse order).port.resetPending =
    s.port.resetPending ∧ (s.evaluatePulse order).port.mask = s.port.mask ∧ (s.evaluatePulse order).port.resetCause
    = s.port.resetCause ∧ (s.evaluatePulse order).port.powerSeen = s.port.powerSeen ∧ (s.evaluatePulse
    order).port.selectHigh = s.port.selectHigh := by
  unfold State.evaluatePulse
  split <;> simp

@[simp] theorem State.countPulse_frame (s : State) :
    (s.countPulse).directory = s.directory ∧ (s.countPulse).pass = s.pass ∧ (s.countPulse).camera = s.camera ∧
    (s.countPulse).recording = s.recording ∧ (s.countPulse).lineQueue = s.lineQueue ∧ (s.countPulse).interpolator =
    s.interpolator ∧ (s.countPulse).memory = s.memory ∧ (s.countPulse).axes = s.axes ∧
    (s.countPulse).writeInProcessing = s.writeInProcessing ∧ (s.countPulse).witness = s.witness ∧
    (s.countPulse).port = s.port ∧ (s.countPulse).resetControl = s.resetControl ∧ (s.countPulse).lastUpstream =
    s.lastUpstream ∧ (s.countPulse).openOrders = s.openOrders ∧ (s.countPulse).due = s.due ∧ (s.countPulse).pending
    = s.pending ∧ (s.countPulse).timebase.active = s.timebase.active ∧ (s.countPulse).timebase.pending =
    s.timebase.pending ∧ (s.countPulse).timebase.lock = s.timebase.lock ∧ (s.countPulse).timebase.run =
    s.timebase.run ∧ (s.countPulse).timebase.lockPending = s.timebase.lockPending ∧ (s.countPulse).timebase.history
    = s.timebase.history ∧ (s.countPulse).timebase.holdoverCount = s.timebase.holdoverCount ∧
    (s.countPulse).timebase.interval = s.timebase.interval ∧ (s.countPulse).timebase.flywheel = s.timebase.flywheel
    ∧ (s.countPulse).timebase.watching = s.timebase.watching ∧ (s.countPulse).timebase.pulseNear =
    s.timebase.pulseNear ∧ (s.countPulse).timebase.pulseBefore = s.timebase.pulseBefore ∧
    (s.countPulse).timebase.record = s.timebase.record ∧ (s.countPulse).timebase.refTime = s.timebase.refTime ∧
    (s.countPulse).timebase.position = s.timebase.position ∧ (s.countPulse).timebase.nextPoint =
    s.timebase.nextPoint ∧ (s.countPulse).timebase.advances = s.timebase.advances ∧
    (s.countPulse).timebase.frameOffset = s.timebase.frameOffset ∧ (s.countPulse).timebase.slips = s.timebase.slips := by
  unfold State.countPulse
  split <;> simp

@[simp] theorem State.pulse_frame (s : State) (order : BoundaryOrder) :
    (s.pulse order).interpolator = s.interpolator ∧ (s.pulse order).writeInProcessing = s.writeInProcessing ∧
    (s.pulse order).resetControl = s.resetControl ∧ (s.pulse order).openOrders = s.openOrders ∧ (s.pulse
    order).pending = s.pending ∧ (s.pulse order).timebase.refTime = s.timebase.refTime ∧ (s.pulse
    order).directory.regionBase = s.directory.regionBase ∧ (s.pulse order).directory.regionSize =
    s.directory.regionSize ∧ (s.pulse order).directory.verifyOrder = s.directory.verifyOrder ∧ (s.pulse
    order).directory.verifyCursor = s.directory.verifyCursor ∧ (s.pulse order).port.phase = s.port.phase ∧ (s.pulse
    order).port.code = s.port.code ∧ (s.pulse order).port.length = s.port.length ∧ (s.pulse order).port.args =
    s.port.args ∧ (s.pulse order).port.incoming = s.port.incoming ∧ (s.pulse order).port.response = s.port.response
    ∧ (s.pulse order).port.resetPending = s.port.resetPending ∧ (s.pulse order).port.mask = s.port.mask ∧ (s.pulse
    order).port.resetCause = s.port.resetCause ∧ (s.pulse order).port.powerSeen = s.port.powerSeen ∧ (s.pulse
    order).port.selectHigh = s.port.selectHigh := by
  unfold State.pulse
  split <;> simp

@[simp] theorem State.deliver_frame (s : State) (d : Delivery) :
    (s.deliver d).timebase.active = s.timebase.active ∧ (s.deliver d).timebase.pending = s.timebase.pending ∧
    (s.deliver d).timebase.lock = s.timebase.lock ∧ (s.deliver d).timebase.run = s.timebase.run ∧ (s.deliver
    d).timebase.lockPending = s.timebase.lockPending ∧ (s.deliver d).timebase.history = s.timebase.history ∧
    (s.deliver d).timebase.holdoverCount = s.timebase.holdoverCount ∧ (s.deliver d).timebase.interval =
    s.timebase.interval ∧ (s.deliver d).timebase.flywheel = s.timebase.flywheel ∧ (s.deliver d).timebase.watching =
    s.timebase.watching ∧ (s.deliver d).timebase.pulseNear = s.timebase.pulseNear ∧ (s.deliver
    d).timebase.pulseBefore = s.timebase.pulseBefore ∧ (s.deliver d).timebase.record = s.timebase.record ∧
    (s.deliver d).timebase.refTime = s.timebase.refTime ∧ (s.deliver d).timebase.passPulses = s.timebase.passPulses
    ∧ (s.deliver d).timebase.advances = s.timebase.advances ∧ (s.deliver d).timebase.frameOffset =
    s.timebase.frameOffset ∧ (s.deliver d).timebase.slips = s.timebase.slips ∧ (s.deliver d).directory.regionBase =
    s.directory.regionBase ∧ (s.deliver d).directory.regionSize = s.directory.regionSize ∧ (s.deliver
    d).directory.verifyOrder = s.directory.verifyOrder ∧ (s.deliver d).directory.verifyCursor =
    s.directory.verifyCursor ∧ (s.deliver d).camera.receiver = s.camera.receiver ∧ (s.deliver d).camera.held =
    s.camera.held ∧ (s.deliver d).camera.ring = s.camera.ring ∧ (s.deliver d).camera.rule = s.camera.rule ∧
    (s.deliver d).camera.wordCount = s.camera.wordCount ∧ (s.deliver d).camera.errorCount = s.camera.errorCount ∧
    (s.deliver d).lineQueue.geometry = s.lineQueue.geometry ∧ (s.deliver d).lineQueue.lines = s.lineQueue.lines ∧
    (s.deliver d).lineQueue.assembly = s.lineQueue.assembly ∧ (s.deliver d).lineQueue.nextFetch =
    s.lineQueue.nextFetch ∧ (s.deliver d).lineQueue.currentLine = s.lineQueue.currentLine ∧ (s.deliver
    d).interpolator = s.interpolator ∧ (s.deliver d).memory.upstream = s.memory.upstream ∧ (s.deliver
    d).memory.downstream = s.memory.downstream ∧ (s.deliver d).memory.urgentRun = s.memory.urgentRun ∧ (s.deliver
    d).memory.blockedAddress = s.memory.blockedAddress ∧ (s.deliver d).memory.protectBlocks = s.memory.protectBlocks
    ∧ (s.deliver d).memory.partialBlocks = s.memory.partialBlocks ∧ (s.deliver d).writeInProcessing =
    s.writeInProcessing ∧ (s.deliver d).resetControl = s.resetControl ∧ (s.deliver d).lastUpstream = s.lastUpstream
    ∧ (s.deliver d).openOrders = s.openOrders ∧ (s.deliver d).pending = s.pending ∧ (s.deliver d).pass.context =
    s.pass.context ∧ (s.deliver d).port.phase = s.port.phase ∧ (s.deliver d).port.code = s.port.code ∧ (s.deliver
    d).port.length = s.port.length ∧ (s.deliver d).port.args = s.port.args ∧ (s.deliver d).port.incoming =
    s.port.incoming ∧ (s.deliver d).port.response = s.port.response ∧ (s.deliver d).port.resetPending =
    s.port.resetPending ∧ (s.deliver d).port.mask = s.port.mask ∧ (s.deliver d).port.resetCause = s.port.resetCause
    ∧ (s.deliver d).port.powerSeen = s.port.powerSeen ∧ (s.deliver d).port.selectHigh = s.port.selectHigh := by
  cases d <;> simp [State.deliver]

@[simp] theorem State.deliverNext_frame (s : State) :
    (s.deliverNext).timebase.active = s.timebase.active ∧ (s.deliverNext).timebase.pending = s.timebase.pending ∧
    (s.deliverNext).timebase.lock = s.timebase.lock ∧ (s.deliverNext).timebase.run = s.timebase.run ∧
    (s.deliverNext).timebase.lockPending = s.timebase.lockPending ∧ (s.deliverNext).timebase.history =
    s.timebase.history ∧ (s.deliverNext).timebase.holdoverCount = s.timebase.holdoverCount ∧
    (s.deliverNext).timebase.interval = s.timebase.interval ∧ (s.deliverNext).timebase.flywheel =
    s.timebase.flywheel ∧ (s.deliverNext).timebase.watching = s.timebase.watching ∧
    (s.deliverNext).timebase.pulseNear = s.timebase.pulseNear ∧ (s.deliverNext).timebase.pulseBefore =
    s.timebase.pulseBefore ∧ (s.deliverNext).timebase.record = s.timebase.record ∧ (s.deliverNext).timebase.refTime
    = s.timebase.refTime ∧ (s.deliverNext).timebase.passPulses = s.timebase.passPulses ∧
    (s.deliverNext).timebase.advances = s.timebase.advances ∧ (s.deliverNext).timebase.frameOffset =
    s.timebase.frameOffset ∧ (s.deliverNext).timebase.slips = s.timebase.slips ∧
    (s.deliverNext).directory.regionBase = s.directory.regionBase ∧ (s.deliverNext).directory.regionSize =
    s.directory.regionSize ∧ (s.deliverNext).directory.verifyOrder = s.directory.verifyOrder ∧
    (s.deliverNext).directory.verifyCursor = s.directory.verifyCursor ∧ (s.deliverNext).camera.receiver =
    s.camera.receiver ∧ (s.deliverNext).camera.held = s.camera.held ∧ (s.deliverNext).camera.ring = s.camera.ring ∧
    (s.deliverNext).camera.rule = s.camera.rule ∧ (s.deliverNext).camera.wordCount = s.camera.wordCount ∧
    (s.deliverNext).camera.errorCount = s.camera.errorCount ∧ (s.deliverNext).lineQueue.geometry =
    s.lineQueue.geometry ∧ (s.deliverNext).lineQueue.lines = s.lineQueue.lines ∧
    (s.deliverNext).lineQueue.currentLine = s.lineQueue.currentLine ∧ (s.deliverNext).interpolator = s.interpolator
    ∧ (s.deliverNext).writeInProcessing = s.writeInProcessing ∧ (s.deliverNext).resetControl = s.resetControl ∧
    (s.deliverNext).openOrders = s.openOrders ∧ (s.deliverNext).pending = s.pending ∧ (s.deliverNext).pass.context =
    s.pass.context ∧ (s.deliverNext).port.phase = s.port.phase ∧ (s.deliverNext).port.code = s.port.code ∧
    (s.deliverNext).port.length = s.port.length ∧ (s.deliverNext).port.args = s.port.args ∧
    (s.deliverNext).port.incoming = s.port.incoming ∧ (s.deliverNext).port.response = s.port.response ∧
    (s.deliverNext).port.resetPending = s.port.resetPending ∧ (s.deliverNext).port.mask = s.port.mask ∧
    (s.deliverNext).port.resetCause = s.port.resetCause ∧ (s.deliverNext).port.powerSeen = s.port.powerSeen ∧
    (s.deliverNext).port.selectHigh = s.port.selectHigh := by
  unfold State.deliverNext
  split <;> simp

@[simp] theorem State.deliverAll_frame (ds : List Delivery) (s : State) :
    (ds.foldl State.deliver s).timebase.active = s.timebase.active ∧ (ds.foldl State.deliver s).timebase.pending =
    s.timebase.pending ∧ (ds.foldl State.deliver s).timebase.lock = s.timebase.lock ∧ (ds.foldl State.deliver
    s).timebase.run = s.timebase.run ∧ (ds.foldl State.deliver s).timebase.lockPending = s.timebase.lockPending ∧
    (ds.foldl State.deliver s).timebase.history = s.timebase.history ∧ (ds.foldl State.deliver
    s).timebase.holdoverCount = s.timebase.holdoverCount ∧ (ds.foldl State.deliver s).timebase.interval =
    s.timebase.interval ∧ (ds.foldl State.deliver s).timebase.flywheel = s.timebase.flywheel ∧ (ds.foldl
    State.deliver s).timebase.watching = s.timebase.watching ∧ (ds.foldl State.deliver s).timebase.pulseNear =
    s.timebase.pulseNear ∧ (ds.foldl State.deliver s).timebase.pulseBefore = s.timebase.pulseBefore ∧ (ds.foldl
    State.deliver s).timebase.record = s.timebase.record ∧ (ds.foldl State.deliver s).timebase.refTime =
    s.timebase.refTime ∧ (ds.foldl State.deliver s).timebase.passPulses = s.timebase.passPulses ∧ (ds.foldl
    State.deliver s).timebase.advances = s.timebase.advances ∧ (ds.foldl State.deliver s).timebase.frameOffset =
    s.timebase.frameOffset ∧ (ds.foldl State.deliver s).timebase.slips = s.timebase.slips ∧ (ds.foldl State.deliver
    s).directory.regionBase = s.directory.regionBase ∧ (ds.foldl State.deliver s).directory.regionSize =
    s.directory.regionSize ∧ (ds.foldl State.deliver s).directory.verifyOrder = s.directory.verifyOrder ∧ (ds.foldl
    State.deliver s).directory.verifyCursor = s.directory.verifyCursor ∧ (ds.foldl State.deliver s).camera.receiver =
    s.camera.receiver ∧ (ds.foldl State.deliver s).camera.held = s.camera.held ∧ (ds.foldl State.deliver
    s).camera.ring = s.camera.ring ∧ (ds.foldl State.deliver s).camera.rule = s.camera.rule ∧ (ds.foldl State.deliver
    s).camera.wordCount = s.camera.wordCount ∧ (ds.foldl State.deliver s).camera.errorCount = s.camera.errorCount ∧
    (ds.foldl State.deliver s).lineQueue.geometry = s.lineQueue.geometry ∧ (ds.foldl State.deliver s).lineQueue.lines
    = s.lineQueue.lines ∧ (ds.foldl State.deliver s).lineQueue.assembly = s.lineQueue.assembly ∧ (ds.foldl
    State.deliver s).lineQueue.nextFetch = s.lineQueue.nextFetch ∧ (ds.foldl State.deliver s).lineQueue.currentLine =
    s.lineQueue.currentLine ∧ (ds.foldl State.deliver s).interpolator = s.interpolator ∧ (ds.foldl State.deliver
    s).memory.upstream = s.memory.upstream ∧ (ds.foldl State.deliver s).memory.downstream = s.memory.downstream ∧
    (ds.foldl State.deliver s).memory.urgentRun = s.memory.urgentRun ∧ (ds.foldl State.deliver
    s).memory.blockedAddress = s.memory.blockedAddress ∧ (ds.foldl State.deliver s).memory.protectBlocks =
    s.memory.protectBlocks ∧ (ds.foldl State.deliver s).memory.partialBlocks = s.memory.partialBlocks ∧ (ds.foldl
    State.deliver s).writeInProcessing = s.writeInProcessing ∧ (ds.foldl State.deliver s).resetControl =
    s.resetControl ∧ (ds.foldl State.deliver s).lastUpstream = s.lastUpstream ∧ (ds.foldl State.deliver s).openOrders
    = s.openOrders ∧ (ds.foldl State.deliver s).pending = s.pending ∧ (ds.foldl State.deliver s).pass.context =
    s.pass.context ∧ (ds.foldl State.deliver s).port.phase = s.port.phase ∧ (ds.foldl State.deliver s).port.code =
    s.port.code ∧ (ds.foldl State.deliver s).port.length = s.port.length ∧ (ds.foldl State.deliver s).port.args =
    s.port.args ∧ (ds.foldl State.deliver s).port.incoming = s.port.incoming ∧ (ds.foldl State.deliver
    s).port.response = s.port.response ∧ (ds.foldl State.deliver s).port.resetPending = s.port.resetPending ∧
    (ds.foldl State.deliver s).port.mask = s.port.mask ∧ (ds.foldl State.deliver s).port.resetCause =
    s.port.resetCause ∧ (ds.foldl State.deliver s).port.powerSeen = s.port.powerSeen ∧ (ds.foldl State.deliver
    s).port.selectHigh = s.port.selectHigh := by
  induction ds generalizing s with
  | nil => simp
  | cons d ds ih => simp [ih]

@[simp] theorem State.takeBoundaries_frame (s : State) :
    (s.takeBoundaries).timebase.active = s.timebase.active ∧ (s.takeBoundaries).timebase.pending = s.timebase.pending
    ∧ (s.takeBoundaries).timebase.lock = s.timebase.lock ∧ (s.takeBoundaries).timebase.run = s.timebase.run ∧
    (s.takeBoundaries).timebase.lockPending = s.timebase.lockPending ∧ (s.takeBoundaries).timebase.history =
    s.timebase.history ∧ (s.takeBoundaries).timebase.holdoverCount = s.timebase.holdoverCount ∧
    (s.takeBoundaries).timebase.interval = s.timebase.interval ∧ (s.takeBoundaries).timebase.flywheel =
    s.timebase.flywheel ∧ (s.takeBoundaries).timebase.watching = s.timebase.watching ∧
    (s.takeBoundaries).timebase.pulseNear = s.timebase.pulseNear ∧ (s.takeBoundaries).timebase.pulseBefore =
    s.timebase.pulseBefore ∧ (s.takeBoundaries).timebase.record = s.timebase.record ∧
    (s.takeBoundaries).timebase.refTime = s.timebase.refTime ∧ (s.takeBoundaries).timebase.passPulses =
    s.timebase.passPulses ∧ (s.takeBoundaries).timebase.advances = s.timebase.advances ∧
    (s.takeBoundaries).timebase.frameOffset = s.timebase.frameOffset ∧ (s.takeBoundaries).timebase.slips =
    s.timebase.slips ∧ (s.takeBoundaries).directory.regionBase = s.directory.regionBase ∧
    (s.takeBoundaries).directory.regionSize = s.directory.regionSize ∧ (s.takeBoundaries).directory.verifyOrder =
    s.directory.verifyOrder ∧ (s.takeBoundaries).directory.verifyCursor = s.directory.verifyCursor ∧
    (s.takeBoundaries).camera.receiver = s.camera.receiver ∧ (s.takeBoundaries).camera.held = s.camera.held ∧
    (s.takeBoundaries).camera.ring = s.camera.ring ∧ (s.takeBoundaries).camera.rule = s.camera.rule ∧
    (s.takeBoundaries).camera.wordCount = s.camera.wordCount ∧ (s.takeBoundaries).camera.errorCount =
    s.camera.errorCount ∧ (s.takeBoundaries).lineQueue.geometry = s.lineQueue.geometry ∧
    (s.takeBoundaries).lineQueue.lines = s.lineQueue.lines ∧ (s.takeBoundaries).lineQueue.currentLine =
    s.lineQueue.currentLine ∧ (s.takeBoundaries).interpolator = s.interpolator ∧ (s.takeBoundaries).writeInProcessing
    = s.writeInProcessing ∧ (s.takeBoundaries).resetControl = s.resetControl ∧ (s.takeBoundaries).openOrders =
    s.openOrders ∧ (s.takeBoundaries).pending = s.pending ∧ (s.takeBoundaries).pass.context = s.pass.context ∧
    (s.takeBoundaries).port.phase = s.port.phase ∧ (s.takeBoundaries).port.code = s.port.code ∧
    (s.takeBoundaries).port.length = s.port.length ∧ (s.takeBoundaries).port.args = s.port.args ∧
    (s.takeBoundaries).port.incoming = s.port.incoming ∧ (s.takeBoundaries).port.response = s.port.response ∧
    (s.takeBoundaries).port.resetPending = s.port.resetPending ∧ (s.takeBoundaries).port.mask = s.port.mask ∧
    (s.takeBoundaries).port.resetCause = s.port.resetCause ∧ (s.takeBoundaries).port.powerSeen = s.port.powerSeen ∧
    (s.takeBoundaries).port.selectHigh = s.port.selectHigh := by
  unfold State.takeBoundaries
  split <;> simp

@[simp] theorem State.nextByte_frame (s : State) :
    (s.nextByte).timebase = s.timebase ∧ (s.nextByte).directory = s.directory ∧ (s.nextByte).pass = s.pass ∧
    (s.nextByte).camera = s.camera ∧ (s.nextByte).recording = s.recording ∧ (s.nextByte).lineQueue = s.lineQueue ∧
    (s.nextByte).interpolator = s.interpolator ∧ (s.nextByte).memory = s.memory ∧ (s.nextByte).axes = s.axes ∧
    (s.nextByte).writeInProcessing = s.writeInProcessing ∧ (s.nextByte).witness = s.witness ∧
    (s.nextByte).resetControl = s.resetControl ∧ (s.nextByte).due = s.due ∧ (s.nextByte).lastUpstream =
    s.lastUpstream ∧ (s.nextByte).openOrders = s.openOrders ∧ (s.nextByte).pending = s.pending := by
  unfold State.nextByte
  split <;> simp

@[simp] theorem State.beginReset_frame (s : State) :
    (s.beginReset).timebase = s.timebase ∧ (s.beginReset).directory = s.directory ∧ (s.beginReset).pass = s.pass ∧
    (s.beginReset).camera = s.camera ∧ (s.beginReset).axes = s.axes ∧ (s.beginReset).witness = s.witness ∧
    (s.beginReset).openOrders = s.openOrders ∧ (s.beginReset).pending = s.pending ∧
    (s.beginReset).interpolator.lastEval = s.interpolator.lastEval ∧ (s.beginReset).port.code = s.port.code ∧
    (s.beginReset).port.length = s.port.length ∧ (s.beginReset).port.args = s.port.args ∧
    (s.beginReset).port.response = s.port.response ∧ (s.beginReset).port.mask = s.port.mask ∧
    (s.beginReset).port.resetCause = s.port.resetCause ∧ (s.beginReset).port.powerSeen = s.port.powerSeen ∧
    (s.beginReset).port.selectHigh = s.port.selectHigh ∧ (s.beginReset).resetControl.byPower =
    s.resetControl.byPower ∧ (s.beginReset).resetControl.byPin = s.resetControl.byPin ∧
    (s.beginReset).resetControl.byCommand = s.resetControl.byCommand ∧ (s.beginReset).resetControl.pinHeld =
    s.resetControl.pinHeld ∧ (s.beginReset).resetControl.spanLeft = s.resetControl.spanLeft := by
  unfold State.beginReset
  split <;> simp

@[simp] theorem State.count_frame (s : State) (n : Nat) :
    (s.count n).directory = s.directory ∧ (s.count n).pass = s.pass ∧ (s.count n).recording = s.recording ∧ (s.count
    n).lineQueue = s.lineQueue ∧ (s.count n).interpolator = s.interpolator ∧ (s.count n).memory = s.memory ∧
    (s.count n).axes = s.axes ∧ (s.count n).writeInProcessing = s.writeInProcessing ∧ (s.count n).witness =
    s.witness ∧ (s.count n).lastUpstream = s.lastUpstream ∧ (s.count n).openOrders = s.openOrders ∧ (s.count n).due
    = s.due ∧ (s.count n).pending = s.pending ∧ (s.count n).timebase.active = s.timebase.active ∧ (s.count
    n).timebase.pending = s.timebase.pending ∧ (s.count n).timebase.lock = s.timebase.lock ∧ (s.count
    n).timebase.run = s.timebase.run ∧ (s.count n).timebase.lockPending = s.timebase.lockPending ∧ (s.count
    n).timebase.history = s.timebase.history ∧ (s.count n).timebase.holdoverCount = s.timebase.holdoverCount ∧
    (s.count n).timebase.watching = s.timebase.watching ∧ (s.count n).timebase.pulseNear = s.timebase.pulseNear ∧
    (s.count n).timebase.pulseBefore = s.timebase.pulseBefore ∧ (s.count n).timebase.record = s.timebase.record ∧
    (s.count n).timebase.position = s.timebase.position ∧ (s.count n).timebase.nextPoint = s.timebase.nextPoint ∧
    (s.count n).timebase.passPulses = s.timebase.passPulses ∧ (s.count n).timebase.advances = s.timebase.advances ∧
    (s.count n).timebase.frameOffset = s.timebase.frameOffset ∧ (s.count n).timebase.slips = s.timebase.slips ∧
    (s.count n).camera.held = s.camera.held ∧ (s.count n).camera.ring = s.camera.ring ∧ (s.count n).camera.rule =
    s.camera.rule ∧ (s.count n).camera.declared = s.camera.declared ∧ (s.count n).camera.wordCount =
    s.camera.wordCount ∧ (s.count n).camera.errorCount = s.camera.errorCount ∧ (s.count n).resetControl.inForce =
    s.resetControl.inForce ∧ (s.count n).resetControl.byPower = s.resetControl.byPower ∧ (s.count
    n).resetControl.byPin = s.resetControl.byPin ∧ (s.count n).resetControl.byCommand = s.resetControl.byCommand ∧
    (s.count n).resetControl.pinHeld = s.resetControl.pinHeld ∧ (s.count n).port.phase = s.port.phase ∧ (s.count
    n).port.code = s.port.code ∧ (s.count n).port.length = s.port.length ∧ (s.count n).port.args = s.port.args ∧
    (s.count n).port.response = s.port.response ∧ (s.count n).port.resetPending = s.port.resetPending ∧ (s.count
    n).port.flags = s.port.flags ∧ (s.count n).port.mask = s.port.mask ∧ (s.count n).port.resetCause =
    s.port.resetCause ∧ (s.count n).port.powerSeen = s.port.powerSeen ∧ (s.count n).port.selectHigh =
    s.port.selectHigh := by
  unfold State.count
  split <;> simp

@[simp] theorem State.samplePointNow_frame (s : State) :
    (s.samplePointNow).camera = s.camera ∧ (s.samplePointNow).interpolator = s.interpolator ∧
    (s.samplePointNow).writeInProcessing = s.writeInProcessing ∧ (s.samplePointNow).witness = s.witness ∧
    (s.samplePointNow).resetControl = s.resetControl ∧ (s.samplePointNow).openOrders = s.openOrders ∧
    (s.samplePointNow).due = s.due ∧ (s.samplePointNow).pending = s.pending ∧ (s.samplePointNow).timebase.active =
    s.timebase.active ∧ (s.samplePointNow).timebase.pending = s.timebase.pending ∧ (s.samplePointNow).timebase.lock
    = s.timebase.lock ∧ (s.samplePointNow).timebase.run = s.timebase.run ∧ (s.samplePointNow).timebase.lockPending =
    s.timebase.lockPending ∧ (s.samplePointNow).timebase.history = s.timebase.history ∧
    (s.samplePointNow).timebase.holdoverCount = s.timebase.holdoverCount ∧ (s.samplePointNow).timebase.interval =
    s.timebase.interval ∧ (s.samplePointNow).timebase.flywheel = s.timebase.flywheel ∧
    (s.samplePointNow).timebase.watching = s.timebase.watching ∧ (s.samplePointNow).timebase.pulseNear =
    s.timebase.pulseNear ∧ (s.samplePointNow).timebase.pulseBefore = s.timebase.pulseBefore ∧
    (s.samplePointNow).timebase.record = s.timebase.record ∧ (s.samplePointNow).timebase.refTime =
    s.timebase.refTime ∧ (s.samplePointNow).timebase.passPulses = s.timebase.passPulses ∧
    (s.samplePointNow).timebase.advances = s.timebase.advances ∧ (s.samplePointNow).timebase.frameOffset =
    s.timebase.frameOffset ∧ (s.samplePointNow).timebase.slips = s.timebase.slips ∧
    (s.samplePointNow).directory.regionBase = s.directory.regionBase ∧ (s.samplePointNow).directory.regionSize =
    s.directory.regionSize ∧ (s.samplePointNow).directory.verifyOrder = s.directory.verifyOrder ∧
    (s.samplePointNow).directory.verifyCursor = s.directory.verifyCursor ∧ (s.samplePointNow).pass.context =
    s.pass.context ∧ (s.samplePointNow).pass.preroll = s.pass.preroll ∧ (s.samplePointNow).pass.hasRun =
    s.pass.hasRun ∧ (s.samplePointNow).lineQueue.geometry = s.lineQueue.geometry ∧
    (s.samplePointNow).lineQueue.lines = s.lineQueue.lines ∧ (s.samplePointNow).lineQueue.currentLine =
    s.lineQueue.currentLine ∧ (s.samplePointNow).port.phase = s.port.phase ∧ (s.samplePointNow).port.code =
    s.port.code ∧ (s.samplePointNow).port.length = s.port.length ∧ (s.samplePointNow).port.args = s.port.args ∧
    (s.samplePointNow).port.incoming = s.port.incoming ∧ (s.samplePointNow).port.response = s.port.response ∧
    (s.samplePointNow).port.resetPending = s.port.resetPending ∧ (s.samplePointNow).port.mask = s.port.mask ∧
    (s.samplePointNow).port.resetCause = s.port.resetCause ∧ (s.samplePointNow).port.powerSeen = s.port.powerSeen ∧
    (s.samplePointNow).port.selectHigh = s.port.selectHigh := by
  unfold State.samplePointNow
  split <;> simp

@[simp] theorem State.flywheelNow_frame (s : State) (order : BoundaryOrder) :
    (s.flywheelNow order).interpolator = s.interpolator ∧ (s.flywheelNow order).writeInProcessing =
    s.writeInProcessing ∧ (s.flywheelNow order).resetControl = s.resetControl ∧ (s.flywheelNow order).openOrders =
    s.openOrders ∧ (s.flywheelNow order).pending = s.pending ∧ (s.flywheelNow order).timebase.interval =
    s.timebase.interval ∧ (s.flywheelNow order).timebase.refTime = s.timebase.refTime ∧ (s.flywheelNow
    order).timebase.passPulses = s.timebase.passPulses ∧ (s.flywheelNow order).directory.regionBase =
    s.directory.regionBase ∧ (s.flywheelNow order).directory.regionSize = s.directory.regionSize ∧ (s.flywheelNow
    order).directory.verifyOrder = s.directory.verifyOrder ∧ (s.flywheelNow order).directory.verifyCursor =
    s.directory.verifyCursor ∧ (s.flywheelNow order).port.phase = s.port.phase ∧ (s.flywheelNow order).port.code =
    s.port.code ∧ (s.flywheelNow order).port.length = s.port.length ∧ (s.flywheelNow order).port.args = s.port.args
    ∧ (s.flywheelNow order).port.incoming = s.port.incoming ∧ (s.flywheelNow order).port.response = s.port.response
    ∧ (s.flywheelNow order).port.resetPending = s.port.resetPending ∧ (s.flywheelNow order).port.mask = s.port.mask
    ∧ (s.flywheelNow order).port.resetCause = s.port.resetCause ∧ (s.flywheelNow order).port.powerSeen =
    s.port.powerSeen ∧ (s.flywheelNow order).port.selectHigh = s.port.selectHigh := by
  simp [State.flywheelNow]

@[simp] theorem State.substituteNow_frame (s : State) (order : BoundaryOrder) :
    (s.substituteNow order).interpolator = s.interpolator ∧ (s.substituteNow order).writeInProcessing =
    s.writeInProcessing ∧ (s.substituteNow order).resetControl = s.resetControl ∧ (s.substituteNow order).openOrders
    = s.openOrders ∧ (s.substituteNow order).pending = s.pending ∧ (s.substituteNow order).timebase.interval =
    s.timebase.interval ∧ (s.substituteNow order).timebase.refTime = s.timebase.refTime ∧ (s.substituteNow
    order).timebase.passPulses = s.timebase.passPulses ∧ (s.substituteNow order).directory.regionBase =
    s.directory.regionBase ∧ (s.substituteNow order).directory.regionSize = s.directory.regionSize ∧
    (s.substituteNow order).directory.verifyOrder = s.directory.verifyOrder ∧ (s.substituteNow
    order).directory.verifyCursor = s.directory.verifyCursor ∧ (s.substituteNow order).port.phase = s.port.phase ∧
    (s.substituteNow order).port.code = s.port.code ∧ (s.substituteNow order).port.length = s.port.length ∧
    (s.substituteNow order).port.args = s.port.args ∧ (s.substituteNow order).port.incoming = s.port.incoming ∧
    (s.substituteNow order).port.response = s.port.response ∧ (s.substituteNow order).port.resetPending =
    s.port.resetPending ∧ (s.substituteNow order).port.mask = s.port.mask ∧ (s.substituteNow order).port.resetCause
    = s.port.resetCause ∧ (s.substituteNow order).port.powerSeen = s.port.powerSeen ∧ (s.substituteNow
    order).port.selectHigh = s.port.selectHigh := by
  simp [State.substituteNow]

@[simp] theorem State.settleAt_frame (s : State) (late : Bool) :
    (s.settleAt late).timebase = s.timebase ∧ (s.settleAt late).directory = s.directory ∧ (s.settleAt late).pass =
    s.pass ∧ (s.settleAt late).camera = s.camera ∧ (s.settleAt late).interpolator = s.interpolator ∧ (s.settleAt
    late).axes = s.axes ∧ (s.settleAt late).writeInProcessing = s.writeInProcessing ∧ (s.settleAt late).witness =
    s.witness ∧ (s.settleAt late).resetControl = s.resetControl ∧ (s.settleAt late).openOrders = s.openOrders ∧
    (s.settleAt late).pending = s.pending ∧ (s.settleAt late).recording.isOpen = s.recording.isOpen ∧ (s.settleAt
    late).recording.queue = s.recording.queue ∧ (s.settleAt late).recording.highWater = s.recording.highWater ∧
    (s.settleAt late).lineQueue.geometry = s.lineQueue.geometry ∧ (s.settleAt late).lineQueue.lines =
    s.lineQueue.lines ∧ (s.settleAt late).lineQueue.currentLine = s.lineQueue.currentLine ∧ (s.settleAt
    late).port.phase = s.port.phase ∧ (s.settleAt late).port.code = s.port.code ∧ (s.settleAt late).port.length =
    s.port.length ∧ (s.settleAt late).port.args = s.port.args ∧ (s.settleAt late).port.incoming = s.port.incoming ∧
    (s.settleAt late).port.response = s.port.response ∧ (s.settleAt late).port.resetPending = s.port.resetPending ∧
    (s.settleAt late).port.mask = s.port.mask ∧ (s.settleAt late).port.resetCause = s.port.resetCause ∧ (s.settleAt
    late).port.powerSeen = s.port.powerSeen ∧ (s.settleAt late).port.selectHigh = s.port.selectHigh := by
  unfold State.settleAt
  split <;> simp

@[simp] theorem State.takeUpstream_frame (s : State) (t : UpstreamTxn) (slotLate : Bool) :
    (s.takeUpstream t slotLate).timebase = s.timebase ∧ (s.takeUpstream t slotLate).camera = s.camera ∧
    (s.takeUpstream t slotLate).witness = s.witness ∧ (s.takeUpstream t slotLate).resetControl = s.resetControl ∧
    (s.takeUpstream t slotLate).openOrders = s.openOrders ∧ (s.takeUpstream t slotLate).pending = s.pending ∧
    (s.takeUpstream t slotLate).directory.regionBase = s.directory.regionBase ∧ (s.takeUpstream t
    slotLate).directory.regionSize = s.directory.regionSize ∧ (s.takeUpstream t slotLate).directory.verifyOrder =
    s.directory.verifyOrder ∧ (s.takeUpstream t slotLate).directory.verifyCursor = s.directory.verifyCursor ∧
    (s.takeUpstream t slotLate).pass.state = s.pass.state ∧ (s.takeUpstream t slotLate).pass.context = s.pass.context
    ∧ (s.takeUpstream t slotLate).pass.pending = s.pass.pending ∧ (s.takeUpstream t slotLate).pass.preroll =
    s.pass.preroll ∧ (s.takeUpstream t slotLate).pass.hasRun = s.pass.hasRun ∧ (s.takeUpstream t
    slotLate).recording.isOpen = s.recording.isOpen ∧ (s.takeUpstream t slotLate).recording.queue = s.recording.queue
    ∧ (s.takeUpstream t slotLate).recording.highWater = s.recording.highWater ∧ (s.takeUpstream t
    slotLate).interpolator.lastEval = s.interpolator.lastEval ∧ (s.takeUpstream t slotLate).port.phase = s.port.phase
    ∧ (s.takeUpstream t slotLate).port.code = s.port.code ∧ (s.takeUpstream t slotLate).port.length = s.port.length ∧
    (s.takeUpstream t slotLate).port.args = s.port.args ∧ (s.takeUpstream t slotLate).port.incoming = s.port.incoming
    ∧ (s.takeUpstream t slotLate).port.response = s.port.response ∧ (s.takeUpstream t slotLate).port.resetPending =
    s.port.resetPending ∧ (s.takeUpstream t slotLate).port.mask = s.port.mask ∧ (s.takeUpstream t
    slotLate).port.resetCause = s.port.resetCause ∧ (s.takeUpstream t slotLate).port.powerSeen = s.port.powerSeen ∧
    (s.takeUpstream t slotLate).port.selectHigh = s.port.selectHigh := by
  unfold State.takeUpstream
  split
  · split <;> simp
  · simp

@[simp] theorem State.passThroughComplete_frame (s : State) (d : DownstreamTxn) (data : Word) (late : Bool) :
    (s.passThroughComplete d data late).timebase = s.timebase ∧ (s.passThroughComplete d data late).directory =
    s.directory ∧ (s.passThroughComplete d data late).camera = s.camera ∧ (s.passThroughComplete d data
    late).recording = s.recording ∧ (s.passThroughComplete d data late).interpolator = s.interpolator ∧
    (s.passThroughComplete d data late).writeInProcessing = s.writeInProcessing ∧ (s.passThroughComplete d data
    late).resetControl = s.resetControl ∧ (s.passThroughComplete d data late).openOrders = s.openOrders ∧
    (s.passThroughComplete d data late).pending = s.pending ∧ (s.passThroughComplete d data late).pass.state =
    s.pass.state ∧ (s.passThroughComplete d data late).pass.context = s.pass.context ∧ (s.passThroughComplete d data
    late).pass.preroll = s.pass.preroll ∧ (s.passThroughComplete d data late).pass.hasRun = s.pass.hasRun ∧
    (s.passThroughComplete d data late).pass.summary = s.pass.summary ∧ (s.passThroughComplete d data
    late).lineQueue.geometry = s.lineQueue.geometry ∧ (s.passThroughComplete d data late).lineQueue.nextFetch =
    s.lineQueue.nextFetch ∧ (s.passThroughComplete d data late).lineQueue.currentLine = s.lineQueue.currentLine ∧
    (s.passThroughComplete d data late).memory.downstream = s.memory.downstream ∧ (s.passThroughComplete d data
    late).memory.urgentRun = s.memory.urgentRun ∧ (s.passThroughComplete d data late).memory.blockedAddress =
    s.memory.blockedAddress ∧ (s.passThroughComplete d data late).memory.protectBlocks = s.memory.protectBlocks ∧
    (s.passThroughComplete d data late).memory.partialBlocks = s.memory.partialBlocks ∧ (s.passThroughComplete d
    data late).witness.frameStart = s.witness.frameStart ∧ (s.passThroughComplete d data late).witness.log =
    s.witness.log ∧ (s.passThroughComplete d data late).witness.lost = s.witness.lost ∧ (s.passThroughComplete d
    data late).port.phase = s.port.phase ∧ (s.passThroughComplete d data late).port.code = s.port.code ∧
    (s.passThroughComplete d data late).port.length = s.port.length ∧ (s.passThroughComplete d data late).port.args
    = s.port.args ∧ (s.passThroughComplete d data late).port.incoming = s.port.incoming ∧ (s.passThroughComplete d
    data late).port.response = s.port.response ∧ (s.passThroughComplete d data late).port.resetPending =
    s.port.resetPending ∧ (s.passThroughComplete d data late).port.mask = s.port.mask ∧ (s.passThroughComplete d
    data late).port.resetCause = s.port.resetCause ∧ (s.passThroughComplete d data late).port.powerSeen =
    s.port.powerSeen ∧ (s.passThroughComplete d data late).port.selectHigh = s.port.selectHigh := by
  unfold State.passThroughComplete
  dsimp only
  (repeat' split)
  all_goals simp

@[simp] theorem State.completeDownstream_frame (s : State) (d : DownstreamTxn) (data : Word) (late : Bool) :
    (s.completeDownstream d data late).timebase = s.timebase ∧ (s.completeDownstream d data late).camera = s.camera
    ∧ (s.completeDownstream d data late).interpolator = s.interpolator ∧ (s.completeDownstream d data
    late).writeInProcessing = s.writeInProcessing ∧ (s.completeDownstream d data late).resetControl = s.resetControl
    ∧ (s.completeDownstream d data late).openOrders = s.openOrders ∧ (s.completeDownstream d data late).pending =
    s.pending ∧ (s.completeDownstream d data late).directory.regionBase = s.directory.regionBase ∧
    (s.completeDownstream d data late).directory.regionSize = s.directory.regionSize ∧ (s.completeDownstream d data
    late).pass.context = s.pass.context ∧ (s.completeDownstream d data late).pass.preroll = s.pass.preroll ∧
    (s.completeDownstream d data late).pass.hasRun = s.pass.hasRun ∧ (s.completeDownstream d data
    late).recording.isOpen = s.recording.isOpen ∧ (s.completeDownstream d data late).recording.highWater =
    s.recording.highWater ∧ (s.completeDownstream d data late).lineQueue.geometry = s.lineQueue.geometry ∧
    (s.completeDownstream d data late).lineQueue.nextFetch = s.lineQueue.nextFetch ∧ (s.completeDownstream d data
    late).lineQueue.currentLine = s.lineQueue.currentLine ∧ (s.completeDownstream d data late).memory.urgentRun =
    s.memory.urgentRun ∧ (s.completeDownstream d data late).memory.blockedAddress = s.memory.blockedAddress ∧
    (s.completeDownstream d data late).memory.protectBlocks = s.memory.protectBlocks ∧ (s.completeDownstream d data
    late).memory.partialBlocks = s.memory.partialBlocks ∧ (s.completeDownstream d data late).witness.frameStart =
    s.witness.frameStart ∧ (s.completeDownstream d data late).witness.log = s.witness.log ∧ (s.completeDownstream d
    data late).witness.lost = s.witness.lost ∧ (s.completeDownstream d data late).port.phase = s.port.phase ∧
    (s.completeDownstream d data late).port.code = s.port.code ∧ (s.completeDownstream d data late).port.length =
    s.port.length ∧ (s.completeDownstream d data late).port.args = s.port.args ∧ (s.completeDownstream d data
    late).port.incoming = s.port.incoming ∧ (s.completeDownstream d data late).port.response = s.port.response ∧
    (s.completeDownstream d data late).port.resetPending = s.port.resetPending ∧ (s.completeDownstream d data
    late).port.mask = s.port.mask ∧ (s.completeDownstream d data late).port.resetCause = s.port.resetCause ∧
    (s.completeDownstream d data late).port.powerSeen = s.port.powerSeen ∧ (s.completeDownstream d data
    late).port.selectHigh = s.port.selectHigh := by
  unfold State.completeDownstream
  split
  · simp
  · split <;> simp

@[simp] theorem State.arm_frame (s : State) (c : PassContext) :
    (s.arm c).directory = s.directory ∧ (s.arm c).camera = s.camera ∧ (s.arm c).recording = s.recording ∧ (s.arm
    c).lineQueue = s.lineQueue ∧ (s.arm c).interpolator = s.interpolator ∧ (s.arm c).memory = s.memory ∧ (s.arm
    c).axes = s.axes ∧ (s.arm c).writeInProcessing = s.writeInProcessing ∧ (s.arm c).witness = s.witness ∧ (s.arm
    c).resetControl = s.resetControl ∧ (s.arm c).lastUpstream = s.lastUpstream ∧ (s.arm c).openOrders = s.openOrders
    ∧ (s.arm c).due = s.due ∧ (s.arm c).pending = s.pending ∧ (s.arm c).timebase.active = s.timebase.active ∧ (s.arm
    c).timebase.pending = s.timebase.pending ∧ (s.arm c).timebase.lock = s.timebase.lock ∧ (s.arm c).timebase.run =
    s.timebase.run ∧ (s.arm c).timebase.lockPending = s.timebase.lockPending ∧ (s.arm c).timebase.history =
    s.timebase.history ∧ (s.arm c).timebase.holdoverCount = s.timebase.holdoverCount ∧ (s.arm c).timebase.interval =
    s.timebase.interval ∧ (s.arm c).timebase.flywheel = s.timebase.flywheel ∧ (s.arm c).timebase.watching =
    s.timebase.watching ∧ (s.arm c).timebase.pulseNear = s.timebase.pulseNear ∧ (s.arm c).timebase.pulseBefore =
    s.timebase.pulseBefore ∧ (s.arm c).timebase.record = s.timebase.record ∧ (s.arm c).timebase.refTime =
    s.timebase.refTime ∧ (s.arm c).port.phase = s.port.phase ∧ (s.arm c).port.code = s.port.code ∧ (s.arm
    c).port.length = s.port.length ∧ (s.arm c).port.args = s.port.args ∧ (s.arm c).port.incoming = s.port.incoming ∧
    (s.arm c).port.response = s.port.response ∧ (s.arm c).port.resetPending = s.port.resetPending ∧ (s.arm
    c).port.mask = s.port.mask ∧ (s.arm c).port.resetCause = s.port.resetCause ∧ (s.arm c).port.powerSeen =
    s.port.powerSeen ∧ (s.arm c).port.selectHigh = s.port.selectHigh := by
  simp [State.arm]

@[simp] theorem State.openRecording_frame (s : State) :
    (s.openRecording).timebase = s.timebase ∧ (s.openRecording).directory = s.directory ∧ (s.openRecording).pass =
    s.pass ∧ (s.openRecording).camera = s.camera ∧ (s.openRecording).lineQueue = s.lineQueue ∧
    (s.openRecording).interpolator = s.interpolator ∧ (s.openRecording).memory = s.memory ∧
    (s.openRecording).writeInProcessing = s.writeInProcessing ∧ (s.openRecording).witness = s.witness ∧
    (s.openRecording).port = s.port ∧ (s.openRecording).resetControl = s.resetControl ∧
    (s.openRecording).lastUpstream = s.lastUpstream ∧ (s.openRecording).openOrders = s.openOrders ∧
    (s.openRecording).due = s.due ∧ (s.openRecording).pending = s.pending := by
  simp [State.openRecording]

@[simp] theorem State.startQueue_frame (s : State) (g : Geometry) (s0 : Nat) :
    (s.startQueue g s0).timebase = s.timebase ∧ (s.startQueue g s0).directory = s.directory ∧ (s.startQueue g
    s0).pass = s.pass ∧ (s.startQueue g s0).camera = s.camera ∧ (s.startQueue g s0).recording = s.recording ∧
    (s.startQueue g s0).interpolator = s.interpolator ∧ (s.startQueue g s0).axes = s.axes ∧ (s.startQueue g
    s0).writeInProcessing = s.writeInProcessing ∧ (s.startQueue g s0).witness = s.witness ∧ (s.startQueue g s0).port
    = s.port ∧ (s.startQueue g s0).resetControl = s.resetControl ∧ (s.startQueue g s0).lastUpstream = s.lastUpstream
    ∧ (s.startQueue g s0).openOrders = s.openOrders ∧ (s.startQueue g s0).due = s.due ∧ (s.startQueue g s0).pending
    = s.pending ∧ (s.startQueue g s0).memory.upstream = s.memory.upstream ∧ (s.startQueue g s0).memory.urgentRun =
    s.memory.urgentRun ∧ (s.startQueue g s0).memory.blockedAddress = s.memory.blockedAddress ∧ (s.startQueue g
    s0).memory.protectBlocks = s.memory.protectBlocks ∧ (s.startQueue g s0).memory.partialBlocks =
    s.memory.partialBlocks := by
  simp [State.startQueue]

@[simp] theorem State.passResetRest_frame (s : State) :
    (s.passResetRest).directory = s.directory ∧ (s.passResetRest).camera = s.camera ∧ (s.passResetRest).recording =
    s.recording ∧ (s.passResetRest).lineQueue = s.lineQueue ∧ (s.passResetRest).interpolator = s.interpolator ∧
    (s.passResetRest).writeInProcessing = s.writeInProcessing ∧ (s.passResetRest).resetControl = s.resetControl ∧
    (s.passResetRest).lastUpstream = s.lastUpstream ∧ (s.passResetRest).openOrders = s.openOrders ∧
    (s.passResetRest).due = s.due ∧ (s.passResetRest).pending = s.pending ∧ (s.passResetRest).timebase.active =
    s.timebase.active ∧ (s.passResetRest).timebase.pending = s.timebase.pending ∧ (s.passResetRest).timebase.lock =
    s.timebase.lock ∧ (s.passResetRest).timebase.run = s.timebase.run ∧ (s.passResetRest).timebase.lockPending =
    s.timebase.lockPending ∧ (s.passResetRest).timebase.history = s.timebase.history ∧
    (s.passResetRest).timebase.holdoverCount = s.timebase.holdoverCount ∧ (s.passResetRest).timebase.interval =
    s.timebase.interval ∧ (s.passResetRest).timebase.flywheel = s.timebase.flywheel ∧
    (s.passResetRest).timebase.watching = s.timebase.watching ∧ (s.passResetRest).timebase.pulseNear =
    s.timebase.pulseNear ∧ (s.passResetRest).timebase.pulseBefore = s.timebase.pulseBefore ∧
    (s.passResetRest).timebase.record = s.timebase.record ∧ (s.passResetRest).timebase.refTime = s.timebase.refTime
    ∧ (s.passResetRest).timebase.position = s.timebase.position ∧ (s.passResetRest).timebase.nextPoint =
    s.timebase.nextPoint ∧ (s.passResetRest).pass.state = s.pass.state ∧ (s.passResetRest).pass.pending =
    s.pass.pending ∧ (s.passResetRest).pass.preroll = s.pass.preroll ∧ (s.passResetRest).memory.upstream =
    s.memory.upstream ∧ (s.passResetRest).memory.downstream = s.memory.downstream ∧
    (s.passResetRest).memory.urgentRun = s.memory.urgentRun ∧ (s.passResetRest).memory.protectBlocks =
    s.memory.protectBlocks ∧ (s.passResetRest).memory.partialBlocks = s.memory.partialBlocks ∧
    (s.passResetRest).port.phase = s.port.phase ∧ (s.passResetRest).port.code = s.port.code ∧
    (s.passResetRest).port.length = s.port.length ∧ (s.passResetRest).port.args = s.port.args ∧
    (s.passResetRest).port.incoming = s.port.incoming ∧ (s.passResetRest).port.response = s.port.response ∧
    (s.passResetRest).port.resetPending = s.port.resetPending ∧ (s.passResetRest).port.mask = s.port.mask ∧
    (s.passResetRest).port.resetCause = s.port.resetCause ∧ (s.passResetRest).port.powerSeen = s.port.powerSeen ∧
    (s.passResetRest).port.selectHigh = s.port.selectHigh := by
  simp [State.passResetRest]

@[simp] theorem State.clearEvents_frame (s : State) (named : BitVec 16) :
    (s.clearEvents named).timebase = s.timebase ∧ (s.clearEvents named).directory = s.directory ∧ (s.clearEvents
    named).pass = s.pass ∧ (s.clearEvents named).camera = s.camera ∧ (s.clearEvents named).recording = s.recording ∧
    (s.clearEvents named).lineQueue = s.lineQueue ∧ (s.clearEvents named).interpolator = s.interpolator ∧
    (s.clearEvents named).axes = s.axes ∧ (s.clearEvents named).writeInProcessing = s.writeInProcessing ∧
    (s.clearEvents named).witness = s.witness ∧ (s.clearEvents named).resetControl = s.resetControl ∧ (s.clearEvents
    named).lastUpstream = s.lastUpstream ∧ (s.clearEvents named).openOrders = s.openOrders ∧ (s.clearEvents
    named).due = s.due ∧ (s.clearEvents named).pending = s.pending ∧ (s.clearEvents named).memory.upstream =
    s.memory.upstream ∧ (s.clearEvents named).memory.downstream = s.memory.downstream ∧ (s.clearEvents
    named).memory.urgentRun = s.memory.urgentRun ∧ (s.clearEvents named).memory.protectBlocks =
    s.memory.protectBlocks ∧ (s.clearEvents named).memory.partialBlocks = s.memory.partialBlocks ∧ (s.clearEvents
    named).port.phase = s.port.phase ∧ (s.clearEvents named).port.code = s.port.code ∧ (s.clearEvents
    named).port.length = s.port.length ∧ (s.clearEvents named).port.args = s.port.args ∧ (s.clearEvents
    named).port.incoming = s.port.incoming ∧ (s.clearEvents named).port.response = s.port.response ∧ (s.clearEvents
    named).port.resetPending = s.port.resetPending ∧ (s.clearEvents named).port.mask = s.port.mask ∧ (s.clearEvents
    named).port.resetCause = s.port.resetCause ∧ (s.clearEvents named).port.selectHigh = s.port.selectHigh := by
  simp [State.clearEvents]

end Sys2Proof.Machine
end

