-- ==== Sys2Proof/Laws/Ops.lean ====
section
/-! SUPPORT. What the shared operations do: one lemma per operation that says all of it, cited in place of unfolding. -/

namespace Sys2Proof.Machine

/-! ### Numbers -/

theorem stopAt_le (limit v : Nat) : stopAt limit v ≤ limit := Nat.min_le_right v limit

theorem clampInt_eq_max_min (lo hi v : Int) (h : lo ≤ hi) : clampInt lo hi v = max lo (min hi v) := by
  unfold clampInt
  split
  · omega
  · split <;> omega

theorem clampInt_bounds (lo hi v : Int) (h : lo ≤ hi) : lo ≤ clampInt lo hi v ∧ clampInt lo hi v ≤ hi := by
  rw [clampInt_eq_max_min lo hi v h]
  omega

theorem clampInt_of_mem (lo hi v : Int) (h1 : lo ≤ v) (h2 : v ≤ hi) : clampInt lo hi v = v := by
  unfold clampInt
  rw [if_neg (by omega), if_neg (by omega)]

theorem clampNat_bounds (lo hi v : Nat) (h : lo ≤ hi) : lo ≤ clampNat lo hi v ∧ clampNat lo hi v ≤ hi := by
  unfold clampNat
  omega

/-! ### Fields of a frame (R202) -/

theorem field2_bytes2 (v : BitVec 16) : field2 (v.extractLsb' 8 8) (v.extractLsb' 0 8) = v := by
  unfold field2
  apply BitVec.eq_of_getLsbD_eq
  intro i hi
  simp only [BitVec.getLsbD_append, BitVec.getLsbD_extractLsb']
  split
  · simp only [*, decide_true, Bool.true_and, Nat.zero_add]
  · rw [decide_eq_true (by omega), Bool.true_and]
    congr 1
    omega

theorem field3_bytes3 (v : BitVec 24) :
    field3 (v.extractLsb' 16 8) (v.extractLsb' 8 8) (v.extractLsb' 0 8) = v := by
  unfold field3
  apply BitVec.eq_of_getLsbD_eq
  intro i hi
  simp only [BitVec.getLsbD_append, BitVec.getLsbD_extractLsb']
  split
  · split
    · simp only [*, decide_true, Bool.true_and, Nat.zero_add]
    · rw [decide_eq_true (by omega), Bool.true_and]
      congr 1
      omega
  · rw [decide_eq_true (by omega), Bool.true_and]
    congr 1
    omega

theorem field4_bytes4 (v : BitVec 32) :
    field4 (v.extractLsb' 24 8) (v.extractLsb' 16 8) (v.extractLsb' 8 8) (v.extractLsb' 0 8) = v := by
  unfold field4
  apply BitVec.eq_of_getLsbD_eq
  intro i hi
  simp only [BitVec.getLsbD_append, BitVec.getLsbD_extractLsb']
  split
  · split
    · split
      · simp only [*, decide_true, Bool.true_and, Nat.zero_add]
      · rw [decide_eq_true (by omega), Bool.true_and]
        congr 1
        omega
    · rw [decide_eq_true (by omega), Bool.true_and]
      congr 1
      omega
  · rw [decide_eq_true (by omega), Bool.true_and]
    congr 1
    omega

/-- A numeric field of n bytes has n bytes. -/
@[simp] theorem beBytes_length (n v : Nat) : (beBytes n v).length = n := by
  induction n generalizing v with
  | zero => rfl
  | succ n ih => simp [beBytes, ih]

@[simp] theorem signedBytes_length (n : Nat) (v : Int) : (signedBytes n v).length = n := beBytes_length n _

/-- An optional field has its presence byte and n bytes, present or not (R202). -/
theorem optBytes_length {α : Type} (n : Nat) (f : α → List Byte) (o : Option α) (hf : ∀ x, (f x).length = n) :
    (optBytes n f o).length = n + 1 := by
  cases o <;> simp [optBytes, hf]

/-! ### Flags (R193) -/

theorem Event.bit_lt (ev : Event) : ev.bit < 16 := by cases ev <;> decide

theorem Event.bit_injective (a b : Event) : a.bit = b.bit ↔ a = b := by cases a <;> cases b <;> decide

theorem Event.getLsbD_mask (a b : Event) : a.mask.getLsbD b.bit = decide (b = a) := by cases a <;> cases b <;> decide

/-- Raising sets its own flag and leaves every other. -/
@[simp] theorem State.flag_raise (s : State) (a b : Event) : (s.raise a).flag b = (s.flag b || decide (b = a)) := by
  simp [State.flag, Event.getLsbD_mask]

/-- Clearing clears its own flag and leaves every other. -/
@[simp] theorem State.flag_lower (s : State) (a b : Event) : (s.lower a).flag b = (s.flag b && !decide (b = a)) := by
  simp only [State.flag, State.lower_port_flags, BitVec.getLsbD_and, BitVec.getLsbD_not, Event.getLsbD_mask, Event.bit_lt,
    decide_true, Bool.true_and]

/-- After followLog DEVLOG says whether the log holds a record; every other flag is as it was (R180). -/
theorem State.flag_followLog (s : State) (b : Event) :
    s.followLog.flag b = if b = .devlog then !s.witness.log.isEmpty else s.flag b := by
  unfold State.followLog
  by_cases h : b = .devlog
  · subst h
    split <;> simp_all
  · split <;> simp [h]

/-! ### The pass (R50) -/

/-- The pass takes the state given. -/
@[simp] theorem State.setPass_state (s : State) (p : PassState) : (s.setPass p).pass.state = p := by
  unfold State.setPass
  split <;> simp_all

/-- PASS is raised exactly by a change of state, and no other flag changes. -/
theorem State.flag_setPass (s : State) (p : PassState) (b : Event) :
    (s.setPass p).flag b = (s.flag b || (decide (b = .pass) && decide (s.pass.state ≠ p))) := by
  unfold State.setPass
  split <;> simp_all [State.flag, Event.getLsbD_mask]

/-! ### What blocks have sent each other (R13, R144, R176) -/

/-- With no boundary on its way nothing is taken. -/
theorem State.takeBoundaries_of_none (s : State) (h : s.due.any Delivery.isBoundary = false) : s.takeBoundaries = s := by
  simp [State.takeBoundaries, h]

/-- A boundary that waits alone is taken, and a free slot is decided. -/
theorem State.takeBoundaries_one (s : State) (d : Delivery) (h : s.due = [d]) (hd : d.isBoundary = true) :
    s.takeBoundaries = (({ s with due := [] } : State).deliver d).settle := by
  simp [State.takeBoundaries, h, hd]

/-- A block that takes a boundary sends on at most a drain report. -/
theorem State.deliver_due (s : State) (d : Delivery) (hd : d.isBoundary = true) :
    (s.deliver d).due = s.due ∨ (s.deliver d).due = s.due ++ [.drain] := by
  cases d with
  | witness closes start => simp [State.deliver]
  | controller b old new declarationFirst reportsLate =>
    simp only [State.deliver, State.drainReport]
    split
    · split <;> simp
    · simp
  | divergence => simp [Delivery.isBoundary] at hd
  | drain => simp [Delivery.isBoundary] at hd
  | slot => simp [Delivery.isBoundary] at hd

theorem State.deliverAll_due (ds : List Delivery) (s : State) (hd : ∀ d ∈ ds, d.isBoundary = true)
    (h : s.due.any Delivery.isBoundary = false) : (ds.foldl State.deliver s).due.any Delivery.isBoundary = false := by
  induction ds generalizing s with
  | nil => exact h
  | cons d ds ih =>
    refine ih _ (fun e he => hd e (List.mem_cons_of_mem _ he)) ?_
    rcases s.deliver_due d (hd d List.mem_cons_self) with h' | h' <;> rw [h']
    · exact h
    · rw [List.any_append, h]
      rfl

/-- No boundary waits once they have been taken. -/
@[simp] theorem State.takeBoundaries_due (s : State) : s.takeBoundaries.due.any Delivery.isBoundary = false := by
  unfold State.takeBoundaries
  split
  · rw [show ∀ t : State, t.settle.due = t.due from fun t => by simp]
    refine State.deliverAll_due _ _ (fun d hd => (List.mem_filter.mp hd).2) ?_
    simp [List.any_eq_false]
  · rename_i h
    exact Bool.eq_false_iff.mpr h

/-- The boundaries of an instant are taken once. -/
@[simp] theorem State.takeBoundaries_takeBoundaries (s : State) : s.takeBoundaries.takeBoundaries = s.takeBoundaries :=
  s.takeBoundaries.takeBoundaries_of_none (by simp)

/-- The arbiter's decision that is not late. -/
@[simp] theorem State.settleAt_false (s : State) : s.settleAt false = s.settle := by simp [State.settleAt]

/-- With the port busy, or a reset in force, no decision waits. -/
theorem State.settleAt_of_busy (s : State) (late : Bool)
    (h : s.resetControl.inForce = true ∨ s.memory.downstream.isSome = true) : s.settleAt late = s.settle := by
  unfold State.settleAt
  rcases h with h | h
  · simp [h]
  · rw [Option.isNone_eq_false_iff.mpr h]
    simp

/-- With the port free a late decision waits behind what is already due. -/
theorem State.settleAt_late (s : State) (h1 : s.resetControl.inForce = false) (h2 : s.memory.downstream = none) :
    s.settleAt true = s.startFetch.deliverLater .slot := by
  simp [State.settleAt, h1, h2]

/-! ### Management commands (R189, R190) -/

/-- While its request is being received a command is taken: the boundaries of the instant first, then its body, then its
response is formed. -/
theorem State.takeCommand_agrees (s : State) (fr : Frame) (body : State → Answer) (h : s.port.agrees fr = true) :
    s.takeCommand fr body =
      (body (s.takeBoundaries.receive fr)).state.respond (body (s.takeBoundaries.receive fr)).status
        (body (s.takeBoundaries.receive fr)).result := by
  simp [State.takeCommand, h]

/-- In phase CODE nothing has been received, and every frame is taken. -/
theorem State.takeCommand_code (s : State) (fr : Frame) (body : State → Answer) (h : s.takesCommand) :
    s.takeCommand fr body =
      (body (s.receive fr)).state.respond (body (s.receive fr)).status (body (s.receive fr)).result := by
  rw [s.takeCommand_agrees fr body (by simp [Port.agrees, h.1]), s.takeBoundaries_of_none h.2]

/-- In phase RESPONSE its bytes shift the response out. -/
theorem State.takeCommand_response (s : State) (fr : Frame) (body : State → Answer) (h : s.port.phase = .response) :
    s.takeCommand fr body = s.shiftOut (2 + fr.args.length) := by
  simp [State.takeCommand, Port.agrees, h]

/-- A frame that is not the one being received does nothing, nor does any in phases IDLE and IGNORED. -/
theorem State.takeCommand_other (s : State) (fr : Frame) (body : State → Answer) (h : s.port.agrees fr = false)
    (hr : s.port.phase ≠ .response) : s.takeCommand fr body = s := by
  simp [State.takeCommand, h, hr]

/-- A refusing body leaves the answered state of a command that changes nothing. -/
theorem State.respond_receive (s : State) (fr : Frame) (st : Status) (result : List Byte) :
    (s.receive fr).respond st result = s.answered fr st result := rfl

/-- What one byte of a request before its last does: it fits the phase it finds, and keeps the shape of the request. -/
theorem Port.clockByte_receiving (p : Port) (b : Byte) (h : p.receiving) : (p.clockByte b).receiving := by
  obtain ⟨hc, hl, ha⟩ := h
  unfold Port.clockByte
  split
  · rename_i hp
    simp [Port.receiving, hc hp]
  · rename_i hp
    split
    · exact ⟨hc, hl, ha⟩
    · rename_i hb
      have : b.toNat ≠ 0 := fun h0 => hb (BitVec.eq_of_toNat_eq h0)
      simp [Port.receiving, hl hp]
      omega
  · rename_i hp
    split
    · rename_i hlt
      simp [Port.receiving, hp, (ha hp).1, hlt]
    · exact ⟨hc, hl, ha⟩
  · exact ⟨hc, hl, ha⟩

/-! ### Directory entries and axes -/

theorem State.entry_setEntry_ne (s : State) (t n : Nat) (e : Option TakeEntry) (h : n ≠ t) :
    (s.setEntry t e).entry n = s.entry n := by
  simp only [State.entry, Directory.entry, State.setEntry, Directory.setEntry]
  split
  · rfl
  · split
    · rfl
    · rw [List.getElem?_set_ne (by omega)]

theorem State.entry_setEntry_self (s : State) (t : Nat) (e : Option TakeEntry) (h1 : 1 ≤ t)
    (h2 : t ≤ s.directory.entries.length) : (s.setEntry t e).entry t = e := by
  simp only [State.entry, Directory.entry, State.setEntry, Directory.setEntry]
  rw [if_neg (by omega), if_neg (by omega), List.getElem?_set_self (by omega)]
  rfl

/-- An entry that is not FREE has a number in the directory's range. -/
theorem State.entry_range (s : State) (t : Nat) (e : TakeEntry) (h : s.entry t = some e) :
    1 ≤ t ∧ t ≤ s.directory.entries.length := by
  simp only [State.entry, Directory.entry] at h
  split at h
  · cases h
  · refine ⟨by omega, ?_⟩
    by_contra hn
    rw [List.getElem?_eq_none (by omega)] at h
    cases h

@[simp] theorem State.setEntry_entries_length (s : State) (t : Nat) (e : Option TakeEntry) :
    (s.directory.setEntry t e).entries.length = s.directory.entries.length := by
  unfold Directory.setEntry
  split <;> simp

theorem State.axis_onAxis_ne (s : State) (a n : Nat) (f : Axis → Axis) (h : n ≠ a) : (s.onAxis a f).axis n = s.axis n := by
  simp [State.axis, List.getD, Ne.symm h]

theorem State.axis_onAxis_self (s : State) (a : Nat) (f : Axis → Axis) (h : a < s.axes.length) :
    (s.onAxis a f).axis a = f (s.axis a) := by
  simp [State.axis, List.getD, List.getElem?_eq_getElem h]

theorem State.witnessAxis_onWitnessAxis_ne (s : State) (a n : Nat) (f : WitnessAxis → WitnessAxis) (h : n ≠ a) :
    (s.onWitnessAxis a f).witnessAxis n = s.witnessAxis n := by
  simp [State.witnessAxis, List.getD, Ne.symm h]

theorem State.witnessAxis_onWitnessAxis_self (s : State) (a : Nat) (f : WitnessAxis → WitnessAxis)
    (h : a < s.witness.axes.length) : (s.onWitnessAxis a f).witnessAxis a = f (s.witnessAxis a) := by
  simp [State.witnessAxis, List.getD, List.getElem?_eq_getElem h]

/-- The axis found by an address exists. -/
theorem State.targetAxis_lt (s : State) (addr a : Nat) (h : s.targetAxis addr = some a) : a < s.axes.length := by
  obtain ⟨hl, -⟩ := List.findIdx?_eq_some_iff_getElem.mp h
  exact hl

/-! ### Histories (R7, R181) -/

theorem addToHistory_length_le (depth : Nat) (history : List Mark) (m : Mark) :
    (addToHistory depth history m).length ≤ depth := by
  simp only [addToHistory, List.length_drop, List.length_append, List.length_singleton]
  omega

/-- The ring after a slot is filed holds at most the capacity of its rule (R77). -/
theorem Camera.fileSlot_ring_length_le (c : Camera) : c.fileSlot.ring.length ≤ c.rule.capacity := by
  simp only [Camera.fileSlot, List.length_drop, List.length_append, List.length_singleton]
  omega

/-- What a comparison leaves of an axis keeps its bounds. -/
theorem WitnessAxis.take_bounded (w : WitnessAxis) (tol e : Int) (h : w.bounded) : (w.take tol e).bounded := by
  obtain ⟨-, -, h3⟩ := h
  refine ⟨addToHistory_length_le _ _ _, stopAt_le _ _, ?_⟩
  simp only [WitnessAxis.take]
  split
  · exact stopAt_le _ _
  · exact h3

/-! ### Time -/

@[simp] theorem State.elapse_zero (s : State) : s.elapse 0 = s := by simp [State.elapse]

/-- With nothing of the part's own due before the n-th count, n counts pass at once. -/
theorem State.elapse_of_quiet (s : State) (n : Nat) (h : ∀ d ev, s.nextOwn = some (d, ev) → n ≤ d) (hn : n ≠ 0) :
    s.elapse n = s.count n := by
  simp only [State.elapse, if_neg hn, State.elapseFuel]
  split
  · rename_i d ev hd
    rw [if_neg (by have := h d ev hd; omega)]
  · rfl

/-- A non-runt pulse is counted as R1 and R19 say. -/
theorem State.countPulse_eq (s : State) :
    s.countPulse = { s with timebase := { s.timebase with passPulses := s.pulsesAfter } } := by
  unfold State.countPulse State.pulsesAfter State.runningOrParked
  by_cases h : s.pass.state = .running ∨ s.pass.state = .parked
  · rw [if_pos (by simpa using h), if_pos h]
    rfl
  · rw [if_neg (by simpa using h), if_neg h]

/-! ### Making a boundary (R13) -/

/-- Nothing after the boundary record changes it, or the lock state with its marks. -/
theorem State.makeBoundary_timebase (s : State) (kind : BoundaryKind) (order : BoundaryOrder) (cause : State → State) :
    let t := (s.makeBoundary kind order cause).timebase
    let u := (s.openFrame kind cause).timebase
    t.record = u.record ∧ t.flywheel = u.flywheel ∧ t.lock = u.lock ∧ t.run = u.run ∧ t.history = u.history
      ∧ t.lockPending = u.lockPending ∧ t.holdoverCount = u.holdoverCount ∧ t.active = u.active ∧ t.pending = u.pending
      ∧ t.interval = u.interval ∧ t.passPulses = u.passPulses ∧ t.refTime = u.refTime ∧ t.watching = u.watching
      ∧ t.pulseNear = u.pulseNear ∧ t.pulseBefore = u.pulseBefore := by
  unfold State.makeBoundary
  dsimp only
  (repeat' split) <;> simp

/-- With no settings pending, the boundary's own work is its cause and its record. -/
theorem State.openFrame_of_none (s : State) (kind : BoundaryKind) (cause : State → State) (h : s.timebase.pending = none) :
    s.openFrame kind cause = (cause s).writeRecord kind := by
  simp [State.openFrame, h]

/-- Pending settings take the place of the cause's own work on the lock state (R23). -/
theorem State.openFrame_of_some (s : State) (kind : BoundaryKind) (cause : State → State) (p : TimebaseSettings)
    (h : s.timebase.pending = some p) : s.openFrame kind cause = (s.applySettings p).writeRecord kind := by
  simp [State.openFrame, h]

/-! ### The arbiter (R144, R145) -/

/-- The arbiter with no request does nothing. -/
theorem State.arbitrate_of_none (s : State) (h1 : s.waitingUpstream = none) (h2 : s.takeRequest = none) :
    s.arbitrate = s := by
  unfold State.arbitrate
  split
  · rfl
  · simp [h1, h2]

/-- The arbiter with the port busy does nothing. -/
theorem State.arbitrate_of_busy (s : State) (h : s.memory.downstream.isSome = true) : s.arbitrate = s := by
  simp [State.arbitrate, h]

/-- Pass-through alone. -/
theorem State.arbitrate_passThrough (s : State) (t : UpstreamTxn) (h : s.memory.downstream = none)
    (h1 : s.waitingUpstream = some t) (h2 : s.takeRequest = none) :
    s.arbitrate = (s.setUrgentRun 0).grantPassThrough t := by
  simp [State.arbitrate, h, h1, h2]

/-- Without a pass that reads a take no fetch starts. -/
theorem State.startFetch_of_inactive (s : State) (h : s.queueActive = false) : s.startFetch = s := by
  unfold State.startFetch
  split
  · simp [h]
  · rfl

/-- With a line in assembly no fetch starts. -/
theorem State.startFetch_of_assembly (s : State) (h : s.lineQueue.assembly ≠ none) : s.startFetch = s := by
  unfold State.startFetch
  split
  · exact absurd ‹_› h
  · rfl

/-- The fetcher leaves the state as it is or puts a line in assembly (R101). -/
theorem State.startFetch_cases (s : State) : s.startFetch = s ∨ s.startFetch.lineQueue.assembly ≠ none := by
  unfold State.startFetch
  split
  · split
    · exact .inr (by simp)
    · exact .inl rfl
  · exact .inl rfl

/-- One line is started at a time. -/
@[simp] theorem State.startFetch_startFetch (s : State) : s.startFetch.startFetch = s.startFetch := by
  rcases s.startFetch_cases with h | h
  · rw [h, h]
  · exact s.startFetch.startFetch_of_assembly h

/-! ### The three bounds (R161) -/

/-- The forwarded value lies within the soft limits. -/
theorem applyBounds_value_bounds (p : Processing) (last : Option Int) (c : Int) (h : p.min ≤ p.max) :
    p.min ≤ (applyBounds p last c).value ∧ (applyBounds p last c).value ≤ p.max :=
  clampInt_bounds p.min p.max _ h

end Sys2Proof.Machine
end

