-- ==== Sys2Proof/Laws/PerInstr.lean ====
section
/-! SUPPORT. A law of every command as a term: its request frame passes the checks of code and argument count exactly when it
is a command of the list (R191). -/

namespace Sys2Proof.Laws.FramePasses

open Sys2Proof.Machine

/-- Of a well-formed command, the frame passes the checks of R191 unless the command is the row of frames that fail them; a
pin or bus event has no frame. -/
def Statement (c : Instr) : Prop :=
  c.wellFormed = true → ∀ fr, frameOf c = some fr → (fr.passes = true ↔ c ≠ .unknownOrLength fr.code fr.args)

theorem syncPulse (after : Nat) (order : BoundaryOrder) : Statement (.syncPulse after order) := by
  intro _ fr h
  cases h

theorem flywheelBoundary (order : BoundaryOrder) : Statement (.flywheelBoundary order) := by
  intro _ fr h
  cases h

theorem substitutedBoundary (order : BoundaryOrder) : Statement (.substitutedBoundary order) := by
  intro _ fr h
  cases h

theorem holdoverRunReset : Statement (.holdoverRunReset) := by
  intro _ fr h
  cases h

theorem samplePoint : Statement (.samplePoint) := by
  intro _ fr h
  cases h

theorem statusCharacter (after : Nat) (data : Byte) (parity stop : Bool) :
    Statement (.statusCharacter after data parity stop) := by
  intro _ fr h
  cases h

theorem upstreamTransactionTaken (presented : Presentation) (write : Bool) (address : BitVec 22) (lanes : BitVec 4) (data : Word) :
    Statement (.upstreamTransactionTaken presented write address lanes data) := by
  intro _ fr h
  cases h

theorem interpolationEnd (completion : Completion) : Statement (.interpolationEnd completion) := by
  intro _ fr h
  cases h

theorem downstreamComplete (completion : Completion) (data : Word) : Statement (.downstreamComplete completion data) := by
  intro _ fr h
  cases h

theorem selectFall (opening : FrameOpening) : Statement (.selectFall opening) := by
  intro _ fr h
  cases h

theorem selectRise (after : Nat) (clocked : Nat) : Statement (.selectRise after clocked) := by
  intro _ fr h
  cases h

theorem powerOn (up : PowerUp) : Statement (.powerOn up) := by
  intro _ fr h
  cases h

theorem resetPin (after : Nat) : Statement (.resetPin after) := by
  intro _ fr h
  cases h

theorem resetEnd : Statement (.resetEnd) := by
  intro _ fr h
  cases h

theorem readStatus : Statement (.readStatus) := by
  intro _ fr h
  cases h
  simp [Frame.passes, argCount]

theorem readEvents : Statement (.readEvents) := by
  intro _ fr h
  cases h
  simp [Frame.passes, argCount]

theorem clearEvents (named : BitVec 16) : Statement (.clearEvents named) := by
  intro _ fr h
  cases h
  simp [Frame.passes, argCount, bytes2]

theorem setEnable (mask : BitVec 16) : Statement (.setEnable mask) := by
  intro _ fr h
  cases h
  simp [Frame.passes, argCount, bytes2]

theorem resetPart : Statement (.resetPart) := by
  intro _ fr h
  cases h
  simp [Frame.passes, argCount]

theorem setTimebase (nNom : BitVec 32) (window holdoverLimit : Byte) :
    Statement (.setTimebase nNom window holdoverLimit) := by
  intro _ fr h
  cases h
  simp [Frame.passes, argCount, bytes4]

theorem readTimebase : Statement (.readTimebase) := by
  intro _ fr h
  cases h
  simp [Frame.passes, argCount]

theorem setRegion (base : Byte) (size : BitVec 16) : Statement (.setRegion base size) := by
  intro _ fr h
  cases h
  simp [Frame.passes, argCount, bytes2]

theorem readRegion : Statement (.readRegion) := by
  intro _ fr h
  cases h
  simp [Frame.passes, argCount]

theorem declare (take : Byte) (base lines : BitVec 24) (k : Byte) (tracks : AxisSet) :
    Statement (.declare take base lines k tracks) := by
  intro _ fr h
  cases h
  simp [Frame.passes, argCount, bytes2, bytes3]

theorem delete (take : Byte) : Statement (.delete take) := by
  intro _ fr h
  cases h
  simp [Frame.passes, argCount]

theorem protect (take : Byte) : Statement (.protect take) := by
  intro _ fr h
  cases h
  simp [Frame.passes, argCount]

theorem unprotect (take : Byte) : Statement (.unprotect take) := by
  intro _ fr h
  cases h
  simp [Frame.passes, argCount]

theorem aliasTake (take parent : Byte) (offset length : BitVec 24) : Statement (.aliasTake take parent offset length) := by
  intro _ fr h
  cases h
  simp [Frame.passes, argCount, bytes3]

theorem readTake (take : Byte) : Statement (.readTake take) := by
  intro _ fr h
  cases h
  simp [Frame.passes, argCount]

theorem recordArm (take : Byte) (base maxLines : BitVec 24) (k : Byte) (tracks : AxisSet) (trigger requireLock preroll : Byte) (pace length : BitVec 16) :
    Statement (.recordArm take base maxLines k tracks trigger requireLock preroll pace length) := by
  intro _ fr h
  cases h
  simp [Frame.passes, argCount, bytes2, bytes3]

theorem replayArm (take : Byte) (startFrame pace : BitVec 16) (interp trigger requireLock preroll resumePreroll policy : Byte) :
    Statement (.replayArm take startFrame pace interp trigger requireLock preroll resumePreroll policy) := by
  intro _ fr h
  cases h
  simp [Frame.passes, argCount, bytes2]

theorem witnessArm (take : Byte) (startFrame pace : BitVec 16) (interp trigger requireLock preroll resumePreroll policy : Byte) :
    Statement (.witnessArm take startFrame pace interp trigger requireLock preroll resumePreroll policy) := by
  intro _ fr h
  cases h
  simp [Frame.passes, argCount, bytes2]

theorem stop : Statement (.stop) := by
  intro _ fr h
  cases h
  simp [Frame.passes, argCount]

theorem park : Statement (.park) := by
  intro _ fr h
  cases h
  simp [Frame.passes, argCount]

theorem resume : Statement (.resume) := by
  intro _ fr h
  cases h
  simp [Frame.passes, argCount]

theorem abort : Statement (.abort) := by
  intro _ fr h
  cases h
  simp [Frame.passes, argCount]

theorem clear : Statement (.clear) := by
  intro _ fr h
  cases h
  simp [Frame.passes, argCount]

theorem passReset : Statement (.passReset) := by
  intro _ fr h
  cases h
  simp [Frame.passes, argCount]

theorem readPass : Statement (.readPass) := by
  intro _ fr h
  cases h
  simp [Frame.passes, argCount]

theorem setCamera (rule : Byte) : Statement (.setCamera rule) := by
  intro _ fr h
  cases h
  simp [Frame.passes, argCount]

theorem readCamera : Statement (.readCamera) := by
  intro _ fr h
  cases h
  simp [Frame.passes, argCount]

theorem readRecord : Statement (.readRecord) := by
  intro _ fr h
  cases h
  simp [Frame.passes, argCount]

theorem readLineQueue : Statement (.readLineQueue) := by
  intro _ fr h
  cases h
  simp [Frame.passes, argCount]

theorem readQueuedLine (index : BitVec 24) : Statement (.readQueuedLine index) := by
  intro _ fr h
  cases h
  simp [Frame.passes, argCount, bytes3]

theorem readEvaluation : Statement (.readEvaluation) := by
  intro _ fr h
  cases h
  simp [Frame.passes, argCount]

theorem readPath : Statement (.readPath) := by
  intro _ fr h
  cases h
  simp [Frame.passes, argCount]

theorem setAxis (axis enabled : Byte) (target : BitVec 24) (feedbackPresent : Byte) (feedback min max step : BitVec 24) (tol : BitVec 16) (source : Byte) (scale : BitVec 16) (offset : BitVec 24) :
    Statement (.setAxis axis enabled target feedbackPresent feedback min max step tol source scale offset) := by
  intro _ fr h
  cases h
  simp [Frame.passes, argCount, bytes2, bytes3]

theorem getAxis (axis : Byte) : Statement (.getAxis axis) := by
  intro _ fr h
  cases h
  simp [Frame.passes, argCount]

theorem readAxis (axis : Byte) : Statement (.readAxis axis) := by
  intro _ fr h
  cases h
  simp [Frame.passes, argCount]

theorem clearAxisFlags (axes : AxisSet) : Statement (.clearAxisFlags axes) := by
  intro _ fr h
  cases h
  simp [Frame.passes, argCount, bytes2]

theorem inject (axis action : Byte) (offset : BitVec 32) : Statement (.inject axis action offset) := by
  intro _ fr h
  cases h
  simp [Frame.passes, argCount, bytes4]

theorem readDeviation : Statement (.readDeviation) := by
  intro _ fr h
  cases h
  simp [Frame.passes, argCount]

theorem readWitness (axis : Byte) : Statement (.readWitness axis) := by
  intro _ fr h
  cases h
  simp [Frame.passes, argCount]

theorem unknownOrLength (code : Byte) (args : List Byte) : Statement (.unknownOrLength code args) := by
  intro hw fr h
  cases h
  simpa using (Bool.and_eq_true_iff.1 hw).2

theorem statusStartEdge (after : Nat) (low : Bool) : Statement (.statusStartEdge after low) := by
  intro _ fr h
  cases h

theorem statusLineReturnHigh (after : Nat) : Statement (.statusLineReturnHigh after) := by
  intro _ fr h
  cases h

theorem resetPinRelease (after : Nat) : Statement (.resetPinRelease after) := by
  intro _ fr h
  cases h

end Sys2Proof.Laws.FramePasses
end

