-- ==== Sys2Proof/Tests/Slice0.lean ====
section
/-! SUPPORT. The model's own tests: the check of WellFormed, the worked examples of the spec, and for every statement that
has hypotheses a state and operands that meet them. -/

namespace Sys2Proof.Machine

/-! ### Small states -/

/-- The reset state inside a frame that has just begun. -/
def atCode (s : State) : State := { s with port := { s.port with phase := .code, selectHigh := false } }

def withTimebase (f : Timebase → Timebase) (s : State) : State := { s with timebase := f s.timebase }

def withMemory (f : MemoryPath → MemoryPath) (s : State) : State := { s with memory := f s.memory }

def withPass (f : Pass → Pass) (s : State) : State := { s with pass := f s.pass }

/-- A stored take of ten lines of axes 0 and 1 at 0x800000. -/
def readyTake : TakeEntry :=
  { state := .ready, kind := .storage 0x800000 false, lines := 10, k := 1, tracks := 3, truncated := false,
    recordInfo := none, passCount := 0, failLine := none, written := 0 }

/-- Region 0x800000 to 0x8FFFFF, with one entry. -/
def withTake (t : Nat) (e : TakeEntry) (s : State) : State :=
  ({ s with directory := { s.directory with regionBase := 128, regionSize := 16 } } : State).setEntry t (some e)

/-- Axes 0 and 1 are ENABLED with targets 0x100000 and 0x100004. -/
def withAxes (s : State) : State :=
  { s with axes := s.axes.mapIdx fun a ax =>
      if a < 2 then { ax with entry := { ax.entry with enabled := true, targetAddr := 0x100000 + 4 * a } } else ax }

def context (mode : PassMode) : PassContext :=
  { mode := mode, take := 1, startFrame := 0, pace := 4096, interp := some .linear, trigger := .immediate,
    requireLock := false, preroll := 0, resumePreroll := 0, policy := some .continue, length := some 0, maxLines := some 100,
    k := 1, tracks := 3, base := some 0x800000 }

/-- A pass of a mode in a state, at position 0. -/
def inPass (mode : PassMode) (st : PassState) (s : State) : State :=
  { s with pass := { s.pass with state := st, context := some (context mode), hasRun := true }
           timebase := { s.timebase with position := some 0 } }

def geometry : Geometry := { take := 1, lines := 10, root := 1, base := 0x800000, trackCount := 2, offset := 0 }

/-- LOCKED at e counts after the last boundary and the last pulse. -/
def lockedAt (e : Nat) : State :=
  withTimebase (fun t => { t with lock := .locked, interval := some e, flywheel := e, run := 8 }) State.reset

def passThrough (addr : Nat) : DownstreamTxn := ⟨.passThrough, addr, false, 0xF, 0, false, false⟩

def upstreamRead (addr : Nat) : UpstreamTxn :=
  { address := addr, write := false, lanes := 0xF, data := 0, cls := .plain, axis := none, forwardData := none,
    phase := .downstream, throughReset := false }

def answer (o : Result) : Option State :=
  match o with
  | .next t => some t
  | _ => none

/-- The response a command leaves. -/
def answered (o : Result) : Option (Byte × List Byte) :=
  (answer o).bind fun t => t.port.response.map fun r => (r.status, r.result)

/-! ### WellFormed -/

theorem test_wellFormed_refuses_known_frame : (Instr.unknownOrLength 0x33 []).wellFormed = false := by decide
theorem test_wellFormed_refuses_long_frame : (Instr.unknownOrLength 0xFF (List.replicate 256 0)).wellFormed = false := by
  decide +kernel
theorem test_wellFormed_refuses_whole_request :
    (Instr.selectFall ⟨0, [(0, 0x80), (0, 1), (0, 3)]⟩).wellFormed = false
      ∧ (Instr.selectFall ⟨0, [(0, 0x80), (0, 2), (0, 3)]⟩).wellFormed = true := by decide
theorem test_wellFormed_accepts_wrong_length : (Instr.unknownOrLength 0x33 [0]).wellFormed = true := by decide
theorem test_frame_of_another_command_is_refused :
    exec (.unknownOrLength 0x33 []) (atCode State.reset) = .refused .frameOfAnotherCommand := rfl

/-! ### Worked examples of the spec -/

/-- R21: at the reset values W is 65,104. -/
theorem test_window : State.reset.window = 65104 := by decide

/-- R126: the table of rounded quotients, in sixteenths of 2^63. -/
theorem test_rounding :
    [39000, 41000, 11350, 35625, -40, -56, -11350, -11354].map (fun n => roundHalfEven (n * 576460752303423488))
      = [2438, 2562, 709, 2227, -2, -4, -709, -710] := by decide +kernel

/-- R202, R21: SET TIMEBASE with WINDOW above its range answers ADJUSTED with 32. -/
theorem test_setTimebase_clamps :
    answered (exec (.setTimebase 2000000 40 48) (atCode State.reset)) = some (0x01, [0x00, 0x1E, 0x84, 0x80, 32, 48]) := by
  decide

/-- R27: base 0xFF with size 4 is clamped to size 1. -/
theorem test_setRegion_clamps :
    answered (exec (.setRegion 0xFF 4) (atCode State.reset)) = some (0x01, [0xFF, 0, 1]) := by decide

/-- R31: take 5 holds 0x810000 to 0x81007F; 4 lines of 3 tracks overlap it at 0x810070 and are granted at 0x810080. -/
theorem test_extent_example :
    let s := withTake 5 { readyTake with kind := .storage 0x810000 false, lines := 8, tracks := 7 } State.reset
    s.extentCheck 1 0x810070 4 3 = some .overlap ∧ s.extentCheck 1 0x810080 4 3 = none := by decide

/-- R162, R161: MIN and MAX win over the step limit, and a value pulled in and pushed back sets both flags. -/
theorem test_bounds_both : applyBounds ⟨100, 200, 10, 0, .none, 16384, 0⟩ (some 50) 150 = ⟨100, true, true⟩ := by decide

/-- R123, R124: at u = 1/2 the cubic weights are −1/16, 9/16, 9/16, −1/16 of 2^49. -/
theorem test_cubic_weights :
    weights .cubic 32768 = [-35184372088832, 316659348799488, 316659348799488, -35184372088832] := by decide

/-- R121: with slots −1, 0 and 2 good, slot 1 takes slot 0's sample; with slot 1 alone good, all take it. -/
theorem test_substitution :
    (List.range 4).map (substitute [true, true, false, true]) = [some 0, some 1, some 1, some 3]
      ∧ (List.range 4).map (substitute [false, false, true, false]) = [some 2, some 2, some 2, some 2] := by decide

/-- R202, R204: a FREE entry is one byte; a number outside 1 to 32 is NO_TAKE. -/
theorem test_readTake_free : answered (exec (.readTake 3) (atCode State.reset)) = some (0x00, [0]) := by decide
theorem test_readTake_range : answered (exec (.readTake 33) (atCode State.reset)) = some (0x88, []) := by decide

/-- R192, R62: STOP in IDLE answers STATE. -/
theorem test_stop_idle : answered (exec .stop (atCode State.reset)) = some (0x83, []) := by decide

/-- R195: clearing every flag at reset leaves none; power-seen goes with RESET. -/
theorem test_clearEvents : answered (exec (.clearEvents 0xFFFF) (atCode State.reset)) = some (0x00, [0, 0]) := by decide

/-- R191: an unlisted code answers UNKNOWN, a listed one with a wrong count LENGTH. -/
theorem test_unknown : answered (exec (.unknownOrLength 0x99 []) (atCode State.reset)) = some (0x80, []) := by decide
theorem test_length : answered (exec (.unknownOrLength 0x11 [1]) (atCode State.reset)) = some (0x81, []) := by decide

/-- R197: READ STATUS after power-on: family 0x1610, revision 2, POWER, power-seen, FREE, IDLE, no position, RESET set. -/
theorem test_readStatus : answered (exec .readStatus (atCode State.reset)) =
    some (0x00, [0x16, 0x10, 2, 0, 1, 0, 0, 0, 0, 0, 0, 0, 0, 0, 0, 0x40, 0x00]) := by decide

/-- R74: even parity over the data bits and the parity bit. -/
theorem test_parity : parityGood 0x07 true = true ∧ parityGood 0x07 false = false := by decide

/-- R201: ROLL, SPEED and MARK of a camera word. -/
theorem test_cameraWord : wordRoll 0x4B = true ∧ wordSpeed 0x4B = true ∧ wordMark 0x4B = 18 := by decide

/-- R189: a word written out byte by byte is read as its command. -/
theorem test_commandOf_inject :
    commandOf ⟨0x80, [3, 0, 0xFF, 0xFF, 0xFC, 0x18]⟩ = .inject 3 0 0xFFFFFC18 := by decide
theorem test_commandOf_setRegion : commandOf ⟨0x20, [0x80, 0x00, 0x10]⟩ = .setRegion 0x80 0x0010 := by decide

/-! ### Witnesses: for each statement with hypotheses, a state and operands that meet them -/

theorem test_witness_StepRunsFrontCommand :
    ({ State.reset with pending := [.stop, .park] } : State).pending = .stop :: [.park] := by decide
/-- The part's own time: FREE at e counts, and HOLDOVER at e counts with its watch running. -/
theorem test_witness_StepRunsFrontCommand_own :
    let free (e : Nat) : State := withTimebase (fun t => { t with flywheel := e }) State.reset
    let watched (e : Nat) : State := withTimebase (fun t => { t with lock := .holdover, watching := true, flywheel := e }) State.reset
    State.reset.pending = [] ∧ State.reset.due = [] ∧ State.reset.timebase.active.nNom = 2083333
      ∧ (free 2083333).pointIn ≠ some 0 ∧ (free 2083332).pointIn ≠ some 0 ∧ 65104 ≤ (watched 65104).timebase.flywheel
      ∧ ¬ (watched 65104).window ≤ (watched 65103).timebase.flywheel ∧ (watched 65104).window = 65104
      ∧ (inPass .record .running State.reset).pointIn = some 0
      ∧ (inPass .record .running (free 2083333)).pointIn = some 0 := by decide
/-- R11, R12: one count before the boundary passes as a count; the FLYWHEEL boundary is made on it. -/
theorem test_own_boundary :
    let s := withTimebase (fun t => { t with flywheel := 2083332, refTime := 4294967295 }) State.reset
    (s.idle.timebase.flywheel, s.idle.timebase.refTime, s.idle.timebase.record) = (2083333, 0, none)
      ∧ (answer (exec (.flywheelBoundary ⟨true, true, false, false, false⟩) s)).map (fun t => t.timebase.record)
        = some (some ⟨0, .flywheel, 2083333, .free⟩) := by decide

theorem test_witness_EveryStepKeepsInvariant : (atCode State.reset).Inv ∧ ∃ t, step (atCode State.reset) = .next t :=
  ⟨by constructor <;> decide, _, rfl⟩

/-- A reset in force, by the command, with the pin released. -/
def resetting : State := { State.reset with resetControl := ⟨true, false, false, true, false, 1000⟩ }

theorem test_witness_StepRunsFrontCommand_reset :
    resetting.pending = [] ∧ 0 < resetting.resetControl.spanLeft
      ∧ ({ resetting with resetControl := { resetting.resetControl with spanLeft := 0 } } : State).resetControl.spanLeft = 0 := by
  decide

theorem test_witness_ResetEndLeavesResetValues :
    resetting.resetControl.inForce = true ∧ resetting.resetControl.pinHeld = false := by decide
theorem test_resetEnd_cause : (answer (exec .resetEnd resetting)).map (·.port.resetCause) = some .command := by decide

theorem test_witness_PowerOnAndPinBeginReset :
    (State.reset.elapse 0).resetControl.inForce = false
      ∧ ({ State.reset with resetControl := ⟨true, false, true, false, true, 0⟩ } : State).resetControl.pinHeld = true := by
  decide

theorem test_witness_CommandsAndFramesAgree :
    (Instr.inject 15 1 0).wellFormed = true ∧ frameOf (.inject 15 1 0) = some ⟨0x80, [15, 1, 0, 0, 0, 0]⟩
      ∧ (Instr.unknownOrLength 0xFF (List.replicate 255 0)).wellFormed = true := by decide +kernel

theorem test_witness_RefusedCommandChangesNothing :
    frameOf .park = some ⟨0x34, []⟩ ∧ (atCode State.reset).takesCommand
      ∧ ∃ t, exec .park (atCode State.reset) = .next t ∧ t.port.response = some ⟨Status.state.byte, [], 0⟩
        ∧ Status.state.accepted = false :=
  ⟨by decide, by decide, _, rfl, by decide, by decide⟩

/-- A frame under way whose request has been received as far as these bytes. -/
def receiving (phase : FramePhase) (code length : Option Byte) (args : List Byte) (incoming : List (Nat × Byte)) : State :=
  let p := { State.reset.port with phase := phase, code := code, length := length, args := args, incoming := incoming
                                   selectHigh := false }
  { State.reset with port := p }

theorem test_witness_CommandTakenAtItsLastByte :
    frameOf (.inject 3 1 0) = some ⟨0x80, [3, 1, 0, 0, 0, 0]⟩ ∧ (Instr.inject 3 1 0).wellFormed = true
      ∧ (atCode State.reset).port.phase = .code ∧ State.reset.due.any Delivery.isBoundary = false
      ∧ State.reset.port.phase = .idle ∧ (State.reset.respond .ok []).port.phase = .response
      ∧ (receiving .length (some 0x80) none [] []).port.code = some 0x80
      ∧ ([3, 1, 0, 0, 0, 0] : List Byte).take [3, 1].length = [3, 1]
      ∧ (BitVec.ofNat 8 ([3, 1, 0, 0, 0, 0] : List Byte).length : Byte) = 6
      ∧ ([3, 1, 0, 0, 0, 0] : List Byte).take [4].length ≠ [4]
      ∧ (receiving .arguments (some 0x80) (some 6) [3, 1, 0, 0] [(0, 0)]).port.args.length + 1 < (6 : Byte).toNat
      ∧ (receiving .code none none [] [(5, 0x80)]).port.incoming = [(5, 0x80)] := by decide
/-- R189: a request received as far as its second argument byte is completed by its command's row and by no other. -/
theorem test_partial_request :
    answered (exec (.inject 3 1 0) (receiving .arguments (some 0x80) (some 6) [3, 1] [])) = some (0x00, [3, 0, 0, 0, 0, 0])
      ∧ answer (exec .stop (receiving .arguments (some 0x80) (some 6) [3, 1] []))
        = some (receiving .arguments (some 0x80) (some 6) [3, 1] []) := by decide
/-- R189: the early bytes of a request arrive at their counts, with the part's own time between them. -/
theorem test_early_bytes :
    (answer (exec (.selectFall ⟨0, [(2, 0x80), (3, 6)]⟩) State.reset)).map
      (fun t => ((t.elapse 4).port.phase, (t.elapse 6).port.phase, (t.elapse 6).port.code, (t.elapse 6).timebase.refTime))
      = some (.length, .arguments, some 0x80, 6) := by decide

theorem test_witness_SelectLineFrames :
    (State.reset.elapse 0).port.selectHigh = true ∧ ((atCode State.reset).elapse 0).port.selectHigh = false
      ∧ ((atCode State.reset).elapse 0).port.resetPending = false
      ∧ (({ (atCode State.reset) with port := { (atCode State.reset).port with resetPending := true } } :
        State).elapse 0).port.resetPending = true ∧ (State.reset.elapse 0).resetControl.inForce = false := by decide

/-- A management command is taken in phase CODE with no boundary on its way (all the statements about them). -/
theorem test_witness_takesCommand : (atCode State.reset).takesCommand ∧ ¬ State.reset.takesCommand := by decide

theorem test_witness_ReadsAndRejectedFrames :
    argCount 0x99 = none ∧ argCount 0x27 = some 1 ∧ 1 ≠ ([] : List Byte).length := by decide

theorem test_witness_ResultLengths :
    ({ State.reset with witness := { State.reset.witness with log := [⟨0, 0, []⟩] } } : State).witness.log = [⟨0, 0, []⟩] := by
  decide

/-! #### The timebase -/

theorem test_witness_PulseRuntOrInFree :
    let s (i : Nat) : State := withTimebase (fun t => { t with interval := some i }) State.reset
    (130208 * 16 < State.reset.timebase.active.nNom ∧ ((s 130208).elapse 0).timebase.interval = some 130208)
      ∧ (State.reset.elapse 0).timebase.lock = .free ∧ (State.reset.elapse 0).timebase.interval = none
      ∧ (((s 2018229).elapse 0).timebase.active.nNom ≤ 2018229 + ((s 2018229).elapse 0).window
        ∧ ((s 2018229).elapse 0).timebase.active.nNom ≤ 2018229 * 16)
      ∧ 2018228 + ((s 2018228).elapse 0).window < ((s 2018228).elapse 0).timebase.active.nNom := by decide

theorem test_witness_PulseInLocked :
    ((lockedAt 2018228).elapse 0).timebase.lock = .locked
      ∧ ((lockedAt 2018228).elapse 0).timebase.flywheel + ((lockedAt 2018228).elapse 0).window
        < ((lockedAt 2018228).elapse 0).timebase.active.nNom
      ∧ ((lockedAt 2018229).elapse 0).timebase.active.nNom
        ≤ ((lockedAt 2018229).elapse 0).timebase.flywheel + ((lockedAt 2018229).elapse 0).window
      ∧ ((lockedAt 2018229).elapse 0).timebase.pending = none
      ∧ (([] ++ [Mark.good]).drop (0 - 7)).count Mark.bad < 3
      ∧ 3 ≤ (([Mark.bad, Mark.bad] ++ [Mark.bad]).drop (2 - 7)).count Mark.bad := by decide

/-- A lock state with a run, a pulse interval and a flywheel. -/
def pulseAt (l : LockState) (run interval flywheel : Nat) : State :=
  withTimebase (fun t => { t with lock := l, run := run, interval := some interval, flywheel := flywheel }) State.reset

theorem test_witness_PulseInAcquireOrHoldover :
    let a (run i : Nat) : Timebase := ((pulseAt .acquire run i 5).elapse 0).timebase
    let h (f : Nat) : Timebase := ((pulseAt .holdover 7 2083333 f).elapse 0).timebase
    let w := State.reset.window
    (a 6 2018229).run < 7 ∧ 7 ≤ (a 7 2018229).run ∧ (a 7 2018229).lock = .acquire
      ∧ (a 7 2018229).active.nNom ≤ 2018229 + w ∧ 2018229 ≤ (a 7 2018229).active.nNom + w
      ∧ ¬ (a 7 2018228).active.nNom ≤ 2018228 + w ∧ (a 7 2018228).active.nNom ≤ 2018228 * 16
      ∧ (a 7 2018229).pending = none ∧ ((pulseAt .acquire 7 2018229 5).elapse 0).pass.state = .idle
      ∧ ((inPass .replay .parked (pulseAt .acquire 7 2018229 5)).elapse 0).pass.state = .parked
      ∧ (h 0).lock = .holdover ∧ (h 65104).flywheel ≤ w ∧ ¬ (h 65105).flywheel ≤ w
      ∧ ¬ (h 2018228).active.nNom ≤ (h 2018228).flywheel + w ∧ (h 2018229).active.nNom ≤ (h 2018229).flywheel + w := by
  decide

/-- FREE, ACQUIRE or HOLDOVER with the flywheel boundary due at this instant. -/
def dueIn (l : LockState) (holdoverCount : Nat) : State :=
  withTimebase (fun t => { t with lock := l, flywheel := 2083333, holdoverCount := holdoverCount }) State.reset

theorem test_witness_FlywheelBoundaryMakesFrame :
    (dueIn .free 0).resetControl.inForce = false
      ∧ ((dueIn .free 0).elapse (dueIn .free 0).boundaryIn).timebase.lock = .free
      ∧ ((dueIn .acquire 0).elapse (dueIn .acquire 0).boundaryIn).timebase.lock = .acquire
      ∧ ((dueIn .free 0).elapse (dueIn .free 0).boundaryIn).timebase.pending = none := by decide

theorem test_witness_FlywheelBoundaryMakesFrame_holdover :
    let u (n : Nat) := (dueIn .holdover n).elapse (dueIn .holdover n).boundaryIn
    (u 47).timebase.lock = .holdover ∧ (u 47).timebase.pending = none
      ∧ (u 47).timebase.holdoverCount + 1 ≤ (u 47).timebase.active.holdoverLimit
      ∧ (u 48).timebase.active.holdoverLimit < (u 48).timebase.holdoverCount + 1 := by decide
/-- R11: the counts before the row pass up to N_NOM, in LOCKED up to N_NOM + W. -/
theorem test_witness_FlywheelBoundaryMakesFrame_counts :
    let free (e : Nat) : State := withTimebase (fun t => { t with flywheel := e }) State.reset
    (free 2083328).boundaryIn = 5 ∧ ((free 2083328).elapse (free 2083328).boundaryIn).timebase.flywheel = 2083333
      ∧ (free 0).boundaryIn = 2083333 ∧ (lockedAt 2148436).boundaryIn = 1 ∧ (lockedAt 2083333).boundaryIn = 65104
      ∧ (free 2083328).pointIn = none ∧ (free 2083328).timebase.flywheel ≤ (free 2083328).timebase.active.nNom := by decide

theorem test_witness_SubstitutedBoundaryMakesFrame :
    (lockedAt 2148437).timebase.lock = .locked ∧ (lockedAt 2148437).boundaryIn = 0
      ∧ ((lockedAt 2148437).elapse (lockedAt 2148437).boundaryIn).timebase.lock = .locked
      ∧ ((lockedAt 2148437).elapse (lockedAt 2148437).boundaryIn).timebase.pending = none := by decide

theorem test_witness_HoldoverRunResetEmptiesRun :
    let s := withTimebase (fun t => { t with lock := .holdover, watching := true, flywheel := 65104 }) State.reset
    s.resetControl.inForce = false ∧ s.timebase.lock = .holdover ∧ s.timebase.watching = true
      ∧ s.timebase.pulseNear = false := by decide

theorem test_witness_PendingSettingsTakeEffectAtBoundary :
    let s := withTimebase (fun t => { t with pending := some ⟨2000000, 8, 48⟩ }) (dueIn .free 0)
    s.timebase.lock ≠ .locked ∧ (s.elapse s.boundaryIn).timebase.pending = some ⟨2000000, 8, 48⟩ := by decide
theorem test_witness_PendingSettingsTakeEffectAtBoundary_others :
    let with_ (s : State) : State := withTimebase (fun t => { t with pending := some ⟨2000000, 8, 48⟩ }) s
    let sub := with_ (lockedAt 2148437)
    let u (s : State) : Timebase := ((with_ s).elapse 0).timebase
    sub.timebase.lock = .locked ∧ (sub.elapse sub.boundaryIn).timebase.pending = some ⟨2000000, 8, 48⟩
      ∧ (u (lockedAt 2018229)).active.nNom ≤ (u (lockedAt 2018229)).flywheel + State.reset.window
      ∧ 7 ≤ (u (pulseAt .acquire 7 2018229 5)).run ∧ 7 ≤ (u (pulseAt .holdover 7 2083333 2018229)).run
      ∧ (u (pulseAt .holdover 7 2083333 2018229)).pending = some ⟨2000000, 8, 48⟩ := by decide

theorem test_witness_LockedOnlyByEighthPulse :
    let s := withTimebase (fun t => { t with lock := .acquire, run := 7, interval := some 2083333 }) State.reset
    ∃ t, exec (.syncPulse 0 ⟨true, true, false, false, false⟩) s = .next t ∧ t.timebase.lock = .locked ∧ s.timebase.lock ≠ .locked :=
  ⟨_, rfl, by decide, by decide⟩

theorem test_witness_BoundaryAdvancesTimeline :
    let s := inPass .witness .running (dueIn .free 0)
    let u := s.elapse s.boundaryIn
    u.pass.state = .running ∧ u.pass.context = some (context .witness) ∧ u.timebase.position = some 0
      ∧ u.timebase.lock = .free ∧ u.timebase.pending = none ∧ 0 + (context .witness).pace * 16 < 4294967296
      ∧ ¬ 4294901760 + (context .witness).pace * 16 < 4294967296 ∧ 4294901759 + (context .witness).pace * 16 < 4294967296
      ∧ (withTimebase (fun t => { t with position := some 4294901760 }) s).pass.state = .running
      ∧ (inPass .record .parked State.reset).timebase.position = some 0 := by decide

/-- What a command leaves, once more a command. -/
def andThen (o : Option State) (c : Instr) : Option State := o.bind fun s => answer (exec c s)

/-- A pass of a mode in RUNNING with a request in its slot, its flywheel boundary due, at point j = 1. -/
def stopping (mode : PassMode) (r : Request) : State :=
  let s := withPass (fun p => { p with pending := some r }) (inPass mode .running (withAxes (dueIn .free 0)))
  let s := withTimebase (fun t => { t with nextPoint := 1 }) s
  { s with recording := { s.recording with isOpen := true } }

/-- R84, R91, R94: a STOP taken late ends the recording at its boundary's own line; a SAMPLE_POINT behind it adds none. -/
theorem test_no_line_after_late_stop :
    let t := andThen (some (stopping .record .stop)) (.flywheelBoundary ⟨true, true, true, true, false⟩)
    let v := andThen t .samplePoint
    (t.map fun x => (x.pass.state, x.recording.queue.map (·.index)),
      v.map fun x => (x.pass.state, x.recording.queue.map (·.index)))
      = (some (.running, [1]), some (.ending, [1])) := by decide
/-- R151: a SET_AXIS behind a boundary that ends the pass finds it COMPLETE and writes the active copy. -/
theorem test_set_axis_after_late_end :
    let t := andThen (some (atCode (stopping .witness .stop))) (.flywheelBoundary ⟨true, true, false, true, false⟩)
    (andThen t (.setAxis 1 1 0x100004 0 0 0xFFFFFF 1 0 0 0 16384 0)).map
      (fun x => (x.pass.state, (x.axis 1).pending.isSome, (x.axis 1).entry.processing.max)) = some (.complete, false, 1) := by
  decide
/-- R13, R56: a flywheel boundary of ACQUIRE taken late finds its own LOCK state, and the eighth pulse behind it starts the
pass by its own boundary, which advances nothing. -/
theorem test_lock_of_its_own_boundary :
    let s := inPass .record .armed (withTimebase (fun t => { t with run := 7, interval := some 2083333 }) (dueIn .acquire 0))
    let s := withPass (fun p => { p with context := some { context .record with requireLock := true } }) s
    let t := andThen (some s) (.flywheelBoundary ⟨true, true, true, true, false⟩)
    (andThen t (.syncPulse 0 ⟨true, true, false, false, false⟩)).map
      (fun x => (x.pass.state, x.timebase.lock, x.timebase.advances, x.due)) = some (.running, .locked, 0, []) := by decide

/-- A RECORD pass at its first sample point, open and empty. -/
def recordingAt : State :=
  let s := inPass .record .running State.reset
  { s with recording := { s.recording with isOpen := true } }

theorem test_witness_SamplePointCapturesLine :
    let v := recordingAt.takeBoundaries
    let u := v.elapse 0
    v.pointIn = some 0 ∧ 0 ≤ v.boundaryIn ∧ State.reset.takeBoundaries.pass.state ≠ .running ∧ u.pass.context = some (context .record)
      ∧ u.pass.state = .running ∧ u.recording.isOpen = true ∧ u.recording.queue.length < 16
      ∧ u.runningPosition * (context .record).k / 65536 = u.timebase.nextPoint
      ∧ (context .record).maxLines ≠ some (u.timebase.nextPoint + 1) := by decide
/-- RECORD in RUNNING with q lines queued and the points from j on still to come, of a reservation of `last` lines. -/
def capturing (q j last : Nat) : State :=
  let s := withPass (fun p => { p with context := some { context .record with maxLines := some last } }) recordingAt
  let s := withTimebase (fun t => { t with nextPoint := j }) s
  let s := s.onAxis 1 fun ax => { ax with clampSince := true }
  let s : State := { s with recording := { s.recording with
    queue := (List.range q).map fun i => ⟨i, [0, 0], ⟨false, false, false, false⟩⟩ } }
  withPass (fun p => { p with summary := some (newSummary .record 1 0) }) s

theorem test_witness_SamplePointCapturesLine_groups :
    let g (q last : Nat) : State := capturing q 0 last
    (g 15 2).pass.context.map (·.mode) = some .record ∧ (g 16 2).takeBoundaries.pointIn = some 0
      ∧ (g 15 2).pass.context.bind (·.maxLines) = some 2 ∧ 65536 * 1 / 65536 + 1 - 0 = 2
      ∧ 16 - (g 15 3).recording.queue.length < 2 ∧ 2 - 0 ≤ 16 - (g 14 2).recording.queue.length
      ∧ (g 15 2).recording.isOpen = true ∧ State.reset.recording.isOpen = false ∧ (g 0 9).timebase.nextPoint < 65536
      ∧ (1 : Nat) ∈ [1, 2, 4, 8, 16] ∧ 0 < ((g 0 9).timebase.record.map (·.period)).getD (g 0 9).timebase.active.nNom
      ∧ (g 0 9).timebase.position = some 0 ∧ 0 + 4096 * 16 < 4294967296 := by decide
/-- R89, R90: a capture with 16 lines queued is an overrun, also of the last line; with room that line ends the pass. -/
theorem test_overrun_and_last_line :
    [capturing 16 0 1, capturing 15 0 1, capturing 15 0 2].map (fun s => (answer (exec .samplePoint s)).map fun t =>
      (t.recording.queue.length, t.recording.isOpen, t.flag .overrun, t.pass.summary.bind (·.outcome)))
      = [some (16, false, true, some .overrun), some (16, false, false, some .full), some (16, true, false, none)] := by
  decide
/-- R17, R86: a group of three lines at one evaluation, the first CLAMPED, the later ones COINCIDENT; one place in the queue
takes the first of the group alone. -/
theorem test_coincident_group :
    let t (q : Nat) := ((capturing q 0 9).raisePoints 131072).recording
    ((t 0).queue.map fun l => (l.index, l.flags.clamped, l.flags.coincident))
        = [(0, true, false), (1, false, true), (2, false, true)]
      ∧ ((t 15).queue.length, (t 15).isOpen) = (16, false) := by decide

/-! #### The camera status line -/

theorem test_witness_StatusLineReceiver :
    let receiving : State := { State.reset with camera := { State.reset.camera with receiver := .receiving 0 } }
    let waiting : State := { State.reset with camera := { State.reset.camera with receiver := .waitingHigh } }
    (State.reset.elapse 0).camera.receiver = .hunting ∧ (receiving.elapse 0).camera.receiver = .receiving 0
      ∧ (waiting.elapse 0).camera.receiver = .waitingHigh ∧ (State.reset.elapse 0).resetControl.inForce = false := by decide

theorem test_witness_BoundaryFilesSlotAndDeclares :
    let s : State := { State.reset with camera := { State.reset.camera with
      held := some 3, ring := [none, some 3, some 3, some 3] } }
    4 ≤ s.cameraBoundary.camera.ring.count (some 3)
      ∧ (∀ w : Byte, State.reset.cameraBoundary.camera.ring.count (some w) < 4) := by
  constructor
  · decide
  · intro w
    exact Nat.lt_of_le_of_lt List.count_le_length (by decide)

/-- R78: an agreeing word that is the declared word already raises nothing. -/
theorem test_witness_BoundaryFilesSlotAndDeclares_same :
    let s : State := { State.reset with camera := { State.reset.camera with
      declared := 3, held := some 3, ring := [none, some 3, some 3, some 3] } }
    4 ≤ s.cameraBoundary.camera.ring.count (some 3) ∧ s.cameraBoundary.flag .camera = false := by
  decide

theorem test_witness_SettingCommandsStore_camera : (1 : Byte) = codeByte CameraRule.eightOfTen.codeNat ∧ 2 ≤ (2 : Byte).toNat := by decide

/-! #### Takes -/

theorem test_witness_SettingCommandsStore_timebase :
    (inPass .replay .parked State.reset).pass.state = .parked ∧ State.reset.pass.state ≠ .parked := by decide

theorem test_witness_SettingCommandsStore_region :
    (∃ e ∈ (withTake 1 readyTake State.reset).directory.entries, e ≠ none)
      ∧ (∀ e ∈ State.reset.directory.entries, e = none)
      ∧ (∃ ax ∈ (withAxes State.reset).axes, ax.entry.enabled = true ∧ 0x100000 = ax.entry.targetAddr) := by decide

theorem test_witness_DeclareStartsVerifying :
    let s := withTake 1 readyTake State.reset
    let r := withTake 2 { readyTake with state := .rejected, failLine := some 0 } State.reset
    s.directory.entries.length = 32 ∧ s.hasRegion = true ∧ s.entry 2 = none
      ∧ s.extentCheck 2 0x810000 1048576 1 = some .overlap ∧ s.extentCheck 2 0x810000 1 2 = none
      ∧ (∃ e, r.entry 2 = some e ∧ e.state = .rejected) ∧ r.extentCheck 2 0x800000 10 2 = none
      ∧ (16 : Byte).toNat ∈ [1, 2, 4, 8, 16] ∧ (3 : AxisSet) ≠ 0 := by
  refine ⟨by decide, by decide, by decide, by decide, by decide, ⟨_, rfl, rfl⟩, by decide, by decide, by decide⟩

theorem test_witness_DeleteFreesEntry :
    let s := withTake 1 readyTake State.reset
    s.entry 1 = some readyTake ∧ s.passHolds 1 = false ∧ s.directory.namedByAlias 1 = false ∧ s.entry 2 = none
      ∧ (inPass .replay .armed s).passHolds 1 = true := by decide

theorem test_witness_ProtectWritesRoot :
    let s := (withTake 1 readyTake State.reset).setEntry 32 (some { readyTake with kind := .aliasOf 1 2 })
    s.entry 1 = some readyTake ∧ readyTake.kind = .storage 0x800000 false
      ∧ s.entry 32 = some { readyTake with kind := .aliasOf 1 2 } := by decide

theorem test_witness_AliasNamesRoot :
    let s := (withTake 1 readyTake State.reset).setEntry 2 (some { readyTake with kind := .aliasOf 1 2, lines := 4 })
    s.entry 3 = none ∧ s.entry 1 = some readyTake ∧ readyTake.state = .ready
      ∧ s.entry 2 = some { readyTake with kind := .aliasOf 1 2, lines := 4 } ∧ 2 + 8 ≤ readyTake.lines
      ∧ readyTake.lines < 2 + 9 := by decide

/-- Take 1 is scanned, its tag read of line 0 in flight. -/
def verifying (lines : Nat) : State :=
  let s := withTake 1 { readyTake with state := .verifying, lines := lines } State.reset
  { s with directory := { s.directory with verifyOrder := [1], verifyCursor := some 0 }
           memory := { s.memory with downstream := some ⟨.verifyRead, 0x800000, false, 0xF, 0, false, false⟩ } }

theorem test_witness_VerifyReadCompletes :
    let u := (verifying 10).elapse 0
    u.memory.downstream = some ⟨.verifyRead, 0x800000, false, 0xF, 0, false, false⟩
      ∧ u.directory.verifyOrder.head? = some 1 ∧ u.directory.verifyCursor = some 0
      ∧ u.entry 1 = some { readyTake with state := .verifying } ∧ (0x10000 : Word).toNat / 65536 % 64 = 1 := by decide
/-- R41: a bad tag at line 0 rejects the take with FAIL_LINE 0. -/
theorem test_verify_bad_tag :
    (answer (exec (.downstreamComplete ⟨0, false, false⟩ 0x20000) (verifying 10))).map (fun t => (t.entry 1).map (·.failLine))
      = some (some (some 0)) := by decide
/-- R41: a good tag of the only line makes the take READY. -/
theorem test_verify_good_tag :
    (answer (exec (.downstreamComplete ⟨0, false, false⟩ 0x10000) (verifying 1))).map (fun t => (t.entry 1).map (·.state))
      = some (some .ready) := by decide

/-! #### The memory path and the axis unit -/

theorem test_witness_PartialTargetWriteIsBlocked :
    let u := (withAxes State.reset).elapse 0
    u.memory.upstream = none ∧ u.resetControl.inForce = false ∧ u.targetAxis ((0x40001 : BitVec 22).toNat * 4) = some 1
      ∧ (0x7 : BitVec 4) ≠ 0xF := by decide

theorem test_witness_UncheckedTransactionGoesDownstream :
    let u := (withTake 1 readyTake (withAxes State.reset)).elapse 0
    u.memory.upstream = none ∧ u.memory.downstream = none ∧ u.takeRequest = none ∧ u.queueActive = false
      ∧ u.targetAxis ((5 : BitVec 22).toNat * 4) = none ∧ u.inRegion ((5 : BitVec 22).toNat * 4) = false := by decide

/-- Take 1 with PROTECTED yes. -/
def guardedTake : State := withTake 1 { readyTake with kind := .storage 0x800000 true } State.reset

theorem test_witness_ProtectedWriteIsBlocked :
    let u := guardedTake.elapse 0
    u.takeRequest = none ∧ u.queueActive = false ∧ u.targetAxis ((0x20001D : BitVec 22).toNat * 4) = none
      ∧ u.inRegion ((0x20001D : BitVec 22).toNat * 4) = true
      ∧ u.directory.wordProtected ((0x20001D : BitVec 22).toNat * 4) = true
      ∧ u.directory.wordProtected ((0x20001E : BitVec 22).toNat * 4) = false := by decide

theorem test_witness_ArbiterStartsNoForbiddenWrite :
    let s := withMemory (fun m => { m with upstream := some { upstreamRead 0x800078 with
      write := true, cls := .region, forwardData := some 0, phase := .waiting } }) guardedTake
    ∃ d, s.settle.memory.downstream = some d ∧ d.owner = .passThrough ∧ d.write = true ∧ s.memory.downstream = none
      ∧ s.resetControl.inForce = false := ⟨_, rfl, rfl, rfl, rfl, rfl⟩

theorem test_witness_ArbiterTable :
    let s := withMemory (fun m => { m with downstream := none }) (verifying 10)
    let w := withMemory (fun m => { m with upstream := some { upstreamRead 16 with phase := .waiting }, urgentRun := 4 }) s
    s.takeRequest = some ⟨.verifyRead, 0x800000, false, 0xF, 0, false, false⟩ ∧ s.waitingUpstream = none
      ∧ w.waitingUpstream = some { upstreamRead 16 with phase := .waiting } ∧ w.takeUrgent = false
      ∧ w.grantDecision { upstreamRead 16 with phase := .waiting } = .forward false
      ∧ ((verifying 10).elapse 0).memory.downstream = some ⟨.verifyRead, 0x800000, false, 0xF, 0, false, false⟩
      ∧ (verifying 10).takeUrgent = false ∧ (verifying 10).memory.upstream = none := by decide
/-- R144, 8.9 slots 13 and 14: a read presented as the last transaction completes is present at the decision and wins over
a take engine that is not urgent. -/
theorem test_late_slot :
    let t := andThen (some (verifying 10)) (.downstreamComplete ⟨0, false, true⟩ 0x10000)
    (t.map (·.due), (andThen t (.upstreamTransactionTaken ⟨0, false⟩ false 4 0xF 0)).map
        (fun x => (x.memory.downstream.map (·.owner), x.takeRequest.map (·.owner))),
      (t.map fun x => x.idle.memory.downstream.map (·.owner)))
      = (some [.slot], some (some .passThrough, some .verifyRead), some (some .verifyRead)) := by decide
/-- Take 1 with PROTECTED yes, a write to it waiting, and the verify scan of take 2 with a read to issue. -/
def blocking (urgentRun : Nat) (cls : TxnClass) (addr : Nat) : State :=
  let s := (withAxes guardedTake).setEntry 2 (some { readyTake with state := .verifying, kind := .storage 0x810000 false })
  let s : State := { s with directory := { s.directory with verifyOrder := [2], verifyCursor := some 0 } }
  let x : UpstreamTxn := { upstreamRead addr with write := true, cls := cls, forwardData := some 0, phase := .waiting }
  withMemory (fun m => { m with upstream := some x, urgentRun := urgentRun }) s

theorem test_witness_ArbiterTable_blocked :
    let s := blocking 4 .region 0x800000
    s.memory.downstream = none ∧ s.waitingUpstream.isSome = true ∧ s.takeUrgent = false
      ∧ s.takeRequest.map (·.address) = some 0x810000 ∧ s.directory.wordProtected 0x800000 = true
      ∧ ((blocking 0 .plain 0x100000).targetAxis 0x100000).isSome = true := by decide
/-- R141, R145: the slot of a blocked write is decided again for the take engine. -/
theorem test_blocked_slot :
    let t := (blocking 0 .region 0x800000).arbitrate
    (t.memory.downstream.map (·.owner), t.memory.blockedAddress, t.flag .protect, t.memory.upstream)
      = (some .verifyRead, some 0x800000, true, none) := by decide
/-- R93: 12 queued record lines are urgent, 11 are not. -/
theorem test_record_urgency :
    let s (q : Nat) : State := let c := capturing q 0 100
      { c with recording := { c.recording with writer := some ⟨1, false⟩ } }
    ((s 12).takeUrgent, (s 11).takeUrgent) = (true, false) := by decide
/-- R107: with CURRENT_LINE 0 the lookahead counts lines 3 and above; four of them are not urgent, three are. -/
theorem test_line_urgency :
    let s (n : Nat) : State := { inPass .replay .running State.reset with
      lineQueue := ⟨some geometry, (List.range n).map fun i => ⟨i, [], true⟩, some ⟨n, [], false⟩, some (n + 1), some 0⟩ }
    ((s 6).takeUrgent, (s 7).takeUrgent) = (true, false) := by decide

theorem test_witness_ForwardedTransactionCompletes :
    let u := (withMemory (fun m => { m with upstream := some (upstreamRead 16), downstream := some (passThrough 16) })
      State.reset).elapse 0
    u.memory.downstream = some (passThrough 16) ∧ u.memory.upstream = some (upstreamRead 16)
      ∧ (passThrough 16).notice = false ∧ (upstreamRead 16).cls ≠ .feedback := by decide

theorem test_witness_ForwardedTransactionCompletes_write :
    let d : DownstreamTxn := { passThrough 16 with write := true }
    let x : UpstreamTxn := { upstreamRead 16 with write := true, data := 5 }
    let u := (withMemory (fun m => { m with upstream := some x, downstream := some d }) State.reset).elapse 0
    u.memory.downstream = some d ∧ u.memory.upstream = some x ∧ d.notice = false := by decide

/-- Axis 1 has its feedback at 0x200000, a last forwarded value 10 and SOURCE FOLLOWING, in a WITNESS pass. -/
def feedbackRead : State :=
  let s := withMemory (fun m => { m with
    upstream := some { upstreamRead 0x200000 with cls := .feedback, axis := some 1 }
    downstream := some (passThrough 0x200000) }) (inPass .witness .running (withAxes State.reset))
  s.onAxis 1 fun ax => { ax with
    entry := { ax.entry with feedbackAddr := some 0x200000, processing := { ax.entry.processing with source := .following } }
    lastForwarded := some 10 }

theorem test_witness_ForwardedTransactionCompletes_feedback :
    let u := feedbackRead.elapse 0
    u.memory.downstream = some (passThrough 0x200000)
      ∧ u.memory.upstream = some { upstreamRead 0x200000 with cls := .feedback, axis := some 1 } ∧ 1 < u.axes.length
      ∧ 1 < u.witness.axes.length ∧ (u.axis 1).entry.feedbackAddr ≠ none
      ∧ (u.axis 1).entry.processing.source = .following ∧ u.pass.state = .running ∧ u.mode = some .witness
      ∧ (u.axis 1).lastForwarded = some 10 := by decide
/-- Log entry 17: the axis of the taking has no FEEDBACK_ADDR any more at the completion. -/
theorem test_witness_ForwardedTransactionCompletes_feedback_gone :
    let s := feedbackRead.onAxis 1 fun ax => { ax with entry := { ax.entry with feedbackAddr := none } }
    let u := s.elapse 0
    u.memory.downstream = some (passThrough 0x200000) ∧ (u.axis 1).entry.feedbackAddr = none
      ∧ u.memory.upstream = some { upstreamRead 0x200000 with cls := .feedback, axis := some 1 }
      ∧ (answer (exec (.downstreamComplete ⟨0, false, false⟩ 12) s)).map (fun t => (t.axis 1).lastFeedback) = some none := by
  decide
/-- R139, R165: the read of 12 is observed and compared with 10. -/
theorem test_feedback_comparison :
    (answer (exec (.downstreamComplete ⟨0, false, false⟩ 12) feedbackRead)).map
      (fun t => ((t.axis 1).lastFeedback, (t.witnessAxis 1).worst)) = some (some 12, some 2) := by decide

/-- A WITNESS pass of take 1 with line 0 queued and line 1 half read, and a write of the tag of line i forwarded. -/
def noticing (i : Nat) : State :=
  let s := inPass .witness .running (withTake 1 readyTake State.reset)
  { s with
    lineQueue := ⟨some geometry, [⟨0, [0x10000, 5, 7], true⟩], some ⟨1, [0x10001, 6], false⟩, some 2, some 0⟩
    memory := { s.memory with
      upstream := some { upstreamRead (0x800000 + 12 * i) with write := true, lanes := 1, cls := .region }
      downstream := some ⟨.passThrough, 0x800000 + 12 * i, true, 1, 0xFF, false, true⟩ } }

theorem test_witness_CoherenceNoticeUpdatesLine :
    let u := (noticing 0).elapse 0
    u.memory.downstream = some ⟨.passThrough, 0x800000, true, 1, 0xFF, false, true⟩
      ∧ u.memory.upstream.map (·.write) = some true ∧ u.queueActive = true ∧ u.lineQueue.geometry = some geometry
      ∧ u.entry geometry.root = some readyTake ∧ 9 < geometry.lines ∧ 2 ≤ geometry.trackCount
      ∧ geometry.offset + 9 < readyTake.lines ∧ State.reset.queueActive = false
      ∧ u.lineQueue.assembly = some ⟨1, [0x10001, 6], false⟩ := by decide
/-- R111, R113: the write of lane 0 of a queued tag makes the line unusable and raises TAG; that of a tag in assembly only
changes the word read. -/
theorem test_coherence_notice :
    (answer (exec (.downstreamComplete ⟨0, false, false⟩ 0) (noticing 0))).map (fun t => (t.lineQueue.lines, t.flag .tag))
      = some ([⟨0, [0x100FF, 5, 7], false⟩], true)
    ∧ (answer (exec (.downstreamComplete ⟨0, false, false⟩ 0) (noticing 1))).map
      (fun t => (t.lineQueue.assembly.map (·.words), t.flag .tag)) = some (some [0x100FF, 6], false) := by decide

/-- A pass of take 1 with line 0 queued and SOURCE COMMAND on axis 1. -/
def replaying (mode : PassMode) (st : PassState) : State :=
  let s := inPass mode st (withAxes (withTake 1 readyTake State.reset))
  let s := s.onAxis 1 fun ax =>
    { ax with entry := { ax.entry with processing := { ax.entry.processing with source := .command } } }
  { s with lineQueue := ⟨some geometry, [⟨0, [0x10000, 5, 7], true⟩], none, some 1, some 0⟩ }

theorem test_witness_TargetWriteInPassIsHeld :
    let u := (replaying .replay .complete).elapse 0
    let w := (replaying .witness .running).elapse 0
    u.memory.upstream = none ∧ u.targetAxis ((0x40001 : BitVec 22).toNat * 4) = some 1
      ∧ u.pass.context = some (context .replay) ∧ (context .replay).tracks.getLsbD 1 = true
      ∧ u.lineQueue.geometry = some geometry ∧ u.lineQueue.currentLine = some 0 ∧ u.pass.state = .complete
      ∧ w.pass.state = .running ∧ (w.axis 1).entry.processing.source = .command ∧ (context .witness).mode = .witness := by
  decide
/-- R109, R117: the write is held with the copies of its lines, line 1 missing is one starvation. -/
theorem test_write_held :
    (answer (exec (.upstreamTransactionTaken ⟨0, false⟩ true 0x40001 0xF 0x00800000) (replaying .replay .armed))).map
      (fun t => (t.writeInProcessing.map (·.value), t.interpolator.inFlight.map fun r =>
        (r.place, r.slots.map fun x => x.line.isSome), t.flag .starve))
      = some (some 8388607, some (2, [true, true, false, false]), true) := by decide

theorem test_witness_BoundsKeepSoftLimits :
    let p : Processing := ⟨-5, 5, 2, 0, .none, 16384, 0⟩
    p.min ≤ p.max ∧ p.min ≤ 5 ∧ 5 ≤ p.max ∧ (3 : Int) - p.step ≤ 5 ∧ 5 ≤ (3 : Int) + p.step ∧ p.step > 0
      ∧ (2 : Int) + p.step < 5 ∧ p.min ≤ (2 : Int) + p.step ∧ (-8 : Int) + p.step < p.min ∧ p.max < (8 : Int) - p.step := by decide
/-- R161, R162: at STEP 2 around 0, 5 is forwarded as 2 with STEPPED alone; 6 above MAX 5 sets CLAMP as well. -/
theorem test_bounds_step :
    let p : Processing := ⟨-5, 5, 2, 0, .none, 16384, 0⟩
    (applyBounds p (some 0) 5, applyBounds p (some 0) 6) = (⟨2, false, true⟩, ⟨2, true, true⟩) := by decide

theorem test_witness_TargetWriteNotHeld :
    let u := (withAxes State.reset).elapse 0
    u.memory.upstream = none ∧ u.targetAxis ((0x40000 : BitVec 22).toNat * 4) = some 0 ∧ u.pass.state = .idle
      ∧ u.inRegion ((0x40000 : BitVec 22).toNat * 4) = false ∧ (context .replay).tracks.getLsbD 2 = false
      ∧ (context .record).mode ≠ .replay ∧ (replaying .witness .parked).pass.state ≠ .running
      ∧ (replaying .record .running).entry 1 = some readyTake := by decide
/-- R159, R162, R37: a write of a RECORD pass is bounded at once, and its clamp counts in the summary and RECORD_INFO. -/
theorem test_record_clamp :
    let s := inPass .record .running (withAxes (withTake 1
      { readyTake with state := .recording, recordInfo := some ⟨2083333, 4096, 0, 0⟩ } State.reset))
    let s := withPass (fun p => { p with summary := some (newSummary .record 1 0) }) s
    let s := s.onAxis 1 fun ax => { ax with entry := { ax.entry with processing := ⟨-5, 5, 0, 0, .none, 16384, 0⟩ } }
    (answer (exec (.upstreamTransactionTaken ⟨0, false⟩ true 0x40001 0xF 9) s)).map
      (fun t => ((t.axis 1).lastForwarded, t.pass.summary.map (·.clamps),
        (t.entry 1).bind fun e => e.recordInfo.map (·.clamps))) = some (some 5, some 1, some 1) := by decide

theorem test_witness_AxisCommandsWriteAxes_set :
    let s := atCode (withAxes State.reset)
    let e (t : Nat) : AxisEntry := ⟨true, t, none, ⟨-1, 1, 8388607, 0, .command, 16384, 0⟩⟩
    s.axes.length = 16 ∧ s.addressConflict 15 (e 0x200000) = false ∧ s.pass.state = .idle
      ∧ (let r := inPass .witness .running s
         (r.axis 1).entry.enabled = (e 0x100004).enabled ∧ (r.axis 1).entry.targetAddr = 0x100004
           ∧ (r.axis 1).entry.feedbackAddr = (e 0x100004).feedbackAddr ∧ r.addressConflict 1 (e 0x100004) = false) := by
  decide

theorem test_witness_AxisCommandsWriteAxes_clear : (atCode State.reset).axes.length = 16 := by decide

/-! #### The pass controller -/

theorem test_witness_RecordArmStartsPass :
    let s := atCode (withAxes (withTake 1 readyTake State.reset))
    s.directory.entries.length = 32 ∧ s.pass.state = .idle ∧ s.entry 2 = none ∧ s.tracksEnabled 3 = true
      ∧ s.extentCheck 2 0x810000 (max 1 (min (100 : BitVec 24).toNat 1048576)) (trackCount 3) = none
      ∧ (1 : Byte) = codeByte Trigger.camera.codeNat := by decide

theorem test_witness_ReadArmsStartPass :
    let s := atCode (withAxes (withTake 1 readyTake State.reset))
    s.entry 1 = some readyTake ∧ readyTake.state = .ready ∧ s.tracksEnabled readyTake.tracks = true
      ∧ (9 : BitVec 16).toNat * readyTake.k < readyTake.lines ∧ (2 : Byte) = codeByte Interp.cubic.codeNat
      ∧ (2 : Byte) = codeByte Policy.stop.codeNat ∧ (0 : Byte) = codeByte Trigger.immediate.codeNat := by decide
/-- R53, R54: an armed replay fetches from its start line, s0 − 1 or 0. -/
theorem test_replayArm_starts_fetch :
    (answer (exec (.replayArm 1 9 4096 1 0 0 0 0 0) (atCode (withAxes (withTake 1 readyTake State.reset))))).map
      (fun t => (t.pass.state, t.lineQueue.assembly.map (·.index), t.memory.downstream.map (·.address)))
      = some (.armed, some 8, some 0x800060) := by decide
/-- R100: an alias is armed with its own number, LINES and OFFSET and its root's number and BASE. -/
theorem test_witness_ReadArmsStartPass_alias :
    let s := atCode ((withAxes (withTake 1 readyTake State.reset)).setEntry 2
      (some { readyTake with kind := .aliasOf 1 3, lines := 4 }))
    s.entry 2 = some { readyTake with kind := .aliasOf 1 3, lines := 4 } ∧ s.entry 1 = some readyTake
      ∧ (answer (exec (.replayArm 2 0 4096 1 0 0 0 0 0) s)).bind (·.lineQueue.geometry) = some ⟨2, 4, 1, 0x800000, 2, 3⟩ := by
  decide

theorem test_witness_StopParkResume :
    let s := inPass .witness .parked State.reset
    s.pass.state = .parked ∧ s.pass.context = some (context .witness) ∧ (context .witness).resumePreroll = 0
      ∧ 0 < ({ context .witness with resumePreroll := 255 } : PassContext).resumePreroll := by decide

theorem test_witness_PrerollCountsAndCameraCuts :
    let s := withPass (fun p => { p with preroll := some ⟨0 + 1, .first⟩ }) (inPass .replay .preroll State.reset)
    s.pass.state = .preroll ∧ s.pass.preroll = some ⟨0 + 1, .first⟩ ∧ s.mode ≠ some .record := by decide

/-- A pass of a mode in a state under TRIGGER CAMERA. -/
def byCamera (mode : PassMode) (st : PassState) : State :=
  withPass (fun p => { p with context := some { context mode with trigger := .camera } }) (inPass mode st State.reset)

theorem test_witness_PrerollCountsAndCameraCuts_declarations :
    let s := withPass (fun p => { p with preroll := some ⟨3, .resume⟩ }) (byCamera .replay .preroll)
    s.pass.context = some { context .replay with trigger := .camera } ∧ s.pass.preroll = some ⟨3, .resume⟩
      ∧ (1 : Byte).getLsbD 0 = true ∧ (2 : Byte).getLsbD 0 = false
      ∧ (byCamera .record .parked).pass.state = .parked ∧ (context .replay).trigger = .immediate := by decide
/-- A boundary of a LOCK state at position p, made with an advance or at the limit. -/
def boundary (lock : LockState) (p : Nat) (advanced limit : Bool) : HandedOn := ⟨.flywheel, lock, some p, advanced, limit⟩

/-- R59, R79: a fall of ROLL taken before the boundary ends the pre-roll, taken after it finds the pass RUNNING, a cut. -/
theorem test_fall_of_roll_at_preroll_end :
    let s := withPass (fun p => { p with preroll := some ⟨1, .first⟩ }) (byCamera .replay .preroll)
    let b := boundary .free 0 false false
    ((s.controllerBoundary 3 0 true b).pass.state, (s.controllerBoundary 3 0 false b).pass.state,
      (s.controllerBoundary 3 0 false b).pass.pending) = (.armed, .running, some .cut) := by decide

/-- Take 1 of ten lines armed at line 0, lines 0 to n − 1 queued. -/
def armedWith (mode : PassMode) (n : Nat) : State :=
  let s := inPass mode .armed (withTake 1 { readyTake with state := .recording } State.reset)
  withPass (fun p => { p with hasRun := false }) { s with
    recording := { s.recording with isOpen := true }
    lineQueue := ⟨some geometry, (List.range n).map fun i => ⟨i, [], true⟩, none, some n, some 0⟩ }

theorem test_witness_ArmedBoundaryEvaluatesTrigger :
    let s := armedWith .record 0
    s.pass.state = .armed ∧ s.pass.context = some (context .record) ∧ s.timebase.position = some 0
      ∧ s.timebase.nextPoint = 0 ∧ s.recording.isOpen = true ∧ s.recording.queue = [] ∧ s.pass.hasRun = false
      ∧ s.entry 1 = some { readyTake with state := .recording } ∧ (context .record).preroll = 0
      ∧ (armedWith .replay 3).lineQueue.lines.map (·.index) = [0, 1, 2]
      ∧ (armedWith .replay 2).lineQueue.lines.map (·.index) = [0, 1] := by decide
/-- R55, R56: lines 0 to 2 make a replay at line 0 ready, lines 0 and 1 do not; a RECORD pass captures line 0. -/
theorem test_armed_boundary :
    let b := boundary .free 0 false false
    (((armedWith .replay 3).passBoundary b).pass.state, ((armedWith .replay 2).passBoundary b).pass.state,
      ((armedWith .record 0).passBoundary b).recording.queue.length) = (.running, .armed, 1) := by decide

theorem test_witness_RunningBoundaryEndsOrApplies :
    let s := replaying .replay .running
    s.pass.context = some (context .replay) ∧ s.lineQueue.geometry = some geometry
      ∧ (geometry.lines - 1) * 65536 ≤ (some (9 * 65536)).getD 0 * (context .replay).k
      ∧ ¬ (geometry.lines - 1) * 65536 ≤ (some (9 * 65536 - 1)).getD 0 * (context .replay).k
      ∧ (context .record).length = some 0 ∧ (inPass .record .running State.reset).timebase.advances ≠ 65536
      ∧ (replaying .replay .parked).pass.hasRun = true := by decide
/-- R66, R47: the first S at the last line ends the pass and counts for its take; one unit before, or at a boundary without
an advance, a PARK is applied. -/
theorem test_end_of_take :
    let s := withPass (fun q => { q with pending := some .park }) (replaying .replay .running)
    let t (p : Nat) (advanced : Bool) : State := s.passBoundary (boundary .free p advanced false)
    ((t (9 * 65536) true).pass.state, ((t (9 * 65536) true).entry 1).map (·.passCount),
      (t (9 * 65536 - 1) true).pass.state, (t (9 * 65536) false).pass.state) = (.complete, some 1, .parked, .parked) := by
  decide

theorem test_witness_PassReturnsToIdle_abort :
    let s := inPass .record .running (withTake 1 { readyTake with state := .recording, written := 3 } State.reset)
    s.pass.state ≠ .idle ∧ s.directory.entries.length = 32 ∧ s.pass.context = some (context .record)
      ∧ s.entry 1 = some { readyTake with state := .recording, written := 3 } := by decide
/-- R38, R70: an aborted recording keeps the three lines written. -/
theorem test_abort_keeps_lines :
    (answer (exec .abort (atCode (inPass .record .running
      (withTake 1 { readyTake with state := .recording, written := 3 } State.reset))))).map
        (fun t => (t.entry 1).map fun e => (e.state, e.lines, e.truncated, e.guarded))
      = some (some (.ready, 3, true, true)) := by decide

theorem test_witness_PassReturnsToIdle_clear : (inPass .replay .complete State.reset).pass.state = .complete := by decide

/-! #### Recording, line queue, interpolator, witness unit -/

theorem test_witness_TakeEngineTransactions :
    let d : DownstreamTxn := ⟨.recordWrite, 0x800000, true, 0xF, 0, false, false⟩
    let s := withTake 1 { readyTake with state := .recording } recordingAt
    let u : State := { s with
      recording := { s.recording with queue := [⟨0, [0, 0], ⟨false, false, false, false⟩⟩], writer := some ⟨0, true⟩ }
      memory := { s.memory with downstream := some d } }
    (u.elapse 0).memory.downstream = some d ∧ (u.elapse 0).pass.state = .running
      ∧ (u.elapse 0).pass.context = some (context .record) ∧ (u.elapse 0).recording.writer = some ⟨0, true⟩
      ∧ (u.elapse 0).entry 1 = some { readyTake with state := .recording } := by decide

/-- An ENDING RECORD pass whose last line's tag write is in flight, two lines written before it. -/
def draining : State :=
  let s := inPass .record .ending (withTake 1 { readyTake with state := .recording, written := 2 } State.reset)
  { s with
    recording := { s.recording with queue := [⟨2, [0, 0], ⟨false, false, false, false⟩⟩], writer := some ⟨0, true⟩ }
    memory := { s.memory with downstream := some ⟨.recordWrite, 0x800018, true, 0xF, 0, false, false⟩ } }

/-- R92, R201: the tag word of line 300 of take 5 captured with CLAMPED is 0x0205012C, written at word 0 of its line. -/
theorem test_writer_tag :
    let s := withPass (fun p => { p with context := some { context .record with take := 5 } }) recordingAt
    let s : State := { s with recording := { s.recording with
      queue := [⟨300, [1, -1], ⟨false, true, false, false⟩⟩], writer := some ⟨0, false⟩ } }
    (s.takeRequest.map fun r => (r.address, r.data)) = some (0x800000 + 300 * 12, 0x0205012C) := by decide

theorem test_witness_TakeEngineTransactions_drain :
    let u := draining.elapse 0
    u.memory.downstream = some ⟨.recordWrite, 0x800018, true, 0xF, 0, false, false⟩ ∧ u.pass.state = .ending
      ∧ u.recording.writer = some ⟨0, true⟩ ∧ u.recording.queue.tail = [] ∧ u.pass.context = some (context .record)
      ∧ u.entry 1 = some { readyTake with state := .recording, written := 2 } := by decide
/-- R94: the drain makes the take READY with three lines; an ABORT before a late drain report makes it TRUNCATED. -/
theorem test_drain_and_abort :
    let late := (answer (exec (.downstreamComplete ⟨0, true, false⟩ 0) draining)).map atCode
    ((answer (exec (.downstreamComplete ⟨0, false, false⟩ 0) draining)).bind fun t => (t.entry 1).map fun e =>
        (t.pass.state, e.state, e.lines, e.truncated)) = some (.complete, .ready, 3, false)
      ∧ late.map (fun t => (t.due, t.recording.queue)) = some ([.drain], [])
      ∧ ((late.bind fun t => answer (exec .abort t)).bind fun t => (t.entry 1).map fun e =>
        (t.pass.state, e.state, e.lines, e.truncated)) = some (.idle, .ready, 3, true) := by decide

/-- A WITNESS pass of take 1 with two of the three words of line 0 read and the third in flight. -/
def fetching : State :=
  let s := inPass .witness .armed (withTake 1 readyTake State.reset)
  { s with lineQueue := ⟨some geometry, [], some ⟨0, [0x10000, 5], true⟩, some 1, some 0⟩
           memory := { s.memory with downstream := some ⟨.fetchRead, 0x800008, false, 0xF, 0, false, false⟩ } }

theorem test_witness_TakeEngineTransactions_requests :
    let f : State := { fetching with lineQueue := { fetching.lineQueue with assembly := some ⟨0, [0x10000, 5], false⟩ } }
    let v := withMemory (fun m => { m with downstream := none }) (verifying 10)
    f.recording.writer = none ∧ f.takeRequest.map (·.address) = some 0x800008 ∧ v.lineQueue.geometry = none
      ∧ v.entry 1 = some { readyTake with state := .verifying } ∧ v.takeRequest.map (·.address) = some 0x800000 := by decide

theorem test_witness_FetchedLineEntersQueue :
    let u := fetching.elapse 0
    u.memory.downstream = some ⟨.fetchRead, 0x800008, false, 0xF, 0, false, false⟩ ∧ u.lineQueue.geometry = some geometry
      ∧ u.lineQueue.assembly = some ⟨0, [0x10000, 5], true⟩
      ∧ ([0x10000, 5, (7 : Word)]).length = 1 + geometry.trackCount ∧ u.pass.state ≠ .idle
      ∧ ([0x10000, (5 : Word)]).length ≠ 1 + geometry.trackCount ∧ u.lineQueue.nextFetch = some 1 ∧ 1 < geometry.lines := by decide
/-- R103: the line that enters is usable and the next fetch goes on with line 1. -/
theorem test_fetched_line :
    (answer (exec (.downstreamComplete ⟨0, false, false⟩ 7) fetching)).map (fun t => (t.lineQueue.lines, t.lineQueue.assembly))
      = some ([⟨0, [0x10000, 5, 7], true⟩], some ⟨1, [], true⟩) := by decide
/-- R102: the read of the first sample leaves the line in assembly with two words. -/
theorem test_intermediate_word :
    let s : State := { fetching with lineQueue := { fetching.lineQueue with assembly := some ⟨0, [0x10000], true⟩ } }
    (answer (exec (.downstreamComplete ⟨0, false, true⟩ 5) s)).map
      (fun t => (t.lineQueue.lines, t.lineQueue.assembly.map (·.words), t.lineQueue.nextFetch))
      = some ([], some [0x10000, 5], some 1) := by decide
/-- R106: an evaluation at line 7 abandons line 0 in assembly and restarts at line 6; at line 2 it keeps going on. -/
theorem test_fetch_restart :
    fetching.lineQueue.assembly.map (·.index) = some 0 ∧ fetching.lineQueue.nextFetch = some 1
      ∧ ((fetching.evaluateLine 7).lineQueue.assembly, (fetching.evaluateLine 7).lineQueue.nextFetch,
        (fetching.evaluateLine 7).memory.downstream.map (·.discard)) = (none, some 6, some true)
      ∧ (fetching.evaluateLine 2).lineQueue.assembly = fetching.lineQueue.assembly := by decide

theorem test_witness_EvaluationRetiresLines :
    fetching.lineQueue.geometry = some geometry ∧ fetching.lineQueue.currentLine = some 0 := by decide

/-- An interpolation of axis 1 in flight for a write of 100, at line 0 exactly, with line 0 queued. -/
def interpolating : State :=
  let s := inPass .replay .running (withAxes State.reset)
  let i : InterpRequest :=
    ⟨1, .replay, .step, .position 0, 0, 0,
      [⟨0, some ⟨0, [0x10000, 5, 7], true⟩⟩, ⟨0, some ⟨0, [0x10000, 5, 7], true⟩⟩, ⟨1, none⟩, ⟨2, none⟩], 16384, 0, 2⟩
  let x : UpstreamTxn :=
    { upstreamRead 0x100004 with write := true, cls := .target, axis := some 1, phase := .atAxis }
  { s with
    interpolator := { s.interpolator with inFlight := some i }
    writeInProcessing := some ⟨1, 100, .replay, false⟩
    memory := { s.memory with upstream := some x } }

theorem test_witness_InterpolationEndHandsBack :
    let u := interpolating.elapse 0
    u.interpolator.inFlight.isSome = true ∧ u.writeInProcessing = some ⟨1, 100, .replay, false⟩ ∧ 1 < u.axes.length
      ∧ u.memory.upstream.map (·.cls) = some .target ∧ u.inRegion 0x100004 = false ∧ u.pass.state = .running
      ∧ u.mode = some .replay ∧ 1 < u.witness.axes.length := by decide
/-- R164: the written 100 is compared with the interpolator's 7. -/
theorem test_command_comparison :
    (answer (exec (.interpolationEnd ⟨0, false, true⟩)
      { interpolating with writeInProcessing := some ⟨1, 100, .replay, true⟩ })).map
        (fun t => ((t.witnessAxis 1).worst, t.due)) = some (some 93, [.slot]) := by decide
/-- R118, R123, R127: STEP at line 0 forwards that line's sample of the axis's track, 7. -/
theorem test_step_replay :
    (answer (exec (.interpolationEnd ⟨0, false, false⟩) interpolating)).map
      (fun t => ((t.axis 1).lastForwarded, t.memory.downstream.map (·.data))) = some (some 7, some 7) := by decide
/-- The interpolation of axis 1 with OFFSET at the greatest value, which takes its sum out of the range. -/
def saturating : State :=
  { interpolating with interpolator := { interpolating.interpolator with
    inFlight := interpolating.interpolator.inFlight.map fun r => { r with offset := 8388607 } } }
/-- R127, R130: its saturation sets SAT and SATURATE, and the record shows it and the slots used. -/
theorem test_interpolation_saturates :
    ((answer (exec (.interpolationEnd ⟨0, false, false⟩) saturating)).map fun t => ((t.axis 1).sat, t.flag .saturate))
        = some (true, true)
      ∧ ((answer (exec (.interpolationEnd ⟨0, false, false⟩) saturating)).bind fun t => t.interpolator.lastEval.map fun e =>
        (e.saturated, e.slots.map (·.used))) = some (true, [some (-1), some 0, some 0, some 0]) := by decide

theorem test_witness_ComparisonStepsConformance :
    let s := inPass .witness .running State.reset
    15 < s.witness.axes.length ∧ s.takesComparisons = true ∧ 0 ≤ (s.axis 15).entry.processing.tol := by decide

theorem test_witness_InterpolationFormsValue :
    let r : InterpRequest := ⟨1, .replay, .cubic, .position 0, 0, 65535, [⟨0, none⟩, ⟨0, some ⟨0, [], true⟩⟩, ⟨1, none⟩, ⟨2, none⟩],
      1, 0, 1⟩
    r.slots.length = 4 ∧ (0 : Int) ≤ 65535 ∧ (65535 : Int) < 65536
      ∧ true ∈ (r.slots.map fun sl => sl.line.any (·.usable))
      ∧ true ∉ (([⟨0, none⟩, ⟨0, some ⟨0, [], false⟩⟩] : List SlotInput).map fun sl => sl.line.any (·.usable)) := by decide

/-- A WITNESS pass in RUNNING whose axes 2 and 15 had bad comparisons, n records in the log. -/
def closing (n : Nat) : State :=
  let s := inPass .witness .running State.reset
  let s : State := { s with witness := { s.witness with
    frameStart := some ⟨4, 7⟩, log := List.replicate n ⟨0, 0, [⟨0, 1, 1, 1⟩]⟩ } }
  (s.onWitnessAxis 2 fun w => { w with worst := some (-9), count := 3, badCount := 2 }).onWitnessAxis 15 fun w =>
    { w with worst := some 5, count := 1, badCount := 1 }

theorem test_witness_WitnessFrameCloses :
    (closing 63).witness.frameStart = some ⟨4, 7⟩ ∧ (closing 63).witness.log.length < 64
      ∧ 64 ≤ (closing 64).witness.log.length ∧ 0 < ((closing 63).witnessAxis 15).badCount
      ∧ (inPass .witness .running State.reset).witness.axes.all (·.badCount == 0) = true := by decide
/-- R175, R177: the record of a closing boundary; a boundary not made in RUNNING closes nothing. -/
theorem test_frame_record :
    (((closing 0).witnessBoundary true ⟨5, 8⟩).witness.log, ((closing 0).witnessBoundary true ⟨5, 8⟩).witness.frameStart,
      ((closing 0).witnessBoundary false ⟨5, 8⟩).witness.log, (((closing 0).witnessBoundary false ⟨5, 8⟩).witnessAxis 2).count)
      = ([⟨4, 7, [⟨2, -9, 2, 3⟩, ⟨15, 5, 1, 1⟩]⟩], some ⟨5, 8⟩, [], 0) := by decide

/-- A WITNESS pass with POLICY PARK whose axis 3 has three bad marks, in a state. -/
def diverging (st : PassState) : State :=
  let s := withPass (fun p => { p with context := some { context .witness with policy := some .park } })
    (inPass .witness st State.reset)
  s.onWitnessAxis 3 fun w => { w with history := [.bad, .bad, .bad] }

theorem test_witness_ReportsReachPassController :
    let s : State := { diverging .running with due := [.divergence] }
    let t := (diverging .running).comparison 3 1 true
    s.due = .divergence :: [] ∧ s.pending = [] ∧ s.resetControl.inForce = false ∧ s.takesComparisons = true
      ∧ 3 < s.witness.axes.length ∧ (t.witnessAxis 3).state = .diverged ∧ ((diverging .running).witnessAxis 3).state ≠ .diverged
      ∧ (draining.entry 1).map (·.state) = some .recording ∧ draining.pass.state = .ending ∧ draining.recording.queue ≠ []
      ∧ (⟨true, true, true, true, true⟩ : BoundaryOrder).witnessLate = true
      ∧ (Delivery.controller (boundary .free 0 true false) 0 0 true false).isBoundary = true := by decide
/-- R183: a divergence report that comes late parks a pass in RUNNING and is dropped in a pass already PARKED. -/
theorem test_late_divergence :
    let late := (diverging .running).comparison 3 1 true
    (late.due, late.pass.pending, (late.deliver .divergence).pass.pending,
      (({ late with pass := { late.pass with state := .parked } } : State).deliver .divergence).pass.pending)
      = ([.divergence], none, some .park, none) := by decide

theorem test_witness_WitnessCommands :
    (15 : Byte).toNat < 16 ∧ 16 ≤ (16 : Byte).toNat ∧ 2 ≤ (2 : Byte).toNat ∧ (atCode State.reset).witness.log = [] := by decide
/-- R172: an INJECT beyond the range is clamped. -/
theorem test_inject_clamps :
    answered (exec (.inject 3 0 0x7FFFFFFF) (atCode State.reset)) = some (0x01, [3, 1, 0x00, 0xFF, 0xFF, 0xFF]) := by decide

/-- R145: an urgent take engine wins four slots, then pass-through wins one. -/
theorem test_arbiter_four_to_one :
    let x : UpstreamTxn := { upstreamRead 16 with phase := .waiting }
    let f : State := { fetching with lineQueue := { fetching.lineQueue with assembly := some ⟨0, [], false⟩ } }
    let s (n : Nat) := withMemory (fun m => { m with downstream := none, urgentRun := n, upstream := some x }) f
    ((s 3).arbitrate.memory.downstream.map (·.owner), (s 3).arbitrate.memory.urgentRun) = (some .fetchRead, 4)
      ∧ ((s 4).arbitrate.memory.downstream.map (·.owner), (s 4).arbitrate.memory.urgentRun) = (some .passThrough, 0) := by
  decide

end Sys2Proof.Machine
end

section
/-! Proofs about the take directory: the extent check (R31) and the verify read (R41). -/

namespace Sys2Proof.Machine

/-! ## Extents (R30, R31) -/

theorem rangesMeet_iff (a b : Nat × Nat) : rangesMeet a b = true ↔ a.1 < b.1 + b.2 ∧ b.1 < a.1 + a.2 :=
  decide_eq_true_iff

/-- Only a STORAGE entry has an extent (R30). -/
theorem TakeEntry.extent_eq_some_iff (e : TakeEntry) (ext : Nat × Nat) :
    e.extent = some ext ↔
      ∃ b g, e.kind = .storage b g ∧ ext = (b, e.lines * lineBytes (trackCount e.tracks)) := by
  cases h : e.kind <;> simp [TakeEntry.extent, h, eq_comm]

/-- The scan of R31 step 3 in terms of the extents it finds. -/
theorem Directory.meetsOther_iff_extent (d : Directory) (t : Nat) (range : Nat × Nat) :
    d.meetsOther t range = true ↔ ∃ i e ext, 1 ≤ i ∧ i ≤ 32 ∧ i ≠ t ∧ d.entry i = some e
      ∧ e.extent = some ext ∧ rangesMeet ext range = true := by
  simp only [Directory.meetsOther, List.any_eq_true, List.mem_range, Bool.and_eq_true, bne_iff_ne]
  constructor
  · rintro ⟨j, hj, hne, hmeet⟩
    split at hmeet
    next ext hext =>
      obtain ⟨e, hentry, hextent⟩ := Option.bind_eq_some_iff.1 hext
      exact ⟨j + 1, e, ext, by omega, by omega, hne, hentry, hextent, hmeet⟩
    next => cases hmeet
  · rintro ⟨i, e, ext, hpos, hle, hne, hentry, hextent, hmeet⟩
    obtain ⟨j, rfl⟩ := Nat.exists_eq_add_of_le' hpos
    exact ⟨j, by omega, hne, by simpa [hentry, hextent] using hmeet⟩

/-- The scan of R31 step 3 finds exactly the other STORAGE entries that share a byte with the range. -/
theorem Directory.meetsOther_iff (d : Directory) (t base bytes : Nat) :
    d.meetsOther t (base, bytes) = true ↔ ∃ i e b g, 1 ≤ i ∧ i ≤ 32 ∧ i ≠ t ∧ d.entry i = some e
      ∧ e.kind = .storage b g ∧ b < base + bytes ∧ base < b + e.lines * lineBytes (trackCount e.tracks) := by
  simp only [Directory.meetsOther_iff_extent, TakeEntry.extent_eq_some_iff, rangesMeet_iff]
  constructor
  · rintro ⟨i, e, _, hpos, hle, hne, hentry, ⟨b, g, hkind, rfl⟩, hmeet⟩
    exact ⟨i, e, b, g, hpos, hle, hne, hentry, hkind, hmeet⟩
  · rintro ⟨i, e, b, g, hpos, hle, hne, hentry, hkind, hmeet⟩
    exact ⟨i, e, _, hpos, hle, hne, hentry, ⟨b, g, hkind, rfl⟩, hmeet⟩

/-- Without a region no extent is granted (R31 step 1). -/
theorem State.extentCheck_of_noRegion (s : State) (t base lines n : Nat) (h : s.directory.regionSize = 0) :
    s.extentCheck t base lines n = some .noRegion := by
  simp [State.extentCheck, State.hasRegion, h]

/-- With a region, steps 2 and 3 of R31 answer OVERLAP and nothing else refuses. -/
theorem State.extentCheck_of_region (s : State) (t base lines n : Nat) (h : s.directory.regionSize ≠ 0) :
    s.extentCheck t base lines n =
      if (0x1000000 < base + lines * lineBytes n ∨ base < s.directory.regionBase * 65536
            ∨ (s.directory.regionBase + s.directory.regionSize) * 65536 < base + lines * lineBytes n)
          ∨ s.directory.meetsOther t (base, lines * lineBytes n) = true
      then some .overlap else none := by
  have hregion : (!s.hasRegion) ≠ true := by simpa [State.hasRegion] using h
  rw [State.extentCheck, if_neg hregion]
  simp only [Bool.or_eq_true, decide_eq_true_eq, or_assoc, ite_or]

/-- Settles O26: with a region the check is one condition, `outside ∨ shared`, that the scan decides. -/
theorem extentGrantedExactlyWhenFree : Obligations.ExtentGrantedExactlyWhenFree := by
  intro s t base lines n last outside shared
  have hshared : s.directory.meetsOther t (base, lines * lineBytes n) = true ↔ shared :=
    s.directory.meetsOther_iff t base _
  refine ⟨s.extentCheck_of_noRegion t base lines n, fun hregion hbad => ?_, fun hregion hin hfree => ?_⟩
  · rw [s.extentCheck_of_region t base lines n hregion]
    exact if_pos (hbad.imp_right hshared.2)
  · rw [s.extentCheck_of_region t base lines n hregion]
    exact if_neg (not_or_intro hin (hfree ∘ hshared.1))

/-! ## Flags an arbiter's decision leaves (R137, R141, R143) -/

/-- A flag is a fact of the port's flags alone. -/
theorem State.flag_congr {s t : State} (h : t.port.flags = s.port.flags) (ev : Event) : t.flag ev = s.flag ev := by
  simp [State.flag, h]

/-- A blocked write raises PARTIAL and no other flag (R137, R143). -/
@[simp] theorem State.flag_countPartial (s : State) (ev : Event) :
    s.countPartial.flag ev = (s.flag ev || decide (ev = .partialWrite)) :=
  State.flag_raise _ _ _

/-- A write blocked by protection raises PROTECT and no other flag (R141). -/
@[simp] theorem State.flag_countProtect (s : State) (addr : Nat) (ev : Event) :
    (s.countProtect addr).flag ev = (s.flag ev || decide (ev = .protect)) :=
  State.flag_raise _ _ _

section
variable (s : State) {ev : Event} (h1 : ev ≠ .protect) (h2 : ev ≠ .partialWrite)
include h1 h2

/-- The checks at the grant raise PARTIAL or PROTECT at most. -/
theorem State.flag_grantPassThrough (t : UpstreamTxn) : (s.grantPassThrough t).flag ev = s.flag ev := by
  unfold State.grantPassThrough
  split
  next => rw [State.flag_congr (s := s.countPartial) (by simp), State.flag_countPartial]; simp [h2]
  next => rw [State.flag_congr (s := s.countProtect t.address) (by simp), State.flag_countProtect]; simp [h1]
  next => exact State.flag_congr (by simp) ev

/-- One decision of the arbiter raises PARTIAL or PROTECT at most (R145). -/
theorem State.flag_arbitrate : s.arbitrate.flag ev = s.flag ev := by
  have htake (u : State) (r : DownstreamTxn) : (u.grantTake r).flag ev = u.flag ev := State.flag_congr (by simp) ev
  have hpass (t : UpstreamTxn) : ((s.setUrgentRun 0).grantPassThrough t).flag ev = s.flag ev :=
    State.flag_grantPassThrough _ h1 h2 t
  unfold State.arbitrate
  dsimp only
  (repeat' split) <;> simp only [htake, hpass]

theorem State.flag_settle : s.settle.flag ev = s.flag ev := by
  unfold State.settle
  split
  · exact s.flag_arbitrate h1 h2
  · rw [s.startFetch.flag_arbitrate h1 h2]
    exact State.flag_congr (by simp) ev

/-- The end of a bus row raises PARTIAL or PROTECT at most. -/
theorem State.flag_settleAt (late : Bool) : (s.settleAt late).flag ev = s.flag ev := by
  unfold State.settleAt
  split
  · exact State.flag_congr (by simp) ev
  · exact s.flag_settle h1 h2

end

/-! ## Entries and the end of a row -/

/-- An entry is a fact of the directory alone. -/
theorem State.entry_congr {s t : State} (h : t.directory = s.directory) (n : Nat) : t.entry n = s.entry n :=
  congrArg (Directory.entry · n) h

theorem State.settleAt_directory (s : State) (late : Bool) : (s.settleAt late).directory = s.directory := by simp

theorem State.entry_settleAt (s : State) (late : Bool) (n : Nat) : (s.settleAt late).entry n = s.entry n :=
  State.entry_congr (s.settleAt_directory late) n

theorem State.entry_onEntry_ne (s : State) (t n : Nat) (f : TakeEntry → TakeEntry) (h : n ≠ t) :
    (s.onEntry t f).entry n = s.entry n :=
  s.entry_setEntry_ne t n _ h

theorem State.entry_onEntry_self (s : State) (t : Nat) (e : TakeEntry) (f : TakeEntry → TakeEntry)
    (h : s.entry t = some e) : (s.onEntry t f).entry t = some (f e) := by
  obtain ⟨hpos, hle⟩ := s.entry_range t e h
  rw [State.onEntry, s.entry_setEntry_self t _ hpos hle, h, Option.map_some]

/-! ## The end of a scan (R41) -/

theorem freshCursor_eq (order : List Nat) : freshCursor order = if order = [] then none else some 0 := by
  simp [freshCursor]

@[simp] theorem State.verifyEnd_verifyOrder (s : State) (t : Nat) (f : TakeEntry → TakeEntry) :
    (s.verifyEnd t f).directory.verifyOrder = s.directory.verifyOrder.tail := by
  simp [State.verifyEnd]

@[simp] theorem State.verifyEnd_verifyCursor (s : State) (t : Nat) (f : TakeEntry → TakeEntry) :
    (s.verifyEnd t f).directory.verifyCursor = freshCursor s.directory.verifyOrder.tail := by
  simp [State.verifyEnd]

@[simp] theorem State.entry_verifyEnd (s : State) (t n : Nat) (f : TakeEntry → TakeEntry) :
    (s.verifyEnd t f).entry n = (s.onEntry t f).entry n := rfl

/-- The end of a scan raises VERIFY. -/
@[simp] theorem State.flag_verifyEnd (s : State) (t : Nat) (f : TakeEntry → TakeEntry) (ev : Event) :
    (s.verifyEnd t f).flag ev = (s.flag ev || decide (ev = .verify)) :=
  State.flag_raise _ _ _

/-! ## The completion of a verify read (R40, R41) -/

theorem tagGood_iff (tag : Word) (index take : Nat) :
    tagGood tag index take = true ↔ tag.toNat % 65536 = index % 65536 ∧ tag.toNat / 65536 % 64 = take := by
  simp [tagGood]

section
variable {s : State} {take i : Nat} {e : TakeEntry} {tag : Word}
  (hhead : s.directory.verifyOrder.head? = some take) (hcursor : s.directory.verifyCursor = some i)
  (hentry : s.entry take = some e)
include hhead hcursor hentry

/-- A good tag of a line before the last moves the cursor on, and nothing else changes. -/
theorem State.verifyReadComplete_of_next (hgood : tagGood tag i take = true) (hline : i + 1 < e.lines) :
    s.verifyReadComplete tag = { s with directory := { s.directory with verifyCursor := some (i + 1) } } := by
  simp [State.verifyReadComplete, hhead, hcursor, hentry, hgood, hline]

/-- A good tag of the last line ends the scan with the take READY. -/
theorem State.verifyReadComplete_of_last (hgood : tagGood tag i take = true) (hline : e.lines ≤ i + 1) :
    s.verifyReadComplete tag = s.verifyEnd take fun e => { e with state := .ready } := by
  simp [State.verifyReadComplete, hhead, hcursor, hentry, hgood, hline.not_gt]

/-- A bad tag ends the scan with the take REJECTED at the line read. -/
theorem State.verifyReadComplete_of_bad (hbad : tagGood tag i take = false) :
    s.verifyReadComplete tag = s.verifyEnd take fun e => { e with state := .rejected, failLine := some i } := by
  simp [State.verifyReadComplete, hhead, hcursor, hentry, hbad]

/-- Every read but a good one before the last line ends the scan. -/
theorem State.verifyReadComplete_ends (hends : tagGood tag i take = false ∨ e.lines ≤ i + 1) :
    ∃ f, s.verifyReadComplete tag = s.verifyEnd take f := by
  cases htag : tagGood tag i take with
  | false => exact ⟨_, State.verifyReadComplete_of_bad hhead hcursor hentry htag⟩
  | true => exact ⟨_, State.verifyReadComplete_of_last hhead hcursor hentry htag (by simpa [htag] using hends)⟩

/-- A verify read touches no entry but the scanned take's. -/
theorem State.entry_verifyReadComplete_ne {n : Nat} (hn : n ≠ take) : (s.verifyReadComplete tag).entry n = s.entry n := by
  by_cases hnext : tagGood tag i take = true ∧ i + 1 < e.lines
  · obtain ⟨htag, hline⟩ := hnext
    rw [State.verifyReadComplete_of_next hhead hcursor hentry htag hline]
    rfl
  · have hends : tagGood tag i take = false ∨ e.lines ≤ i + 1 := by
      rwa [not_and_or, Bool.not_eq_true, not_lt] at hnext
    obtain ⟨f, hend⟩ := State.verifyReadComplete_ends hhead hcursor hentry hends
    rw [hend, State.entry_verifyEnd, s.entry_onEntry_ne take n f hn]

end

/-- The completion of a verify read that is not discarded frees the port, judges the tag, and decides the slot (R41, R132,
R144). -/
theorem exec_downstreamComplete_verifyRead (s : State) (completion : Completion) (data : Word) (d : DownstreamTxn)
    (hd : (s.elapse completion.after).memory.downstream = some d) (howner : d.owner = .verifyRead)
    (hdiscard : d.discard = false) :
    let u := s.elapse completion.after
    exec (.downstreamComplete completion data) s = .next
      ((({ u with memory := { u.memory with downstream := none } } : State).verifyReadComplete data).settleAt
        completion.slotLate) := by
  simp [exec, execDownstreamComplete, State.completeDownstream, hd, howner, hdiscard]

/-- Settles O31: the row is the judgement of the tag followed by a decision of the slot, which leaves the directory and
VERIFY as they are; the judgement has the three cases of R41. -/
theorem verifyReadCompletes : Obligations.VerifyReadCompletes := by
  intro s after take i data late slotLate d e u hd howner hdiscard hhead hcursor hentry good
  let v : State := { u with memory := { u.memory with downstream := none } }
  have hgood : good ↔ tagGood data i take = true := (tagGood_iff data i take).symm
  have hbad : ¬ good ↔ tagGood data i take = false := by rw [hgood, Bool.not_eq_true]
  have hflag : ((v.verifyReadComplete data).settleAt slotLate).flag .verify = (v.verifyReadComplete data).flag .verify :=
    State.flag_settleAt _ (by decide) (by decide) slotLate
  have hself (f : TakeEntry → TakeEntry) : (v.onEntry take f).entry take = some (f e) :=
    v.entry_onEntry_self take e f hentry
  refine ⟨(v.verifyReadComplete data).settleAt slotLate,
    exec_downstreamComplete_verifyRead s ⟨after, late, slotLate⟩ data d hd howner hdiscard,
    fun htag hline => ?next, fun htag hline => ?last, fun htag => ?bad, fun hends => ?ended, fun n hn => ?others,
    by simp [v], by simp [v], by simp [v]⟩
  case next =>
    have hr := State.verifyReadComplete_of_next (s := v) hhead hcursor hentry (hgood.1 htag) hline
    rw [State.entry_settleAt, State.settleAt_directory, hflag, hr]
    exact ⟨hentry, rfl, rfl, rfl⟩
  case last =>
    have hr := State.verifyReadComplete_of_last (s := v) hhead hcursor hentry (hgood.1 htag) hline
    rw [State.entry_settleAt, hflag, hr]
    exact ⟨hself _, by simp⟩
  case bad =>
    have hr := State.verifyReadComplete_of_bad (s := v) hhead hcursor hentry (hbad.1 htag)
    rw [State.entry_settleAt, hflag, hr]
    exact ⟨hself _, by simp⟩
  case ended =>
    obtain ⟨f, hr⟩ := State.verifyReadComplete_ends (s := v) (tag := data) hhead hcursor hentry (hends.imp_left hbad.1)
    rw [State.settleAt_directory, hr, State.verifyEnd_verifyOrder, State.verifyEnd_verifyCursor, freshCursor_eq]
    exact ⟨rfl, rfl⟩
  case others =>
    rw [State.entry_settleAt]
    exact State.entry_verifyReadComplete_ne (s := v) hhead hcursor hentry hn

end Sys2Proof.Machine
end

section
/-! Proofs about the settings commands (R22, R27, R80). -/

namespace Sys2Proof.Machine

/-! ## A taken command -/

/-- In phase CODE a command is answered as its body says: an effect that leaves the frame received commutes with its
reception (R189, R190). -/
theorem State.takeCommand_eq_answered {s : State} {fr : Frame} {body : State → Answer} (hs : s.takesCommand)
    {t : State} {st : Status} {result : List Byte} (hbody : body (s.receive fr) = ⟨t.receive fr, st, result⟩) :
    s.takeCommand fr body = t.answered fr st result := by
  rw [s.takeCommand_code fr body hs, hbody]
  rfl

/-! ## SET CAMERA (R80) -/

theorem readCameraRule_codeByte (r : CameraRule) : readCameraRule (codeByte r.codeNat) = some r := by
  cases r <;> rfl

/-- Only 0 and 1 are codes of a rule. -/
theorem readCameraRule_of_two_le (b : Byte) (h : 2 ≤ b.toNat) : readCameraRule b = none := by
  rw [readCameraRule, if_neg (by rintro rfl; simp at h), if_neg (by rintro rfl; simp at h)]

/-- An accepted SET CAMERA keeps the receiver, the held and the declared word (R80). -/
theorem State.setCamera_of_rule (s : State) {rule : Byte} {r : CameraRule} (h : readCameraRule rule = some r) :
    s.setCamera rule =
      ⟨{ s with camera := { s.camera with rule := r, ring := [], wordCount := 0, errorCount := 0 } }, .ok, [rule]⟩ := by
  rw [State.setCamera, h]

theorem State.setCamera_of_none (s : State) {rule : Byte} (h : readCameraRule rule = none) :
    s.setCamera rule = refuse s .range := by
  rw [State.setCamera, h]

/-! ## SET TIMEBASE (R21, R22) -/

/-- ADJUSTED says that the value stored is not the value given (R192). -/
theorem okOr_bne {α : Type} [DecidableEq α] (a b : α) : okOr (a != b) = if a = b then .ok else .adjusted := by
  by_cases h : a = b <;> simp [okOr, h]

/-- In PREROLL, RUNNING and PARKED the settings stay (R22). -/
theorem State.setTimebase_of_busy (s : State) (n w h : Nat)
    (hpass : s.pass.state = .preroll ∨ s.pass.state = .running ∨ s.pass.state = .parked) :
    s.setTimebase n w h = refuse s .busy :=
  if_pos hpass

/-- In every other pass state the clamped values become the pending settings (R21, R22). -/
theorem State.setTimebase_of_free (s : State) (n w h : Nat)
    (hpass : ¬ (s.pass.state = .preroll ∨ s.pass.state = .running ∨ s.pass.state = .parked)) :
    s.setTimebase n w h =
      let p := clampSettings n w h
      ⟨{ s with timebase := { s.timebase with pending := some p } }, if p = ⟨n, w, h⟩ then .ok else .adjusted, p.bytes⟩ := by
  simp only [State.setTimebase, if_neg hpass, okOr_bne]

/-! ## SET REGION (R27) -/

/-- No entry counts as in use exactly when every entry is FREE. -/
theorem Directory.inUse_eq_zero_iff (d : Directory) : d.inUse = 0 ↔ ∀ e ∈ d.entries, e = none := by
  simp [Directory.inUse, List.countP_eq_zero]

/-- The byte address lies in the region of `size` units of 64 KB from unit `base` on (R26). -/
def insideUnits (base size a : Nat) : Prop := base * 65536 ≤ a ∧ a < (base + size) * 65536

theorem State.regionMeetsAxis_iff (s : State) (base size : Nat) :
    s.regionMeetsAxis base size = true ↔ ∃ ax ∈ s.axes, ax.entry.enabled = true ∧
      (insideUnits base size ax.entry.targetAddr ∨ ∃ f, ax.entry.feedbackAddr = some f ∧ insideUnits base size f) := by
  simp only [State.regionMeetsAxis, List.any_eq_true, Bool.and_eq_true, Bool.or_eq_true, insideUnits, decide_eq_true_eq]
  refine exists_congr fun ax => and_congr_right fun _ => and_congr_right fun _ => or_congr_right ?_
  cases ax.entry.feedbackAddr <;> simp

section
variable (s : State) (base size : Nat)

theorem State.setRegion_of_inUse (huse : s.directory.inUse ≠ 0) :
    s.setRegion base size = ⟨s, .busy, s.regionBytes⟩ :=
  if_pos (Nat.pos_of_ne_zero huse)

theorem State.setRegion_of_conflict (huse : s.directory.inUse = 0)
    (haxis : s.regionMeetsAxis base (min size (256 - base)) = true) :
    s.setRegion base size = ⟨s, .conflict, s.regionBytes⟩ := by
  simp [State.setRegion, huse, haxis]

theorem State.setRegion_of_free (huse : s.directory.inUse = 0)
    (haxis : s.regionMeetsAxis base (min size (256 - base)) ≠ true) :
    s.setRegion base size =
      let units := min size (256 - base)
      ⟨{ s with directory := { s.directory with regionBase := base, regionSize := units } },
        if size ≤ 256 - base then .ok else .adjusted, beBytes 1 base ++ beBytes 2 units⟩ := by
  simp [State.setRegion, huse, haxis, okOr_bne, State.regionBytes]

end

/-- Settles O25: each row is its body on the frame received, and each body has the cases of its rule. -/
theorem settingCommandsStore : Obligations.SettingCommandsStore := by
  refine ⟨?camera, ?timebase, ?region⟩
  case camera =>
    intro s rule hs
    refine ⟨fun r hr => ?_, fun hcode => ?_⟩
    · subst hr
      exact congrArg _ (State.takeCommand_eq_answered hs (State.setCamera_of_rule _ (readCameraRule_codeByte r)))
    · exact congrArg _ (State.takeCommand_eq_answered hs (State.setCamera_of_none _ (readCameraRule_of_two_le rule hcode)))
  case timebase =>
    intro s n w h hs fr p
    refine ⟨fun hpass => ?_, fun hpreroll hrunning hparked => ?_⟩
    · exact congrArg _ (State.takeCommand_eq_answered hs ((s.receive fr).setTimebase_of_busy _ _ _ hpass))
    · exact congrArg _ (State.takeCommand_eq_answered hs
        ((s.receive fr).setTimebase_of_free _ _ _ (not_or_intro hpreroll (not_or_intro hrunning hparked))))
  case region =>
    intro s base size hs fr units standing inside conflict
    have huse : (s.receive fr).directory.inUse = 0 ↔ ∀ e ∈ s.directory.entries, e = none :=
      s.directory.inUse_eq_zero_iff
    have haxis : (s.receive fr).regionMeetsAxis base.toNat units = true ↔ conflict :=
      s.regionMeetsAxis_iff base.toNat units
    refine ⟨fun hbusy => ?_, fun hfree hmeets => ?_, fun hfree hclear => ?_⟩
    · have hentry : ¬ ∀ e ∈ s.directory.entries, e = none := by simpa using hbusy
      exact congrArg _ (State.takeCommand_eq_answered hs (State.setRegion_of_inUse _ _ _ (hentry ∘ huse.1)))
    · exact congrArg _ (State.takeCommand_eq_answered hs (State.setRegion_of_conflict _ _ _ (huse.2 hfree) (haxis.2 hmeets)))
    · exact congrArg _ (State.takeCommand_eq_answered hs (State.setRegion_of_free _ _ _ (huse.2 hfree) (hclear ∘ haxis.1)))

end Sys2Proof.Machine
end

section
/-! Proofs about the camera status receiver at a boundary (R77, R78). -/

namespace Sys2Proof.Machine

/-! ## Words that agree (R77, R78) -/

/-- Two different items share the places of a list. -/
theorem count_add_count_le_length {α : Type} [BEq α] [LawfulBEq α] (l : List α) {a b : α} (h : a ≠ b) :
    l.count a + l.count b ≤ l.length := by
  have hb : l.count b ≤ l.countP fun x => !(x == a) :=
    List.countP_mono_left fun x _ hx => by simpa [eq_of_beq hx] using h.symm
  rw [l.length_eq_countP_add_countP (· == a)]
  simpa [List.count] using hb

theorem CameraRule.needed_pos (r : CameraRule) : 0 < r.needed := by cases r <;> decide

/-- The slots of a rule do not hold two words that both agree. -/
theorem CameraRule.capacity_lt (r : CameraRule) : r.capacity < r.needed + r.needed := by cases r <;> decide

/-- The ring after a slot is filed, by what is dropped of all slots (R77). -/
theorem Camera.fileSlot_ring (c : Camera) :
    c.fileSlot.ring = (c.ring ++ [c.held]).drop ((c.ring ++ [c.held]).length - c.rule.capacity) := by
  simp [Camera.fileSlot]

theorem Camera.agreeing_needed {c : Camera} {w : Byte} (h : c.agreeing = some w) :
    c.rule.needed ≤ c.ring.count (some w) := by
  simpa using List.find?_some h

/-- No word agrees when none stands in enough slots (R78). -/
theorem Camera.agreeing_of_none {c : Camera} (h : ∀ w : Byte, c.ring.count (some w) < c.rule.needed) :
    c.agreeing = none :=
  Option.eq_none_iff_forall_ne_some.2 fun w hw => (h w).not_ge (Camera.agreeing_needed hw)

/-- Of a ring within its capacity the word in enough slots is the one that agrees (R78). -/
theorem Camera.agreeing_of_needed {c : Camera} {w : Byte} (hring : c.ring.length ≤ c.rule.capacity)
    (h : c.rule.needed ≤ c.ring.count (some w)) : c.agreeing = some w := by
  have hmem : some w ∈ c.ring := List.count_pos_iff.1 (c.rule.needed_pos.trans_le h)
  cases hfound : c.agreeing with
  | none =>
    have hnone := List.find?_eq_none.1 hfound w (List.mem_filterMap.2 ⟨some w, hmem, rfl⟩)
    exact absurd h (by simpa using hnone)
  | some v =>
    by_contra hne
    have hv := Camera.agreeing_needed hfound
    have hboth := count_add_count_le_length c.ring hne
    have hcap := c.rule.capacity_lt
    omega

/-! ## The receiver at a boundary -/

/-- The receiver once it has taken a boundary: the slot filed, and the agreeing word, if any, declared (R77, R78). -/
def Camera.afterBoundary (c : Camera) : Camera :=
  { c.fileSlot with declared := c.fileSlot.agreeing.getD c.declared }

theorem State.cameraBoundary_camera (s : State) : s.cameraBoundary.camera = s.camera.afterBoundary := by
  unfold State.cameraBoundary Camera.afterBoundary
  dsimp only
  split
  next w hw =>
    rw [hw]
    split
    next hsame => rw [hsame]; rfl
    next => rfl
  next hnone => rw [hnone]; rfl

/-- The port hears of a boundary exactly when the declared word changes (R78). -/
theorem State.cameraBoundary_port (s : State) :
    s.cameraBoundary.port =
      if s.camera.afterBoundary.declared = s.camera.declared then s.port else (s.raise .camera).port := by
  unfold State.cameraBoundary Camera.afterBoundary
  dsimp only
  split
  next w hw =>
    rw [hw]
    split
    next hsame => rw [hsame]; exact (if_pos rfl).symm
    next hnew => exact (if_neg hnew).symm
  next hnone => rw [hnone]; exact (if_pos rfl).symm

theorem State.flag_cameraBoundary (s : State) :
    s.cameraBoundary.flag .camera =
      (s.flag .camera || decide (s.camera.afterBoundary.declared ≠ s.camera.declared)) := by
  by_cases h : s.camera.afterBoundary.declared = s.camera.declared
  · rw [State.flag_congr (s := s) (by rw [State.cameraBoundary_port, if_pos h])]
    simp [h]
  · rw [State.flag_congr (s := s.raise .camera) (by rw [State.cameraBoundary_port, if_neg h])]
    simp [h]

section
variable {c : Camera}

/-- A word in enough slots is declared (R78). -/
theorem Camera.afterBoundary_declared_of_needed {w : Byte} (h : c.rule.needed ≤ c.fileSlot.ring.count (some w)) :
    c.afterBoundary.declared = w := by
  rw [Camera.afterBoundary, Camera.agreeing_of_needed c.fileSlot_ring_length_le h]
  rfl

/-- When no word agrees the declared word stays (R78). -/
theorem Camera.afterBoundary_declared_of_none (h : ∀ w : Byte, c.fileSlot.ring.count (some w) < c.rule.needed) :
    c.afterBoundary.declared = c.declared := by
  rw [Camera.afterBoundary, Camera.agreeing_of_none h]
  rfl

end

/-! ## What each block may raise at a boundary (R10, R20, R50, R89, R178, R180, R193) -/

section
variable (s : State) {ev : Event}

theorem State.flag_report (f : Summary → Summary) (ev : Event) : (s.report f).flag ev = s.flag ev :=
  State.flag_congr (by simp) ev

section
variable (hlock : ev ≠ .lock)
include hlock

/-- A change of lock state raises LOCK alone (R10). -/
theorem State.flag_setLock (l : LockState) : (s.setLock l).flag ev = s.flag ev := by
  unfold State.setLock
  split
  · rfl
  · rw [State.flag_raise]
    simp [hlock, State.flag]

theorem State.flag_enterFree : s.enterFree.flag ev = s.flag ev :=
  State.flag_setLock _ hlock _

theorem State.flag_enterLocked : s.enterLocked.flag ev = s.flag ev :=
  State.flag_setLock _ hlock _

theorem State.flag_addMark (m : Mark) : (s.addMark m).flag ev = s.flag ev := by
  unfold State.addMark
  dsimp only
  split
  · exact State.flag_setLock _ hlock _
  · rfl

theorem State.flag_loseSync : s.loseSync.flag ev = s.flag ev :=
  (State.flag_enterFree _ hlock).trans (s.flag_report _ ev)

theorem State.flag_causeFlywheel : s.causeFlywheel.flag ev = s.flag ev := by
  unfold State.causeFlywheel
  dsimp only
  split
  · split
    · exact State.flag_loseSync _ hlock
    · rfl
  · rfl

end

/-- No boundary's cause reaches the camera status receiver or raises CAMERA. -/
theorem State.cause_receiver {cause : State → State}
    (hcause : cause ∈ [State.causeRelock, State.causePulse, State.causeSubstituted, State.causeFlywheel]) :
    (cause s).camera = s.camera ∧ (cause s).flag .camera = s.flag .camera := by
  have hlock : Event.camera ≠ .lock := by decide
  simp only [List.mem_cons, List.not_mem_nil, or_false] at hcause
  rcases hcause with rfl | rfl | rfl | rfl
  · exact ⟨by simp, (State.flag_addMark _ hlock _).trans (s.flag_enterLocked hlock)⟩
  · exact ⟨by simp, State.flag_addMark _ hlock _⟩
  · exact ⟨by simp, State.flag_addMark _ hlock _⟩
  · exact ⟨by simp, s.flag_causeFlywheel hlock⟩

section
variable (hpass : ev ≠ .pass)
include hpass

/-- A change of pass state raises PASS alone (R50). -/
theorem State.flag_setPass_of_ne (p : PassState) : (s.setPass p).flag ev = s.flag ev := by
  simp [State.flag_setPass, hpass]

theorem State.flag_endPass (o : PassOutcome) : (s.endPass o).flag ev = s.flag ev := by
  unfold State.endPass
  dsimp only
  split
  · exact State.flag_setPass_of_ne _ hpass _
  · rw [State.flag_setPass_of_ne _ hpass]
    exact State.flag_congr (by simp [State.emptySlot]) ev

theorem State.flag_reportCaptureEnd (o : PassOutcome) (p : Nat) : (s.reportCaptureEnd o p).flag ev = s.flag ev := by
  unfold State.reportCaptureEnd
  split
  · exact State.flag_endPass _ hpass o
  · rfl

theorem State.flag_drainCheck : s.drainCheck.flag ev = s.flag ev := by
  unfold State.drainCheck
  split
  · rw [State.flag_setPass_of_ne _ hpass]
    exact State.flag_congr (by simp) ev
  · rfl

theorem State.flag_drainReport (late : Bool) : (s.drainReport late).flag ev = s.flag ev := by
  unfold State.drainReport
  split
  · split <;> rfl
  · exact s.flag_drainCheck hpass

theorem State.flag_declarationReaches (old new : Byte) : (s.declarationReaches old new).flag ev = s.flag ev := by
  unfold State.declarationReaches
  split
  · split
    next => exact State.flag_setPass_of_ne _ hpass _
    all_goals rfl
  · rfl

section
variable (hover : ev ≠ .overrun)
include hover

/-- A capture raises OVERRUN or ends the pass (R89, R90). -/
theorem State.flag_captureLine (c : PassContext) (p j : Nat) (co : Bool) :
    (s.captureLine c p j co).flag ev = s.flag ev := by
  have happend (line : RecordLine) : ((s.appendLine line).clearMarkers (trackList c.tracks)).flag ev = s.flag ev :=
    State.flag_congr (by simp) ev
  unfold State.captureLine
  split
  · rfl
  · split
    · rw [State.flag_reportCaptureEnd _ hpass, State.flag_raise]
      simp [hover, State.flag, State.closeRecording]
    · dsimp only
      split
      · exact (State.flag_reportCaptureEnd _ hpass _ _).trans (happend _)
      · exact happend _

theorem State.flag_captureGroup (c : PassContext) (p n : Nat) : ∀ (s : State) (j : Nat) (co : Bool),
    (s.captureGroup c p n j co).flag ev = s.flag ev := by
  induction n with
  | zero => exact fun _ _ _ => rfl
  | succ n ih => exact fun s j co => (ih _ _ _).trans (s.flag_captureLine hpass hover c p j co)

theorem State.flag_raisePoints (p : Nat) : (s.raisePoints p).flag ev = s.flag ev := by
  unfold State.raisePoints
  split
  · split
    · dsimp only
      split
      · exact State.flag_captureGroup hpass hover _ _ _ _ _ _
      · rfl
    · rfl
  · rfl

theorem State.flag_enterRunning : s.enterRunning.flag ev = s.flag ev := by
  unfold State.enterRunning
  dsimp only
  rw [State.flag_raisePoints _ hpass hover, State.flag_setPass_of_ne _ hpass]
  exact State.flag_congr (by simp) ev

theorem State.flag_applyPending : s.applyPending.flag ev = s.flag ev := by
  unfold State.applyPending
  split
  next r _ =>
    cases r with
    | stop => exact s.flag_endPass hpass _
    | cut => exact s.flag_endPass hpass _
    | divergedStop => exact s.flag_endPass hpass _
    | park => exact State.flag_setPass_of_ne _ hpass _
    | resume => exact s.flag_enterRunning hpass hover
  next => rfl

/-- A boundary at the pass controller raises PASS or OVERRUN at most (R56, R57, R60). -/
theorem State.flag_passBoundary (b : HandedOn) : (s.passBoundary b).flag ev = s.flag ev := by
  unfold State.passBoundary
  split
  case h_1 => -- ARMED
    split
    · split
      · exact s.flag_enterRunning hpass hover
      · exact State.flag_setPass_of_ne _ hpass _
    · rfl
  case h_2 => -- PREROLL
    split
    · split
      · exact s.flag_enterRunning hpass hover
      · rfl
    · exact s.flag_enterRunning hpass hover
  case h_3 => -- RUNNING
    split
    · exact s.flag_endPass hpass _
    · exact s.flag_applyPending hpass hover
  case h_4 => exact s.flag_applyPending hpass hover -- PARKED
  case h_5 => rfl -- IDLE, ENDING, COMPLETE

theorem State.flag_controllerBoundary (old new : Byte) (first : Bool) (b : HandedOn) :
    (s.controllerBoundary old new first b).flag ev = s.flag ev := by
  unfold State.controllerBoundary
  split
  · exact s.flag_passBoundary hpass hover b
  · split
    · exact (State.flag_passBoundary _ hpass hover b).trans (s.flag_declarationReaches hpass old new)
    · exact (State.flag_declarationReaches _ hpass old new).trans (State.flag_passBoundary _ hpass hover b)

end

end

/-- A change of the offset raises SLIP alone (R20). -/
theorem State.flag_updateOffset (hslip : ev ≠ .slip) : s.updateOffset.flag ev = s.flag ev := by
  unfold State.updateOffset
  dsimp only
  split
  · rfl
  · rw [State.flag_report, State.flag_raise]
    simp [hslip, State.flag]

section
variable (hlog : ev ≠ .devlog) (hlost : ev ≠ .devlost)
include hlog hlost

/-- A deviation record raises DEVLOG or DEVLOST at most (R178, R180). -/
theorem State.flag_appendDeviation (r : DeviationRecord) : (s.appendDeviation r).flag ev = s.flag ev := by
  have hreport := s.flag_report Summary.addRecord ev
  unfold State.appendDeviation
  dsimp only
  split
  · rw [State.flag_followLog, if_neg hlog]
    exact hreport
  · rw [State.flag_report, State.flag_raise, decide_eq_false hlost, Bool.or_false]
    exact hreport

theorem State.flag_closeFrame : s.closeFrame.flag ev = s.flag ev := by
  unfold State.closeFrame
  dsimp only
  split
  · rfl
  · exact s.flag_appendDeviation hlog hlost _

theorem State.flag_witnessBoundary (closes : Bool) (start : FrameStart) :
    (s.witnessBoundary closes start).flag ev = s.flag ev := by
  have hclose : (if closes = true then s.closeFrame else s).flag ev = s.flag ev := by
    split
    · exact s.flag_closeFrame hlog hlost
    · rfl
  unfold State.witnessBoundary
  generalize (if closes = true then s.closeFrame else s) = u at hclose ⊢
  dsimp only
  split <;> exact hclose

end

end

/-! ## The whole boundary (R13) -/

section
variable (s : State) (kind : BoundaryKind) (order : BoundaryOrder) (b : HandedOn)

/-- The pass controller leaves the receiver as it stands after its declaration (R79). -/
theorem State.controllerBoundary_camera (old : Byte) (first : Bool) :
    (s.controllerBoundary old s.camera.declared first b).camera = s.camera := by
  unfold State.controllerBoundary
  (repeat' split) <;> simp

theorem State.toController_camera : (s.toController order b).camera = s.camera.afterBoundary := by
  rw [← s.cameraBoundary_camera]
  unfold State.toController
  dsimp only
  (repeat' split) <;> simp [State.controllerBoundary_camera]

/-- The pass controller adds nothing to CAMERA. -/
theorem State.toController_flag_camera : (s.toController order b).flag .camera = s.cameraBoundary.flag .camera := by
  have hpass : Event.camera ≠ .pass := by decide
  have hover : Event.camera ≠ .overrun := by decide
  have hboundary := s.cameraBoundary.flag_controllerBoundary hpass hover s.camera.declared
    s.cameraBoundary.camera.declared order.declarationFirst b
  unfold State.toController
  dsimp only
  split
  · rfl
  · rw [State.flag_drainReport _ hpass]
    split
    · exact (State.flag_raisePoints _ hpass hover _).trans hboundary
    · exact hboundary

theorem State.handOver_camera : (s.handOver order b).camera = s.camera.afterBoundary := by
  simp [State.handOver, State.toController_camera]

theorem State.handOver_flag_camera : (s.handOver order b).flag .camera =
    (s.flag .camera || decide (s.camera.afterBoundary.declared ≠ s.camera.declared)) := by
  have hwitness : (s.activatePending.toWitness order b).flag .camera = s.flag .camera := by
    unfold State.toWitness
    split
    · rfl
    · exact State.flag_witnessBoundary _ (by decide) (by decide) _ _
  have hqueue : (s.activatePending.toWitness order b).lineQueueBoundary.flag .camera = s.flag .camera :=
    (State.flag_congr (by simp) _).trans hwitness
  rw [State.handOver, State.flag_settle _ (by decide) (by decide), State.toController_flag_camera,
    State.flag_cameraBoundary, hqueue]
  simp

section
variable {cause : State → State}
  (hcause : cause ∈ [State.causeRelock, State.causePulse, State.causeSubstituted, State.causeFlywheel])
include hcause

/-- The boundary record, with pending settings or the cause before it, neither reaches the receiver nor raises CAMERA. -/
theorem State.openFrame_receiver :
    (s.openFrame kind cause).camera = s.camera ∧ (s.openFrame kind cause).flag .camera = s.flag .camera := by
  obtain ⟨hcamera, hflag⟩ := s.cause_receiver hcause
  cases hpending : s.timebase.pending with
  | none =>
    rw [s.openFrame_of_none kind cause hpending]
    exact ⟨by simpa using hcamera, hflag⟩
  | some p =>
    rw [s.openFrame_of_some kind cause p hpending]
    exact ⟨by simp, State.flag_enterFree _ (by decide)⟩

/-- What the timebase does before it hands the boundary over neither reaches the receiver nor raises CAMERA. -/
theorem State.makeBoundary_eq_handOver :
    ∃ (u : State) (b : HandedOn), s.makeBoundary kind order cause = u.handOver order b
      ∧ u.camera = s.camera ∧ u.flag .camera = s.flag .camera := by
  obtain ⟨hcamera, hflag⟩ := s.openFrame_receiver kind hcause
  have hadvance (u : State) : u.advance.flag .camera = u.flag .camera := State.flag_report _ _ _
  have hraise (u : State) : u.raiseToS.flag .camera = u.flag .camera :=
    u.flag_raisePoints (by decide) (by decide) _
  have hoffset (u : State) : u.updateOffset.flag .camera = u.flag .camera := u.flag_updateOffset (by decide)
  refine ⟨_, _, rfl, ?_, ?_⟩
  · (repeat' split) <;> simp [hcamera]
  · (repeat' split) <;> simp only [hoffset, hraise, hadvance, hflag]

theorem State.makeBoundary_camera : (s.makeBoundary kind order cause).camera = s.camera.afterBoundary := by
  obtain ⟨u, b, hmake, hcamera, -⟩ := s.makeBoundary_eq_handOver kind order hcause
  rw [hmake, State.handOver_camera, hcamera]

/-- Of a boundary only the receiver raises CAMERA, when the declared word changes. -/
theorem State.makeBoundary_flag_camera : (s.makeBoundary kind order cause).flag .camera =
    (s.flag .camera || decide (s.camera.afterBoundary.declared ≠ s.camera.declared)) := by
  obtain ⟨u, b, hmake, hcamera, hflag⟩ := s.makeBoundary_eq_handOver kind order hcause
  rw [hmake, State.handOver_flag_camera, hcamera, hflag]

end

end

/-- Settles O24: a boundary leaves the receiver `afterBoundary` and raises CAMERA exactly when that changes the declared
word; the ring decides which word it declares. -/
theorem boundaryFilesSlotAndDeclares : Obligations.BoundaryFilesSlotAndDeclares := by
  refine ⟨?_, ?_⟩
  · intro s kind order cause hcause slots capacity needed t
    have hcapacity : capacity = s.camera.rule.capacity := rfl
    have hneeded : needed = s.camera.rule.needed := rfl
    have hcamera : t.camera = s.camera.afterBoundary := s.makeBoundary_camera kind order hcause
    have hflag := s.makeBoundary_flag_camera kind order hcause
    rw [s.cameraBoundary_camera, hcamera, hcapacity, hneeded]
    refine ⟨s.camera.fileSlot_ring, rfl, rfl, rfl, rfl, rfl, rfl, fun w hw => ?_, fun hnone => ?_⟩
    · have hdeclared := Camera.afterBoundary_declared_of_needed hw
      exact ⟨hdeclared, by rw [hflag, hdeclared]⟩
    · have hdeclared := Camera.afterBoundary_declared_of_none hnone
      exact ⟨hdeclared, by rw [hflag, hdeclared]; simp⟩
  · intro s ring needed
    have hring : ring = s.camera.fileSlot.ring := (congrArg Camera.ring s.cameraBoundary_camera).trans rfl
    have hneeded : needed = s.camera.rule.needed := rfl
    rw [s.cameraBoundary_camera, s.cameraBoundary_port, s.flag_cameraBoundary, hring, hneeded]
    refine ⟨fun w hw => ?_, fun hnone => ?_⟩
    · have hdeclared := Camera.afterBoundary_declared_of_needed hw
      rw [hdeclared]
      exact ⟨rfl, fun hnew => by simp [hnew], fun hsame => if_pos hsame⟩
    · have hdeclared := Camera.afterBoundary_declared_of_none hnone
      exact ⟨hdeclared, if_pos hdeclared⟩

end Sys2Proof.Machine
end

section
/-! Proofs about the line queue: an evaluation of the position (R104 to R106) and the completion of a fetch read (R101 to
R103). -/

namespace Sys2Proof.Machine

/-! ## The current line and retirement (R104, R105) -/

/-- CURRENT_LINE = cur with the lines below cur − 1 retired; what an evaluation leaves to the fetcher. -/
def State.atLine (s : State) (cur : Nat) : State :=
  { s with lineQueue := { s.lineQueue.retire cur with currentLine := some cur } }

section
variable (s : State) (cur : Nat)

@[simp] theorem State.atLine_currentLine : (s.atLine cur).lineQueue.currentLine = some cur := rfl

/-- A line stays when its index is at least CURRENT_LINE − 1 (R105). -/
@[simp] theorem State.atLine_lines :
    (s.atLine cur).lineQueue.lines = s.lineQueue.lines.filter fun l => decide (cur ≤ l.index + 1) := rfl

@[simp] theorem State.atLine_frame :
    (s.atLine cur).lineQueue.geometry = s.lineQueue.geometry ∧ (s.atLine cur).lineQueue.assembly = s.lineQueue.assembly
      ∧ (s.atLine cur).lineQueue.nextFetch = s.lineQueue.nextFetch ∧ (s.atLine cur).memory = s.memory
      ∧ (s.atLine cur).pass = s.pass ∧ (s.atLine cur).port = s.port ∧ (s.atLine cur).axes = s.axes :=
  ⟨rfl, rfl, rfl, rfl, rfl, rfl, rfl⟩

end

/-- With a geometry and a CURRENT_LINE an evaluation retires up to the greater of CURRENT_LINE and the clamped line, and
then lets the fetcher restart. -/
theorem State.evaluateLine_eq (s : State) {g : Geometry} {cur : Nat} (line : Nat)
    (hg : s.lineQueue.geometry = some g) (hcur : s.lineQueue.currentLine = some cur) :
    s.evaluateLine line =
      (s.atLine (max cur (min line (g.lines - 1)))).restartFetch (max cur (min line (g.lines - 1))) := by
  simp [State.evaluateLine, State.atLine, hg, hcur]

/-- Settles O53: the evaluation sets CURRENT_LINE and retires; the restart of fetching touches neither. -/
theorem evaluationRetiresLines : Obligations.EvaluationRetiresLines := by
  intro s g cur line hg hcur now t
  have ht : t = (s.atLine now).restartFetch now := s.evaluateLine_eq line hg hcur
  simp [ht, hg]

/-! ## The restart of fetching (R106) -/

section
variable {s : State} {cur i : Nat} (hi : s.lineQueue.nextFetch = some i)
include hi

/-- A fetcher that has not fallen behind CURRENT_LINE − 1 goes on. -/
theorem State.restartFetch_of_le (h : cur - 1 ≤ i) : s.restartFetch cur = s := by
  simp [State.restartFetch, hi, show ¬ i + 1 < cur by omega]

/-- A fetcher that has fallen behind with no line in assembly restarts at CURRENT_LINE − 1. -/
theorem State.restartFetch_of_lt_none (h : i < cur - 1) (hnone : s.lineQueue.assembly = none) :
    s.restartFetch cur = { s with lineQueue := { s.lineQueue with nextFetch := some (cur - 1) } } := by
  simp [State.restartFetch, hi, show i + 1 < cur by omega, hnone]

/-- A fetcher that has fallen behind also abandons the stale line in assembly and discards a read in flight for it. -/
theorem State.restartFetch_of_lt_some {a : Assembly} (h : i < cur - 1) (ha : s.lineQueue.assembly = some a)
    (hstale : a.index < i) :
    s.restartFetch cur =
      ({ s with lineQueue := { s.lineQueue with nextFetch := some (cur - 1), assembly := none } } :
        State).dropDownstream .fetchRead := by
  simp [State.restartFetch, hi, show i + 1 < cur by omega, ha, show a.index + 1 < cur by omega]

end

/-! ## Starting a line (R101) -/

/-- The line in assembly as its reads made it: its index and its words, whether or not a read is in flight. -/
def LineQueue.assembled (q : LineQueue) : Option (Nat × List Word) := q.assembly.map fun a => (a.index, a.words)

theorem LineQueue.assembled_eq_none_iff (q : LineQueue) : q.assembled = none ↔ q.assembly = none :=
  Option.map_eq_none_iff

/-- A fetch read that starts only marks the line in assembly (R132). -/
@[simp] theorem State.startTake_assembled (s : State) (r : DownstreamTxn) :
    (s.startTake r).lineQueue.assembled = s.lineQueue.assembled := by
  unfold State.startTake
  split
  next => rfl
  next => simp [LineQueue.assembled, Function.comp_def]
  next => rfl

@[simp] theorem State.grantTake_assembled (s : State) (r : DownstreamTxn) :
    (s.grantTake r).lineQueue.assembled = s.lineQueue.assembled := by
  simp [State.grantTake]

/-- No decision of the arbiter changes the line in assembly (R145). -/
@[simp] theorem State.arbitrate_assembled (s : State) : s.arbitrate.lineQueue.assembled = s.lineQueue.assembled := by
  unfold State.arbitrate
  dsimp only
  (repeat' split) <;> simp

/-- The four conditions of R101 on the next line, outside a reset. -/
def State.mayFetch (s : State) (g : Geometry) (i : Nat) : Prop :=
  s.resetControl.inForce = false ∧ s.queueActive = true ∧ s.pass.state ≠ .ending ∧ s.lineQueue.lines.length < 32
    ∧ i < g.lines

/-- The fetcher's part in the end of a row; while a reset is in force it has none (R101, R148). -/
def State.settleFetch (s : State) : State := if s.resetControl.inForce then s else s.startFetch

/-- The end of a row, late or not, leaves the fetcher as its own part does: the decision of the slot only marks the line
in assembly. -/
theorem State.settleAt_fetcher (s : State) (late : Bool) :
    (s.settleAt late).lineQueue.assembled = s.settleFetch.lineQueue.assembled
      ∧ (s.settleAt late).lineQueue.nextFetch = s.settleFetch.lineQueue.nextFetch := by
  cases hforce : s.resetControl.inForce with
  | true => simp [State.settleAt, State.settle, State.settleFetch, hforce]
  | false =>
    simp only [State.settleAt, State.settle, State.settleFetch, hforce]
    split <;> simp

section
variable {s : State} {g : Geometry} {i : Nat} (late : Bool)

/-- With a line in assembly the end of a row starts none. -/
theorem State.settleAt_of_assembly (ha : s.lineQueue.assembly ≠ none) :
    (s.settleAt late).lineQueue.assembled = s.lineQueue.assembled
      ∧ (s.settleAt late).lineQueue.nextFetch = s.lineQueue.nextFetch := by
  simpa only [State.settleFetch, s.startFetch_of_assembly ha, ite_self] using s.settleAt_fetcher late

variable (hg : s.lineQueue.geometry = some g) (hi : s.lineQueue.nextFetch = some i)
  (hnone : s.lineQueue.assembly = none)
include hg hi hnone

/-- The fetcher starts the next line, with no words read, when it may. -/
theorem State.settleAt_of_mayFetch (h : s.mayFetch g i) :
    (s.settleAt late).lineQueue.assembled = some (i, []) ∧ (s.settleAt late).lineQueue.nextFetch = some (i + 1) := by
  obtain ⟨hforce, hactive, hending, hroom, hline⟩ := h
  have hstart : s.settleFetch =
      { s with lineQueue := { s.lineQueue with assembly := some ⟨i, [], false⟩, nextFetch := some (i + 1) } } := by
    simp [State.settleFetch, State.startFetch, hforce, hg, hi, hnone, hactive, hending, Config.lineQueueDepth, hroom,
      hline]
  have hend := s.settleAt_fetcher late
  rwa [hstart] at hend

/-- The fetcher starts no line when one of the conditions fails. -/
theorem State.settleAt_of_not_mayFetch (h : ¬ s.mayFetch g i) :
    (s.settleAt late).lineQueue.assembly = none ∧ (s.settleAt late).lineQueue.nextFetch = some i := by
  have hstays : s.settleFetch = s := by
    unfold State.settleFetch
    split
    · rfl
    next hforce =>
      have hfails : ¬ (s.queueActive = true ∧ s.pass.state ≠ .ending ∧ s.lineQueue.lines.length < 32 ∧ i < g.lines) :=
        fun hmay => h ⟨by simpa using hforce, hmay⟩
      simp only [State.startFetch, hg, hi, hnone, Config.lineQueueDepth, if_neg hfails]
  have hend := s.settleAt_fetcher late
  rw [hstays] at hend
  rwa [hi, (LineQueue.assembled_eq_none_iff _).2 hnone, LineQueue.assembled_eq_none_iff] at hend

end

/-! ## The entry of a complete line (R44, R103) -/

theorem Geometry.tagGood_iff (g : Geometry) (i : Nat) (words : List Word) :
    g.tagGood i words = true ↔ (words.headD 0).toNat % 65536 = (g.offset + i) % 65536
      ∧ (words.headD 0).toNat / 65536 % 64 = g.root :=
  Machine.tagGood_iff _ _ _

/-- Good or bad, the line is queued in its place and the assembly is free (R103). -/
theorem State.lineEntry_lineQueue (s : State) (g : Geometry) (i : Nat) (words : List Word) :
    (s.lineEntry g i words).lineQueue =
      { s.lineQueue with lines := s.lineQueue.lines ++ [⟨i, words, g.tagGood i words⟩], assembly := none } := by
  unfold State.lineEntry
  dsimp only
  split <;> simp

section
variable (s : State) {g : Geometry} {i : Nat} {words : List Word}

/-- A good tag raises nothing and counts nothing. -/
theorem State.lineEntry_of_good (h : g.tagGood i words = true) :
    (s.lineEntry g i words).pass = s.pass ∧ (s.lineEntry g i words).flag .tag = s.flag .tag := by
  simp only [State.lineEntry, h, if_true]
  exact ⟨trivial, rfl⟩

/-- A bad tag raises TAG and counts one tag failure of the pass. -/
theorem State.lineEntry_of_bad (h : g.tagGood i words = false) (hidle : s.pass.state ≠ .idle) :
    (s.lineEntry g i words).pass.summary = s.pass.summary.map Summary.addTagFail
      ∧ (s.lineEntry g i words).flag .tag = true := by
  simp only [State.lineEntry, h, Bool.false_eq_true, if_false, State.flag_report, State.flag_raise]
  simp [State.report, hidle]

end

/-! ## The completion of a fetch read (R102) -/

section
variable {s : State} {g : Geometry} {a : Assembly} {data : Word}
  (hg : s.lineQueue.geometry = some g) (ha : s.lineQueue.assembly = some a)
include hg ha

/-- A word that does not complete the line joins the line in assembly, and the next read may start. -/
theorem State.fetchReadComplete_of_more (h : (a.words ++ [data]).length ≠ 1 + g.trackCount) :
    s.fetchReadComplete data =
      { s with lineQueue := { s.lineQueue with assembly := some ⟨a.index, a.words ++ [data], false⟩ } } := by
  simp only [State.fetchReadComplete, hg, ha, if_neg h]

/-- The word that completes the line lets it enter the queue. -/
theorem State.fetchReadComplete_of_last (h : (a.words ++ [data]).length = 1 + g.trackCount) :
    s.fetchReadComplete data = s.lineEntry g a.index (a.words ++ [data]) := by
  simp only [State.fetchReadComplete, hg, ha, if_pos h]

end

/-- The row frees the port of its transaction and then decides the slot (R132, R144). -/
theorem exec_downstreamComplete_of_downstream (s : State) (completion : Completion) (data : Word) {d : DownstreamTxn}
    (hd : (s.elapse completion.after).memory.downstream = some d) :
    exec (.downstreamComplete completion data) s = .next
      (((s.elapse completion.after).completeDownstream d data completion.late).settleAt completion.slotLate) := by
  simp [exec, execDownstreamComplete, hd]

/-- A fetch read that is not discarded gives its word to the line in assembly (R102). -/
theorem State.completeDownstream_fetchRead (s : State) {d : DownstreamTxn} (data : Word) (late : Bool)
    (howner : d.owner = .fetchRead) (hdiscard : d.discard = false) :
    s.completeDownstream d data late =
      ({ s with memory := { s.memory with downstream := none } } : State).fetchReadComplete data := by
  simp [State.completeDownstream, howner, hdiscard]

/-- After a line has entered the queue, the fetcher may start the next under the conditions of R101, with one line more
in the queue. -/
theorem State.mayFetch_lineEntry_iff (s : State) (g : Geometry) (j i : Nat) (words : List Word)
    (hidle : s.pass.state ≠ .idle) :
    (s.lineEntry g j words).mayFetch g i ↔
      (s.resetControl.inForce = false ∧ (s.mode = some .replay ∨ s.mode = some .witness) ∧ s.pass.state ≠ .ending
        ∧ s.lineQueue.lines.length + 1 < 32) ∧ i < g.lines := by
  simp [State.mayFetch, State.queueActive, State.readsTake, State.mode, State.lineEntry_lineQueue, hidle, and_assoc]

/-- Settles O52: the row is the taking of the word followed by the end of a bus row, where the fetcher may start the next
line; the restart has the cases of R106. -/
theorem fetchedLineEntersQueue : Obligations.FetchedLineEntersQueue := by
  refine ⟨?read, ?restart⟩
  case read =>
    intro s after data late slotLate d g a u words tag hd howner hdiscard hg ha hidle good mayFetch
    let v : State := { u with memory := { u.memory with downstream := none } }
    have hgood : good ↔ g.tagGood a.index words = true := (g.tagGood_iff a.index words).symm
    have hflag : ((v.fetchReadComplete data).settleAt slotLate).flag .tag = (v.fetchReadComplete data).flag .tag :=
      State.flag_settleAt _ (by decide) (by decide) slotLate
    have hpass : ((v.fetchReadComplete data).settleAt slotLate).pass = (v.fetchReadComplete data).pass := by simp
    have hword : u.completeDownstream d data late = v.fetchReadComplete data :=
      u.completeDownstream_fetchRead data late howner hdiscard
    refine ⟨(v.fetchReadComplete data).settleAt slotLate,
      hword ▸ exec_downstreamComplete_of_downstream s ⟨after, late, slotLate⟩ data hd,
      fun hmore => ?more, fun hlast => ?last, by simp [v], by simp [v, hg], by simp [v], by simp [v], by simp [v],
      by simp [v], by simp [v]⟩
    case more =>
      have hr := State.fetchReadComplete_of_more (s := v) hg ha hmore
      obtain ⟨hasm, hnext⟩ := State.settleAt_of_assembly (s := v.fetchReadComplete data) slotLate (by simp [hr])
      rw [hpass, hflag, hnext]
      refine ⟨by simp [hr, v], hasm.trans ?_, ?_⟩ <;> rw [hr]
      · rfl
      · exact ⟨rfl, rfl, rfl⟩
    case last =>
      have hr := State.fetchReadComplete_of_last (s := v) hg ha hlast
      rw [hpass, hflag, hr]
      have hq := v.lineEntry_lineQueue g a.index words
      refine ⟨⟨a.index, words, g.tagGood a.index words⟩, by simp [words, v, hq], rfl, rfl, hgood.symm, fun htag => ?good,
        fun htag => ?bad, fun i hi => ?next⟩
      case good => exact (v.lineEntry_of_good (hgood.1 htag)).symm
      case bad =>
        obtain ⟨hsummary, htagFlag⟩ := v.lineEntry_of_bad (Bool.eq_false_iff.2 (mt hgood.2 htag)) hidle
        refine ⟨htagFlag, ?_⟩
        rw [hsummary, Option.map_map]
        rfl
      case next =>
        have hmay : (v.lineEntry g a.index words).mayFetch g i ↔ mayFetch ∧ i < g.lines :=
          v.mayFetch_lineEntry_iff g a.index i words hidle
        have hg' : (v.lineEntry g a.index words).lineQueue.geometry = some g := by simp [v, hg]
        have hi' : (v.lineEntry g a.index words).lineQueue.nextFetch = some i := by simp [v, hi]
        have hnone : (v.lineEntry g a.index words).lineQueue.assembly = none := by rw [hq]
        exact ⟨fun h => State.settleAt_of_mayFetch slotLate hg' hi' hnone (hmay.2 h),
          fun h => State.settleAt_of_not_mayFetch slotLate hg' hi' hnone (mt hmay.1 h)⟩
  case restart =>
    intro s g cur line i hg hcur hi hstale now t
    have ht : t = (s.atLine now).restartFetch now := s.evaluateLine_eq line hg hcur
    have hi' : (s.atLine now).lineQueue.nextFetch = some i := hi
    rw [ht]
    refine ⟨fun hle => ?_, fun hlt => ?_⟩
    · rw [State.restartFetch_of_le hi' hle]
      exact ⟨hi, rfl, rfl⟩
    · cases ha : s.lineQueue.assembly with
      | none =>
        rw [State.restartFetch_of_lt_none hi' hlt ha]
        exact ⟨rfl, ha, rfl, rfl, fun _ => rfl, fun h => absurd rfl h⟩
      | some a =>
        rw [State.restartFetch_of_lt_some hi' hlt ha (hstale a ha)]
        exact ⟨rfl, rfl, rfl, rfl, nofun, fun _ => rfl⟩

end Sys2Proof.Machine
end

section
/-!
Proofs about the rounding of an interpolation's quotient (R126).
-/

namespace Sys2Proof.Machine

/-! ## The rounded quotient by the remainder (R126) -/

theorem roundHalfEven_of_lt_half {a : Int} (h : a % 9223372036854775808 < 4611686018427387904) :
    roundHalfEven a = a / 9223372036854775808 :=
  if_pos (by omega)

theorem roundHalfEven_of_half_lt {a : Int} (h : 4611686018427387904 < a % 9223372036854775808) :
    roundHalfEven a = a / 9223372036854775808 + 1 :=
  (if_neg (by omega)).trans (if_pos (by omega))

theorem roundHalfEven_of_half {a : Int} (h : a % 9223372036854775808 = 4611686018427387904) :
    roundHalfEven a =
      if a / 9223372036854775808 % 2 = 0 then a / 9223372036854775808 else a / 9223372036854775808 + 1 :=
  (if_neg (by omega)).trans (if_neg (by omega))

theorem roundHalfEven_neighbour (a : Int) :
    roundHalfEven a = a / 9223372036854775808 ∨ roundHalfEven a = a / 9223372036854775808 + 1 := by
  rcases lt_trichotomy (a % 9223372036854775808) 4611686018427387904 with hlt | heq | hgt
  · exact .inl (roundHalfEven_of_lt_half hlt)
  · rw [roundHalfEven_of_half heq]
    exact ite_eq_or_eq _ _ _
  · exact .inr (roundHalfEven_of_half_lt hgt)

theorem roundHalfEven_even_of_half {a : Int} (h : a % 9223372036854775808 = 4611686018427387904) :
    roundHalfEven a % 2 = 0 := by
  rw [roundHalfEven_of_half h]
  split
  next heven => exact heven
  next hodd => omega

/-- Settles O54: the remainder the statement takes by subtraction is the model's `a % 2^63`, and each of its three places
around one half has its lemma. -/
theorem roundingIsConvergent : Obligations.RoundingIsConvergent := by
  intro a q rest
  have hrest : rest = a % 9223372036854775808 := by
    rw [Int.emod_def, mul_comm]
  rw [hrest]
  refine ⟨by omega, fun habove => ?above, fun hbelow => ?below, fun hhalf => ?half⟩
  case above => exact roundHalfEven_of_half_lt habove
  case below => exact roundHalfEven_of_lt_half hbelow
  case half => exact ⟨roundHalfEven_neighbour a, roundHalfEven_even_of_half hhalf⟩

end Sys2Proof.Machine
end

section
/-! Proofs about the commands of the witness unit (R172, R179, R180). -/

namespace Sys2Proof.Machine

/-! ## INJECT (R172) -/

theorem clampInt_comparisonLimit (v : Int) :
    clampInt (-Config.comparisonLimit) Config.comparisonLimit v = max (-16777215) (min 16777215 v) :=
  clampInt_eq_max_min _ _ _ (by decide)

/-- The inject offset of a witness axis becomes the one given, present or not (R172). -/
def State.withInject (s : State) (a : Nat) (o : Option Int) : State :=
  s.onWitnessAxis a fun w => { w with inject := o }

section
variable (s : State) (axis action : Byte) (offset : Int)

theorem State.setInject_of_set (haxis : axis.toNat < 16) (hset : action = 0) :
    s.setInject axis action offset =
      let off := max (-16777215) (min 16777215 offset)
      ⟨s.withInject axis.toNat (some off), if off = offset then .ok else .adjusted, axis :: injectBytes (some off)⟩ := by
  simp only [State.setInject, if_neg (Nat.not_le.mpr haxis), if_pos hset, clampInt_comparisonLimit, okOr_bne,
    State.withInject]

theorem State.setInject_of_cancel (haxis : axis.toNat < 16) (hcancel : action = 1) :
    s.setInject axis action offset = ⟨s.withInject axis.toNat none, .ok, axis :: injectBytes none⟩ := by
  subst hcancel
  exact if_neg (Nat.not_le.mpr haxis)

/-- An axis that does not exist, or an action that is neither SET nor CANCEL (R172). -/
theorem State.setInject_of_range (hrange : 16 ≤ axis.toNat ∨ 2 ≤ action.toNat) :
    s.setInject axis action offset = refuse s .range := by
  by_cases haxis : 16 ≤ axis.toNat
  · exact if_pos haxis
  · have haction : 2 ≤ action.toNat := hrange.resolve_left haxis
    have hset : action ≠ 0 := by rintro rfl; simp at haction
    have hcancel : action ≠ 1 := by rintro rfl; simp at haction
    rw [State.setInject, if_neg haxis, if_neg hset, if_neg hcancel]

end

/-! ## READ DEVIATION (R179, R180) -/

/-- DEVLOG follows the log on the port alone. -/
theorem State.followLog_eq (s : State) : s.followLog = { s with port := s.followLog.port } := by
  unfold State.followLog
  split <;> rfl

theorem State.followLog_receive (s : State) (fr : Frame) : (s.receive fr).followLog = s.followLog.receive fr :=
  (apply_ite (State.receive · fr) (s.witness.log.isEmpty = true) (s.lower .devlog) (s.raise .devlog)).symm

/-- The log is what is left of it, and DEVLOG follows it (R180). -/
def State.withLog (s : State) (log : List DeviationRecord) : State :=
  ({ s with witness := { s.witness with log := log } } : State).followLog

theorem State.withLog_receive (s : State) (fr : Frame) (log : List DeviationRecord) :
    (s.receive fr).withLog log = (s.withLog log).receive fr :=
  State.followLog_receive { s with witness := { s.witness with log := log } } fr

theorem State.withLog_eq (s : State) (log : List DeviationRecord) :
    s.withLog log = { s with witness := { s.witness with log := log }, port := (s.withLog log).port } :=
  State.followLog_eq _

theorem State.flag_withLog (s : State) (log : List DeviationRecord) (ev : Event) :
    (s.withLog log).flag ev = if ev = .devlog then !log.isEmpty else s.flag ev :=
  State.flag_followLog _ ev

theorem State.readDeviation_of_nil (s : State) (hlog : s.witness.log = []) : s.readDeviation = accept s := by
  rw [State.readDeviation, hlog]

theorem State.readDeviation_of_cons (s : State) {r : DeviationRecord} {rest : List DeviationRecord}
    (hlog : s.witness.log = r :: rest) :
    s.readDeviation = ⟨s.withLog rest, .ok, r.bytes ++ beBytes 1 rest.length⟩ := by
  rw [State.readDeviation, hlog, State.withLog]

/-- Settles O60: each row is its body on the frame received, and DEVLOG follows the log after the oldest record has left
it. -/
theorem witnessCommands : Obligations.WitnessCommands := by
  intro s hs
  refine ⟨?inject, ?empty, ?oldest⟩
  case inject =>
    intro axis action offset off fr withInject
    refine ⟨fun haxis hset => ?_, fun haxis hcancel => ?_, fun hrange => ?_⟩
    · exact congrArg _ (State.takeCommand_eq_answered hs (State.setInject_of_set _ axis action _ haxis hset))
    · exact congrArg _ (State.takeCommand_eq_answered hs (State.setInject_of_cancel _ axis action _ haxis hcancel))
    · exact congrArg _ (State.takeCommand_eq_answered hs (State.setInject_of_range _ axis action _ hrange))
  case empty =>
    intro hlog
    exact congrArg _ (State.takeCommand_eq_answered hs (State.readDeviation_of_nil _ hlog))
  case oldest =>
    intro r rest hlog
    have hbody : (s.receive ⟨0x81, []⟩).readDeviation =
        ⟨(s.withLog rest).receive ⟨0x81, []⟩, .ok, r.bytes ++ beBytes 1 rest.length⟩ := by
      rw [State.readDeviation_of_cons (s.receive _) hlog, State.withLog_receive]
    have hexec : exec .readDeviation s =
        .next ((s.withLog rest).answered ⟨0x81, []⟩ .ok (r.bytes ++ beBytes 1 rest.length)) :=
      congrArg _ (State.takeCommand_eq_answered hs hbody)
    have hwitness : (s.withLog rest).witness = { s.witness with log := rest } := by
      rw [s.withLog_eq]
    refine ⟨_, hexec, rfl, hwitness, ?_, fun ev hev => ?_, ?_⟩
    · exact (s.flag_withLog rest .devlog).trans (if_pos rfl)
    · exact (s.flag_withLog rest ev).trans (if_neg hev)
    · rw [s.withLog_eq]
      rfl

end Sys2Proof.Machine
end

section
/-! Proofs about the passing of reference counts, and about management commands as one kind of row. -/

namespace Sys2Proof.Machine

/-! ## Time -/

/-- What counts and the part's own due events keep is kept over any span of time. -/
theorem State.elapse_induction {P : State → Prop} (hcount : ∀ s n, P s → P (s.count n))
    (hown : ∀ s d ev, s.nextOwn = some (d, ev) → P s → P ((s.count d).fireOwn ev)) (s : State) (n : Nat) (h : P s) :
    P (s.elapse n) := by
  have hfuel (fuel : Nat) : ∀ (n : Nat) (s : State), P s → P (State.elapseFuel fuel n s) := by
    induction fuel with
    | zero => exact fun n s h => hcount s n h
    | succ fuel ih =>
      intro n s h
      unfold State.elapseFuel
      split
      next d ev hnext =>
        split
        · exact ih _ _ (hown s d ev hnext h)
        · exact hcount s n h
      · exact hcount s n h
  unfold State.elapse
  split
  · exact h
  · exact hfuel _ _ _ h

/-! ## The body of a command (R192) -/

/-- What a management command answers once it is taken; a pin or bus event answers nothing, and no row asks for it. -/
def commandBody (c : Instr) (s : State) : Answer :=
  match c with
  | .readStatus => readBody readStatusResult s
  | .readEvents => readBody readEventsResult s
  | .clearEvents named => ⟨s.clearEvents named, .ok, flagBytes (s.clearEvents named).port.flags⟩
  | .setEnable mask => ⟨{ s with port := { s.port with mask := mask } }, .ok, flagBytes mask⟩
  | .resetPart => accept { s with port := { s.port with resetPending := true } }
  | .setTimebase nNom window holdoverLimit => s.setTimebase nNom.toNat window.toNat holdoverLimit.toNat
  | .readTimebase => readBody readTimebaseResult s
  | .setRegion base size => s.setRegion base.toNat size.toNat
  | .readRegion => readBody readRegionResult s
  | .declare take base lines k tracks => s.declareTake take.toNat base.toNat lines.toNat k tracks
  | .delete take => s.deleteTake take.toNat
  | .protect take => s.protectTake take.toNat true
  | .unprotect take => s.protectTake take.toNat false
  | .aliasTake take parent offset length => s.makeAlias take.toNat parent.toNat offset.toNat length.toNat
  | .readTake take => s.readTake take
  | .recordArm take base maxLines k tracks trigger requireLock preroll pace length =>
    s.recordArm take.toNat base.toNat maxLines.toNat k tracks trigger requireLock preroll.toNat pace.toNat length.toNat
  | .replayArm take startFrame pace interp trigger requireLock preroll resumePreroll policy =>
    s.readArm .replay take.toNat startFrame.toNat pace.toNat interp trigger requireLock preroll.toNat
      resumePreroll.toNat policy
  | .witnessArm take startFrame pace interp trigger requireLock preroll resumePreroll policy =>
    s.readArm .witness take.toNat startFrame.toNat pace.toNat interp trigger requireLock preroll.toNat
      resumePreroll.toNat policy
  | .stop => if s.runningOrParked then accept (s.placeRequest .stop) else refuse s .state
  | .park => if s.pass.state = .running then accept (s.placeRequest .park) else refuse s .state
  | .resume =>
    if s.pass.state = .parked then
      match (s.pass.context.map (·.resumePreroll)).getD 0 with
      | 0 => accept (s.placeRequest .resume)
      | n => accept (s.emptySlot.enterPreroll n .resume)
    else refuse s .state
  | .abort => if s.pass.state = .idle then refuse s .state else accept s.abortPass.settle
  | .clear =>
    if s.pass.state = .complete then
      accept (s.toIdle.clearLineQueue.closeRecording.endFrame.finishHeldWrite).settle
    else refuse s .state
  | .passReset => accept ((if s.pass.state = .idle then s else s.abortPass.settle).passResetRest)
  | .readPass => readBody readPassResult s
  | .setCamera rule => s.setCamera rule
  | .readCamera => readBody readCameraResult s
  | .readRecord => readBody readRecordResult s
  | .readLineQueue => readBody readLineQueueResult s
  | .readQueuedLine index => readBody (fun s => readQueuedLineResult s index.toNat) s
  | .readEvaluation => readBody readEvaluationResult s
  | .readPath => readBody readPathResult s
  | .setAxis axis enabled target feedbackPresent feedback min max step tol source scale offset =>
    s.setAxis axis enabled target feedbackPresent feedback min max step tol source scale offset
  | .getAxis axis => s.readOfAxis axis getAxisResult
  | .readAxis axis => s.readOfAxis axis readAxisResult
  | .clearAxisFlags axes => ⟨s.clearAxisFlags axes, .ok, flagBytes s.flaggedAxes⟩
  | .inject axis action offset => s.setInject axis action offset.toInt
  | .readDeviation => s.readDeviation
  | .readWitness axis => s.readOfAxis axis readWitnessResult
  | .unknownOrLength code args => refuse s (Frame.mk code args).refusal
  | _ => accept s

/-- The row of a management command is the taking of its frame with its body, but for the row of frames that fail the checks
of R191, which refuses a frame that passes them. -/
theorem exec_of_frameOf {c : Instr} {fr : Frame} (hfr : frameOf c = some fr) (s : State) :
    exec c s = .next (s.takeCommand fr (commandBody c))
      ∨ (∃ code args, c = .unknownOrLength code args) ∧ fr.passes = true ∧ exec c s = .refused .frameOfAnotherCommand := by
  cases c
  case unknownOrLength code args =>
    cases hfr
    by_cases hpasses : (Frame.mk code args).passes = true
    · exact .inr ⟨⟨_, _, rfl⟩, hpasses, if_pos hpasses⟩
    · exact .inl (if_neg hpasses)
  all_goals cases hfr
  all_goals exact .inl rfl

/-- A command that steps on is the taking of its frame. -/
theorem eq_takeCommand_of_exec {c : Instr} {fr : Frame} {s t : State} (hfr : frameOf c = some fr)
    (hexec : exec c s = .next t) : t = s.takeCommand fr (commandBody c) := by
  rcases exec_of_frameOf hfr s with hrow | ⟨-, -, hrow⟩
  · exact (Host.Outcome.next.inj (hrow.symm.trans hexec)).symm
  · cases hrow.symm.trans hexec

/-- A well-formed command is the taking of its frame. -/
theorem exec_of_wellFormed {c : Instr} {fr : Frame} (hwf : c.wellFormed = true) (hfr : frameOf c = some fr) (s : State) :
    exec c s = .next (s.takeCommand fr (commandBody c)) := by
  rcases exec_of_frameOf hfr s with hrow | ⟨⟨code, args, rfl⟩, hpasses, -⟩
  · exact hrow
  · cases hfr
    simp [Instr.wellFormed, hpasses] at hwf

/-- The taking of a frame leaves the answer of its body, a response with bytes shifted out, or nothing changed. -/
theorem State.takeCommand_cases (s : State) (fr : Frame) (body : State → Answer) :
    let a := body (s.takeBoundaries.receive fr)
    s.takeCommand fr body = a.state.respond a.status a.result
      ∨ s.port.phase = .response ∧ s.takeCommand fr body = s.shiftOut (2 + fr.args.length) ∨ s.takeCommand fr body = s := by
  unfold State.takeCommand
  split
  · exact .inl rfl
  · split
    next hphase => exact .inr (.inl ⟨hphase, rfl⟩)
    · exact .inr (.inr rfl)

end Sys2Proof.Machine
end

section
/-! Proofs about the invariant: the bounds of every block are kept by every shared operation, and so by every row. -/

namespace Sys2Proof.Machine

/-! ## The bounds of the blocks -/

/-- The invariant without the port's part, as a fact of the fields it speaks of: what leaves these fields alone keeps it. -/
structure Bounds (t : Timebase) (c : Camera) (m : Option Summary) (d : Directory) (r : Recording) (q : LineQueue)
    (w : Witness) (p : MemoryPath) (i : Interpolator) (axes : List Axis) : Prop where
  timebase : t.bounded
  camera : c.bounded
  summary : ∀ x ∈ m, x.bounded
  directory : d.bounded
  recording : r.bounded
  lineQueue : q.bounded
  witness : w.bounded
  memory : p.bounded
  interpolator : i.bounded
  axes : axes.length = 16

/-- The bounds of every block but the port. -/
def State.Bounded (s : State) : Prop :=
  Bounds s.timebase s.camera s.pass.summary s.directory s.recording s.lineQueue s.witness s.memory s.interpolator s.axes

theorem State.inv_iff (s : State) : s.Inv ↔ s.Bounded ∧ s.port.receiving :=
  ⟨fun ⟨h1, h2, h3, h4, h5, h6, h7, h8, h9, h10, h11⟩ => ⟨⟨h1, h2, h3, h4, h5, h6, h7, h8, h9, h11⟩, h10⟩,
   fun ⟨⟨h1, h2, h3, h4, h5, h6, h7, h8, h9, h11⟩, h10⟩ => ⟨h1, h2, h3, h4, h5, h6, h7, h8, h9, h10, h11⟩⟩

namespace State.Bounded

section
variable {s : State} (h : s.Bounded)
include h

/-! ## One block at a time -/

theorem withTimebase {t : Timebase} (ht : t.bounded) : State.Bounded { s with timebase := t } := { h with timebase := ht }

theorem withMemory {m : MemoryPath} (hm : m.bounded) : State.Bounded { s with memory := m } := { h with memory := hm }

theorem withLineQueue {q : LineQueue} (hq : q.bounded) : State.Bounded { s with lineQueue := q } :=
  { h with lineQueue := hq }

theorem withRecording {r : Recording} (hr : r.bounded) : State.Bounded { s with recording := r } :=
  { h with recording := hr }

theorem withWitness {w : Witness} (hw : w.bounded) : State.Bounded { s with witness := w } := { h with witness := hw }

theorem withCamera {c : Camera} (hc : c.bounded) : State.Bounded { s with camera := c } := { h with camera := hc }

theorem withInterpolator {i : Interpolator} (hi : i.bounded) : State.Bounded { s with interpolator := i } :=
  { h with interpolator := hi }

theorem withAxes {axes : List Axis} (ha : axes.length = s.axes.length) : State.Bounded { s with axes := axes } :=
  { h with axes := ha.trans h.axes }

/-! ## The pass and its summary (R72) -/

theorem raise (ev : Event) : (s.raise ev).Bounded := h

theorem lower (ev : Event) : (s.lower ev).Bounded := h

theorem followLog : s.followLog.Bounded := by
  unfold State.followLog
  split <;> exact h

theorem setPass (p : PassState) : (s.setPass p).Bounded := by
  unfold State.setPass
  split <;> exact h

theorem onSummary {f : Summary → Summary} (hf : ∀ m, m.bounded → (f m).bounded) : (s.onSummary f).Bounded := by
  refine { h with summary := fun x hx => ?_ }
  obtain ⟨m, hm, rfl⟩ := Option.mem_map.1 hx
  exact hf m (h.summary m hm)

theorem report {f : Summary → Summary} (hf : ∀ m, m.bounded → (f m).bounded) : (s.report f).Bounded := by
  unfold State.report
  split
  · exact h
  · exact h.onSummary hf

theorem setOutcome (o : PassOutcome) : (s.setOutcome o).Bounded := h.onSummary fun _ hm => hm

/-! ## The directory (R29, R47) -/

theorem passCount_entry {t : Nat} {e : TakeEntry} (he : s.entry t = some e) : e.passCount ≤ 65535 := by
  obtain ⟨-, hcount⟩ := h.directory
  simp only [State.entry, Directory.entry] at he
  split at he
  · cases he
  · exact hcount _ (List.mem_of_getElem? (Option.join_eq_some_iff.1 he)) e rfl

theorem setEntry (t : Nat) {e : Option TakeEntry} (he : ∀ x ∈ e, x.passCount ≤ 65535) : (s.setEntry t e).Bounded := by
  obtain ⟨hlen, hcount⟩ := h.directory
  refine { h with directory := ⟨(s.setEntry_entries_length t e).trans hlen, fun x hx => ?_⟩ }
  simp only [State.setEntry, Directory.setEntry] at hx
  split at hx
  · exact hcount x hx
  · rcases List.mem_or_eq_of_mem_set hx with hx | rfl
    · exact hcount x hx
    · exact he

theorem onEntry (t : Nat) {f : TakeEntry → TakeEntry} (hf : ∀ e, e.passCount ≤ 65535 → (f e).passCount ≤ 65535) :
    (s.onEntry t f).Bounded := by
  refine h.setEntry t fun x hx => ?_
  obtain ⟨e, he, rfl⟩ := Option.mem_map.1 hx
  exact hf e (h.passCount_entry he)

theorem leaveRecording {t : Nat} {e : TakeEntry} (he : s.entry t = some e) (truncated : Bool) :
    ∀ x ∈ e.leaveRecording truncated, x.passCount ≤ 65535 := by
  intro x hx
  unfold TakeEntry.leaveRecording at hx
  split at hx
  · cases hx
  · cases hx
    have := h.passCount_entry he
    unfold TakeEntry.setGuarded
    dsimp only
    split <;> exact this

theorem finishRecording (truncated : Bool) : (s.finishRecording truncated).Bounded := by
  unfold State.finishRecording
  split
  · exact h
  · split
    · exact h
    next he =>
      split
      · exact h.setEntry _ (h.leaveRecording he truncated)
      · exact h

theorem dropDownstream (owner : DownstreamOwner) : (s.dropDownstream owner).Bounded := h.withMemory h.memory

theorem verifyAppend (t : Nat) : (s.verifyAppend t).Bounded := { h with directory := h.directory }

theorem verifyRemove (t : Nat) : (s.verifyRemove t).Bounded := by
  unfold State.verifyRemove
  dsimp only
  split
  · exact { h with directory := h.directory, memory := h.memory }
  · exact { h with directory := h.directory }

theorem verifyEnd (t : Nat) {f : TakeEntry → TakeEntry} (hf : ∀ e, e.passCount ≤ 65535 → (f e).passCount ≤ 65535) :
    (s.verifyEnd t f).Bounded :=
  have hs := h.onEntry t hf
  { hs with directory := hs.directory }

theorem verifyReadComplete (tag : Word) : (s.verifyReadComplete tag).Bounded := by
  unfold State.verifyReadComplete
  split
  · split
    · exact h
    · split
      · split
        · exact { h with directory := h.directory }
        · exact h.verifyEnd _ fun _ he => he
      · exact h.verifyEnd _ fun _ he => he
  · exact h

/-! ## The end of a pass (R38, R47, R66, R67) -/

theorem countReplay (o : PassOutcome) : (s.countReplay o).Bounded := by
  unfold State.countReplay
  split
  · split
    · exact h.onEntry _ fun _ _ => stopAt_le _ _
    · exact h
  · exact h

theorem endPass (o : PassOutcome) : (s.endPass o).Bounded := by
  have hs : (s.setOutcome o).emptySlot.Bounded := h.setOutcome o
  unfold State.endPass
  dsimp only
  split
  · exact hs.setPass _
  · exact (hs.countReplay o).setPass _

theorem withPosition {p : Option Nat} (hp : ∀ x ∈ p, x < Config.timelineLimit) :
    State.Bounded { s with timebase := { s.timebase with position := p } } := by
  obtain ⟨h1, h2, h3, h4, h5, h6, h7, h8, -, hrest⟩ := h.timebase
  exact h.withTimebase ⟨h1, h2, h3, h4, h5, h6, h7, h8, hp, hrest⟩

theorem reportCaptureEnd (o : PassOutcome) {p : Nat} (hp : p < Config.timelineLimit) :
    (s.reportCaptureEnd o p).Bounded := by
  unfold State.reportCaptureEnd
  split
  · exact (h.withPosition fun x hx => by cases hx; exact hp).endPass o
  · exact h

theorem drainCheck : s.drainCheck.Bounded := by
  unfold State.drainCheck
  split
  · exact (h.finishRecording _).setPass _
  · exact h

theorem drainReport (late : Bool) : (s.drainReport late).Bounded := by
  unfold State.drainReport
  split
  · split <;> exact h
  · exact h.drainCheck

/-! ## The witness unit (R174, R178, R181) -/

theorem divergenceReport : s.divergenceReport.Bounded := by
  unfold State.divergenceReport
  split
  · split <;> exact h
  · exact h

theorem reportDivergence (late : Bool) : (s.reportDivergence late).Bounded := by
  unfold State.reportDivergence
  split
  · exact h
  · exact h.divergenceReport

theorem onWitnessAxis (a : Nat) {f : WitnessAxis → WitnessAxis} (hf : ∀ w, w.bounded → (f w).bounded) :
    (s.onWitnessAxis a f).Bounded := by
  obtain ⟨hlog, hlost, hlen, haxes⟩ := h.witness
  refine h.withWitness ⟨hlog, hlost, (List.length_modify ..).trans hlen, fun w hw => ?_⟩
  obtain ⟨n, hn⟩ := List.mem_iff_getElem?.1 hw
  rw [List.getElem?_modify] at hn
  obtain ⟨v, hv, rfl⟩ := Option.map_eq_some_iff.1 hn
  have := haxes v (List.mem_of_getElem? hv)
  split
  · exact hf v this
  · exact this

theorem comparison (a : Nat) (e : Int) (late : Bool) : (s.comparison a e late).Bounded := by
  have hs := h.onWitnessAxis a fun w hw => w.take_bounded (s.axis a).entry.processing.tol e hw
  unfold State.comparison
  split
  · dsimp only
    split
    · exact reportDivergence (hs.raise _) late
    · split <;> exact hs
  · exact h

theorem appendDeviation (r : DeviationRecord) : (s.appendDeviation r).Bounded := by
  have hs : (s.report Summary.addRecord).Bounded := h.report fun m hm => by
    obtain ⟨h1, h2, h3, h4, h5, h6, h7, h8, -, h10⟩ := hm
    exact ⟨h1, h2, h3, h4, h5, h6, h7, h8, stopAt_le _ _, h10⟩
  obtain ⟨hlog, hlost, haxes⟩ := hs.witness
  unfold State.appendDeviation
  dsimp only
  split
  next hroom =>
    refine followLog (hs.withWitness ⟨?_, hlost, haxes⟩)
    simpa using hroom
  next =>
    have hcount : State.Bounded { s.report Summary.addRecord with witness :=
        { (s.report Summary.addRecord).witness with
          lost := stopAt 65535 ((s.report Summary.addRecord).witness.lost + 1) } } :=
      hs.withWitness ⟨hlog, stopAt_le _ _, haxes⟩
    refine (hcount.raise .devlost).report fun m hm => ?_
    obtain ⟨h1, h2, h3, h4, h5, h6, h7, h8, h9, -⟩ := hm
    exact ⟨h1, h2, h3, h4, h5, h6, h7, h8, h9, stopAt_le _ _⟩

theorem closeFrame : s.closeFrame.Bounded := by
  unfold State.closeFrame
  dsimp only
  split
  · exact h
  · exact h.appendDeviation _

/-- A change of every witness axis within its bounds. -/
theorem mapWitness {f : WitnessAxis → WitnessAxis} (hf : ∀ w, w.bounded → (f w).bounded) :
    ∀ w ∈ s.witness.axes.map f, w.bounded := by
  obtain ⟨-, -, -, haxes⟩ := h.witness
  intro w hw
  obtain ⟨v, hv, rfl⟩ := List.mem_map.1 hw
  exact hf v (haxes v hv)

theorem emptyAccumulators : s.emptyAccumulators.Bounded := by
  obtain ⟨hlog, hlost, hlen, haxes⟩ := h.witness
  exact h.withWitness ⟨hlog, hlost, List.length_map _ |>.trans hlen,
    h.mapWitness fun w hw => ⟨hw.1, Nat.zero_le _, Nat.zero_le _⟩⟩

theorem witnessBoundary (closes : Bool) (start : FrameStart) : (s.witnessBoundary closes start).Bounded := by
  have hs : (if closes then s.closeFrame else s).Bounded := by
    split
    · exact h.closeFrame
    · exact h
  unfold State.witnessBoundary
  generalize (if closes then s.closeFrame else s) = u at hs ⊢
  dsimp only
  split
  · exact hs.emptyAccumulators
  · exact hs.emptyAccumulators.withWitness hs.emptyAccumulators.witness

theorem emptyLog : s.emptyLog.Bounded := by
  obtain ⟨-, hlost, haxes⟩ := h.witness
  exact followLog (h.withWitness ⟨Nat.zero_le _, hlost, haxes⟩)

theorem endFrame : s.endFrame.Bounded := h.emptyAccumulators.withWitness h.emptyAccumulators.witness

/-! ## The line queue (R99, R101) -/

theorem startFetch : s.startFetch.Bounded := by
  unfold State.startFetch
  split
  · split
    next hmay =>
      obtain ⟨-, -, hroom, -⟩ := hmay
      exact h.withLineQueue (Nat.succ_le_of_lt hroom)
    · exact h
  · exact h

/-- A line in assembly finds room in the queue. -/
theorem lines_lt {a : Assembly} (ha : s.lineQueue.assembly = some a) :
    s.lineQueue.lines.length + 1 ≤ Config.lineQueueDepth := by
  have := h.lineQueue
  rwa [LineQueue.bounded, ha] at this

theorem lineEntry {a : Assembly} (ha : s.lineQueue.assembly = some a) (g : Geometry) (i : Nat) (words : List Word) :
    (s.lineEntry g i words).Bounded := by
  have hq : LineQueue.bounded
      { s.lineQueue with lines := s.lineQueue.lines ++ [⟨i, words, g.tagGood i words⟩], assembly := none } := by
    simpa [LineQueue.bounded] using h.lines_lt ha
  unfold State.lineEntry
  dsimp only
  split
  · exact h.withLineQueue hq
  · refine ((h.withLineQueue hq).raise .tag).report fun m hm => ?_
    obtain ⟨h1, h2, h3, h4, h5, h6, h7, -, hrest⟩ := hm
    exact ⟨h1, h2, h3, h4, h5, h6, h7, stopAt_le _ _, hrest⟩

theorem fetchReadComplete (data : Word) : (s.fetchReadComplete data).Bounded := by
  unfold State.fetchReadComplete
  split
  next ha =>
    dsimp only
    split
    · exact h.lineEntry ha _ _ _
    · exact h.withLineQueue (h.lines_lt ha)
  · exact h

theorem restartFetch (cur : Nat) : (s.restartFetch cur).Bounded := by
  have hlen : s.lineQueue.lines.length ≤ Config.lineQueueDepth := (Nat.le_add_right _ _).trans h.lineQueue
  unfold State.restartFetch
  split
  · split
    · dsimp only
      split
      · split
        · refine dropDownstream ?_ _
          exact h.withLineQueue hlen
        · exact h.withLineQueue h.lineQueue
      · exact h.withLineQueue h.lineQueue
    · exact h
  · exact h

theorem evaluateLine (line : Nat) : (s.evaluateLine line).Bounded := by
  unfold State.evaluateLine
  split
  · refine restartFetch (h.withLineQueue ?_) _
    exact (Nat.add_le_add_right (List.length_filter_le _ _) _).trans h.lineQueue
  · exact h

theorem lineQueueBoundary : s.lineQueueBoundary.Bounded := by
  unfold State.lineQueueBoundary
  split
  · exact h.evaluateLine _
  · exact h

theorem coherenceNotice (addr : Nat) (data : Word) (lanes : BitVec 4) : (s.coherenceNotice addr data lanes).Bounded := by
  unfold State.coherenceNotice
  split
  · split
    next g i w _ _ =>
      have hq : LineQueue.bounded { s.lineQueue with
          lines := s.lineQueue.lines.map fun l => if l.index = i then l.notice g w data lanes else l
          assembly := s.lineQueue.assembly.map fun a =>
            if a.index = i then { a with words := mergeWord a.words w data lanes } else a } := by
        have := h.lineQueue
        cases ha : s.lineQueue.assembly <;> simpa [LineQueue.bounded, ha] using this
      dsimp only
      split <;> exact h.withLineQueue hq
    · exact h
  · exact h

theorem clearLineQueue : s.clearLineQueue.Bounded := dropDownstream (h.withLineQueue (Nat.zero_le _)) _

/-! ## Recording (R84, R88) -/

theorem onAxis (a : Nat) (f : Axis → Axis) : (s.onAxis a f).Bounded := h.withAxes (List.length_modify ..)

omit h in
theorem clearMarkers (axes : List Nat) : ∀ {s : State}, s.Bounded → (s.clearMarkers axes).Bounded := by
  induction axes with
  | nil => exact fun h => h
  | cons a axes ih => exact fun h => ih (h.onAxis a _)

theorem appendLine (line : RecordLine) (hroom : s.recording.queue.length < Config.recordQueueDepth) :
    (s.appendLine line).Bounded := by
  have hlen : (s.recording.queue ++ [line]).length ≤ Config.recordQueueDepth := by simpa using hroom
  exact h.withRecording ⟨hlen, Nat.max_le.2 ⟨h.recording.2, hlen⟩⟩

theorem captureLine (c : PassContext) {p : Nat} (hp : p < Config.timelineLimit) (j : Nat) (coincident : Bool) :
    (s.captureLine c p j coincident).Bounded := by
  unfold State.captureLine
  split
  · exact h
  · split
    · refine reportCaptureEnd ?_ _ hp
      exact h.withRecording h.recording
    next hroom =>
      have hs := clearMarkers (trackList c.tracks) (h.appendLine
        ⟨j, s.captureSamples c.tracks, s.captureFlags c.tracks coincident⟩ (Nat.lt_of_not_le hroom))
      dsimp only
      split
      · refine reportCaptureEnd ?_ _ hp
        exact hs.withRecording hs.recording
      · exact hs

omit h in
theorem captureGroup (c : PassContext) {p : Nat} (hp : p < Config.timelineLimit) (n : Nat) :
    ∀ {s : State}, s.Bounded → ∀ (j : Nat) (coincident : Bool), (s.captureGroup c p n j coincident).Bounded := by
  induction n with
  | zero => exact fun h _ _ => h
  | succ n ih => exact fun h j coincident => ih (h.captureLine c hp j coincident) _ _

theorem raisePoints {p : Nat} (hp : p < Config.timelineLimit) : (s.raisePoints p).Bounded := by
  unfold State.raisePoints
  split
  · split
    · dsimp only
      split
      · refine captureGroup _ hp _ ?_ _ _
        exact h.withTimebase h.timebase
      · exact h
    · exact h
  · exact h

theorem recordWriteComplete (late : Bool) : (s.recordWriteComplete late).Bounded := by
  obtain ⟨hqueue, hhigh⟩ := h.recording
  unfold State.recordWriteComplete
  split
  · split
    · dsimp only
      refine drainReport ?_ late
      refine onEntry ?_ _ fun _ he => he
      exact h.withRecording ⟨(by simp; omega), hhigh⟩
    · exact h.withRecording ⟨hqueue, hhigh⟩
  · exact h

theorem discardRecording : s.discardRecording.Bounded := by
  unfold State.discardRecording
  refine dropDownstream ?_ _
  exact h.withRecording ⟨Nat.zero_le _, h.recording.2⟩

/-! ## The memory path (R137, R141, R145) -/

theorem completeUpstream (data : Word) : (s.completeUpstream data).Bounded := by
  unfold State.completeUpstream
  split
  · exact { h with memory := h.memory }
  · exact h

theorem countPartial : s.countPartial.Bounded := by
  obtain ⟨hrun, hprotect, -⟩ := h.memory
  unfold State.countPartial
  refine raise ?_ _
  exact h.withMemory ⟨hrun, hprotect, stopAt_le _ _⟩

theorem countProtect (addr : Nat) : (s.countProtect addr).Bounded := by
  obtain ⟨hrun, -, hpartial⟩ := h.memory
  unfold State.countProtect
  refine raise ?_ _
  exact h.withMemory ⟨hrun, stopAt_le _ _, hpartial⟩

theorem startTake (r : DownstreamTxn) : (s.startTake r).Bounded := by
  have hs : State.Bounded { s with memory := { s.memory with downstream := some r } } := h.withMemory h.memory
  unfold State.startTake
  dsimp only
  split
  · exact hs.withRecording h.recording
  · refine hs.withLineQueue ?_
    have := h.lineQueue
    cases ha : s.lineQueue.assembly <;> simpa [LineQueue.bounded, ha] using this
  · exact hs

theorem grantPassThrough (t : UpstreamTxn) : (s.grantPassThrough t).Bounded := by
  unfold State.grantPassThrough
  split
  · exact h.countPartial.completeUpstream 0
  · exact (h.countProtect _).completeUpstream 0
  · exact h.withMemory h.memory

theorem setUrgentRun {n : Nat} (hn : n ≤ 4) : (s.setUrgentRun n).Bounded := by
  obtain ⟨-, hblocks⟩ := h.memory
  exact h.withMemory ⟨hn, hblocks⟩

theorem grantTake (r : DownstreamTxn) : (s.grantTake r).Bounded := by
  refine startTake (h.setUrgentRun ?_) r
  split
  · exact Nat.min_le_left _ _
  · exact Nat.zero_le _

theorem arbitrate : s.arbitrate.Bounded := by
  have hpass (t : UpstreamTxn) : ((s.setUrgentRun 0).grantPassThrough t).Bounded :=
    (h.setUrgentRun (Nat.zero_le _)).grantPassThrough t
  unfold State.arbitrate
  split
  · exact h
  · split
    · exact h
    · exact h.grantTake _
    · exact hpass _
    · split
      · exact h.grantTake _
      · dsimp only
        split
        · exact hpass _
        · exact (hpass _).grantTake _

theorem settle : s.settle.Bounded := by
  unfold State.settle
  split
  · exact h.arbitrate
  · exact h.startFetch.arbitrate

theorem settleAt (late : Bool) : (s.settleAt late).Bounded := by
  unfold State.settleAt
  split
  · exact h.startFetch
  · exact h.settle

/-! ## The interpolator (R119, R130) -/

theorem requestInterpolation (a : Nat) (mode : PassMode) : (s.requestInterpolation a mode).Bounded := by
  unfold State.requestInterpolation
  split
  next g c _ _ =>
    have hs := h.evaluateLine (s.readPlace g).2.1
    dsimp only
    split
    · refine report ?_ fun m hm => ?_
      · refine raise ?_ _
        exact hs.withInterpolator ⟨fun r hr => by cases hr; rfl, hs.interpolator.2⟩
      · obtain ⟨h1, h2, h3, h4, h5, h6, -, hrest⟩ := hm
        exact ⟨h1, h2, h3, h4, h5, h6, stopAt_le _ _, hrest⟩
    · exact hs.withInterpolator ⟨fun r hr => by cases hr; rfl, hs.interpolator.2⟩
  · exact h

omit h in
theorem addSaturate_bounded {m : Summary} (hm : m.bounded) : m.addSaturate.bounded := by
  obtain ⟨h1, h2, h3, h4, h5, -, hrest⟩ := hm
  exact ⟨h1, h2, h3, h4, h5, stopAt_le _ _, hrest⟩

theorem finishInterpolation {r : InterpRequest} (hr : r.slots.length = 4) (o : InterpOutcome) :
    (s.finishInterpolation r o).Bounded := by
  have hs : State.Bounded { s with interpolator := ⟨none, some (r.evalRecord o)⟩ } :=
    h.withInterpolator ⟨nofun, fun e he => by
      cases he
      simp [InterpRequest.evalRecord, InterpRequest.slotRecords, InterpRequest.used, hr]⟩
  have hsat : (if r.saturates then
      ((State.onAxis { s with interpolator := ⟨none, some (r.evalRecord o)⟩ } r.axis fun ax => { ax with sat := true }).raise
        .saturate).report Summary.addSaturate
      else { s with interpolator := ⟨none, some (r.evalRecord o)⟩ }).Bounded := by
    split
    · exact ((hs.onAxis _ _).raise _).report fun _ => addSaturate_bounded
    · exact hs
  unfold State.finishInterpolation
  dsimp only
  split
  · exact hsat.onAxis _ _
  · exact hsat

/-! ## The axis unit (R157 to R165) -/

theorem followClamps : s.followClamps.Bounded := by
  unfold State.followClamps
  split
  · refine h.onEntry _ fun e he => ?_
    split <;> exact he
  · exact h

theorem reportClamp : s.reportClamp.Bounded := by
  have hs : (s.report Summary.addClamp).Bounded := h.report fun m hm => by
    obtain ⟨h1, h2, h3, h4, -, hrest⟩ := hm
    exact ⟨h1, h2, h3, h4, stopAt_le _ _, hrest⟩
  unfold State.reportClamp
  dsimp only
  split
  · exact hs.followClamps
  · exact hs

theorem fixForward (v : Int) : (s.fixForward v).Bounded := h.withMemory h.memory

theorem handBack (a : Nat) (c : Int) : (s.handBack a c).Bounded := by
  unfold State.handBack
  dsimp only
  split
  · exact (((h.onAxis _ _).raise _).reportClamp).fixForward _
  · exact (h.onAxis _ _).fixForward _

theorem saturateWrite (a : Nat) (v : Int) : (s.saturateWrite a v).Bounded := by
  unfold State.saturateWrite
  split
  · exact h
  · exact ((h.onAxis _ _).raise _).report fun _ => addSaturate_bounded

theorem takeTargetWrite (a : Nat) (v : Int) : (s.takeTargetWrite a v).Bounded := by
  have hs := h.saturateWrite a v
  unfold State.takeTargetWrite
  dsimp only
  split
  · exact hs.handBack _ _
  · refine requestInterpolation ?_ _ _
    exact hs

theorem finishWrite (w : WriteInProcessing) (o : InterpOutcome) (late : Bool) : (s.finishWrite w o late).Bounded := by
  have hs := handBack (s := { s with writeInProcessing := none }) h w.axis (w.candidate o)
  unfold State.finishWrite
  dsimp only
  split
  · exact hs.comparison _ _ _
  · exact hs

theorem finishHeldWrite : s.finishHeldWrite.Bounded := by
  unfold State.finishHeldWrite
  split
  · exact handBack (s := { s with writeInProcessing := none, interpolator := { s.interpolator with inFlight := none } })
      (h.withInterpolator ⟨nofun, h.interpolator.2⟩) _ _
  · exact h

theorem observeFeedback (a : Nat) (data : Word) (late : Bool) : (s.observeFeedback a data late).Bounded := by
  have hs : (s.onAxis a fun ax => { ax with lastFeedback := some (saturate24 data.toInt) }).Bounded := h.onAxis _ _
  unfold State.observeFeedback
  dsimp only
  split
  · exact h
  · split
    · split
      · exact hs.comparison _ _ _
      · exact hs
    · exact hs

theorem activatePending : s.activatePending.Bounded := h.withAxes (List.length_map _)

/-! ## The pass controller and the camera status receiver (chapters 3 and 4) -/

theorem cameraBoundary : s.cameraBoundary.Bounded := by
  obtain ⟨-, hcounts⟩ := h.camera
  have hring := s.camera.fileSlot_ring_length_le
  unfold State.cameraBoundary
  dsimp only
  split
  · split <;> exact h.withCamera ⟨hring, hcounts⟩
  · exact h.withCamera ⟨hring, hcounts⟩

theorem declarationReaches (old new : Byte) : (s.declarationReaches old new).Bounded := by
  unfold State.declarationReaches
  split
  · split
    · exact setPass (s := { s with pass := { s.pass with preroll := none } }) h _
    all_goals exact h
  · exact h

theorem makeRecordInfo : s.makeRecordInfo.Bounded := by
  unfold State.makeRecordInfo
  split
  · split
    · exact h.onEntry _ fun _ he => he
    · exact h
  · exact h

theorem firstRun : s.firstRun.Bounded := by
  unfold State.firstRun
  split
  · exact h
  · exact makeRecordInfo (onSummary (s := { s with pass := { s.pass with hasRun := true } }) h fun _ hm => hm)

theorem position_lt : s.timebase.position.getD 0 < Config.timelineLimit := by
  obtain ⟨-, -, -, -, -, -, -, -, hposition, -⟩ := h.timebase
  cases hp : s.timebase.position with
  | none => exact Nat.zero_lt_succ _
  | some p => exact hposition p hp

theorem enterRunning : s.enterRunning.Bounded := by
  have hs := (firstRun (s := { s with pass := { s.pass with preroll := none, pending := none } }) h).setPass .running
  exact hs.raisePoints hs.position_lt

theorem applyRequest (r : Request) : (s.applyRequest r).Bounded := by
  cases r with
  | stop => exact h.endPass _
  | cut => exact h.endPass _
  | divergedStop => exact h.endPass _
  | park => exact setPass (s := s.emptySlot) h _
  | resume => exact h.enterRunning

theorem applyPending : s.applyPending.Bounded := by
  unfold State.applyPending
  split
  · exact h.applyRequest _
  · exact h

theorem enterPreroll (n : Nat) (o : Origin) : (s.enterPreroll n o).Bounded :=
  setPass (s := { s with pass := { s.pass with preroll := some ⟨n, o⟩ } }) h _

theorem passBoundary (b : HandedOn) : (s.passBoundary b).Bounded := by
  unfold State.passBoundary
  split
  · split
    · split
      · exact h.enterRunning
      · exact h.enterPreroll _ _
    · exact h
  · split
    · split
      · exact h.enterRunning
      · exact h
    · exact h.enterRunning
  · split
    · exact h.endPass _
    · exact h.applyPending
  · exact h.applyPending
  · exact h

theorem withDeclared (w : Byte) : (s.withDeclared w).Bounded := h.withCamera h.camera

theorem controllerBoundary (old new : Byte) (first : Bool) (b : HandedOn) :
    (s.controllerBoundary old new first b).Bounded := by
  unfold State.controllerBoundary
  split
  · exact h.passBoundary b
  · split
    · exact (h.declarationReaches old new).passBoundary b
    · exact (((h.withDeclared old).passBoundary b).withDeclared new).declarationReaches old new

theorem updateOffset : s.updateOffset.Bounded := by
  obtain ⟨h1, h2, h3, h4, h5, h6, h7, h8, h9, h10, h11, -⟩ := h.timebase
  obtain ⟨hlo, hhi⟩ := clampInt_bounds (-32767) 32767 ((s.timebase.passPulses : Int) - s.timebase.advances) (by decide)
  have hslips : stopAt 65535 (s.timebase.slips + 1) ≤ 65535 := stopAt_le _ _
  unfold State.updateOffset
  dsimp only
  split
  · exact h
  · refine report ?_ fun m hm => ?_
    · refine raise ?_ _
      exact h.withTimebase ⟨h1, h2, h3, h4, h5, h6, h7, h8, h9, h10, h11, hlo, hhi, hslips⟩
    obtain ⟨hframes, -, -, -, hrest⟩ := hm
    exact ⟨hframes, hlo, hhi, hslips, hrest⟩

theorem toIdle : s.toIdle.Bounded := by
  unfold State.toIdle
  refine setPass ?_ _
  exact h.withPosition (p := none) nofun

theorem abortPass : s.abortPass.Bounded :=
  ((((h.updateOffset.setOutcome .aborted).toIdle.clearLineQueue.discardRecording).finishRecording
    true).endFrame).finishHeldWrite

/-! ## Lock states and marks (R3 to R10) -/

theorem setLock (l : LockState) : (s.setLock l).Bounded := by
  unfold State.setLock
  split
  · exact h
  · refine raise ?_ _
    exact h.withTimebase h.timebase

theorem clearWatch : s.clearWatch.Bounded := h.withTimebase h.timebase

omit h in
/-- FREE is entered with a holdover count of 0, whatever the count before it (R3). -/
theorem enterFree_of_count (h : State.Bounded { s with timebase := { s.timebase with holdoverCount := 0 } }) :
    s.enterFree.Bounded := by
  obtain ⟨-, -, -, hrest⟩ := h.timebase
  unfold State.enterFree
  refine setLock (clearWatch ?_) _
  exact h.withTimebase ⟨Nat.zero_le _, Nat.zero_le _, Nat.zero_le _, hrest⟩

/-- A holdover count of 0 is within every limit. -/
theorem zeroCount : State.Bounded { s with timebase := { s.timebase with holdoverCount := 0 } } := by
  obtain ⟨hrun, hlen, -, hrest⟩ := h.timebase
  exact h.withTimebase ⟨hrun, hlen, Nat.zero_le _, hrest⟩

theorem enterFree : s.enterFree.Bounded := enterFree_of_count h.zeroCount

theorem addMark (m : Mark) : (s.addMark m).Bounded := by
  obtain ⟨hrun, -, hcount, hrest⟩ := h.timebase
  have hlen := addToHistory_length_le Config.qualificationDepth s.timebase.history m
  unfold State.addMark
  dsimp only
  split
  · refine setLock ?_ _
    exact h.withTimebase ⟨Nat.zero_le _, hlen, Nat.zero_le _, hrest⟩
  · exact h.withTimebase ⟨hrun, hlen, hcount, hrest⟩

theorem enterLocked : s.enterLocked.Bounded := by
  obtain ⟨-, -, hrest⟩ := h.timebase
  unfold State.enterLocked
  refine setLock (clearWatch ?_) _
  exact h.withTimebase ⟨Nat.le_refl _, Nat.zero_le _, hrest⟩

omit h in
theorem loseSync (h : State.Bounded { s with timebase := { s.timebase with holdoverCount := 0 } }) :
    s.loseSync.Bounded := by
  unfold State.loseSync
  refine enterFree_of_count ?_
  unfold State.report
  split
  · exact h
  · exact h.onSummary fun _ hm => hm

/-! ## The making of a boundary (R12, R13, R16) -/

theorem causeRelock : s.causeRelock.Bounded := h.enterLocked.addMark _

theorem causePulse : s.causePulse.Bounded := h.clearWatch.addMark _

theorem causeSubstituted : s.causeSubstituted.Bounded := h.clearWatch.addMark _

theorem causeFlywheel : s.causeFlywheel.Bounded := by
  obtain ⟨hrun, hlen, -, hrest⟩ := h.timebase
  unfold State.causeFlywheel
  split
  · dsimp only
    split
    · refine loseSync ?_
      exact h.withTimebase ⟨hrun, hlen, Nat.zero_le _, hrest⟩
    next hlimit => exact h.withTimebase ⟨hrun, hlen, Nat.le_of_not_lt hlimit, hrest⟩
  · exact h

theorem applySettings {p : TimebaseSettings} (hp : s.timebase.pending = some p) : (s.applySettings p).Bounded := by
  obtain ⟨hrun, hlen, -, -, hpending, hrest⟩ := h.timebase
  unfold State.applySettings
  refine enterFree_of_count ?_
  exact h.withTimebase ⟨hrun, hlen, Nat.zero_le _, hpending p hp, nofun, hrest⟩

theorem writeRecord (kind : BoundaryKind) : (s.writeRecord kind).Bounded := by
  obtain ⟨h1, h2, h3, h4, h5, h6, -, hrest⟩ := h.timebase
  exact h.withTimebase ⟨h1, h2, h3, h4, h5, h6, Nat.zero_le _, hrest⟩

theorem openFrame (kind : BoundaryKind) {cause : State → State} (hcause : (cause s).Bounded) :
    (s.openFrame kind cause).Bounded := by
  unfold State.openFrame
  split
  next hp => exact (h.applySettings hp).writeRecord kind
  · exact hcause.writeRecord kind

theorem advance (hlimit : s.atTimelineLimit = false) : s.advance.Bounded := by
  obtain ⟨h1, h2, h3, h4, h5, h6, h7, h8, -, h10, -, hrest⟩ := h.timebase
  have hn : stopAt Config.countLimit (s.timebase.advances + 1) ≤ Config.countLimit := stopAt_le _ _
  unfold State.advance
  refine report ?_ fun m hm => ?_
  · refine h.withTimebase ⟨h1, h2, h3, h4, h5, h6, h7, h8, fun p hp => ?_, h10, hn, hrest⟩
    cases hp
    simpa [State.atTimelineLimit] using hlimit
  · exact ⟨hn, hm.2⟩

theorem raiseToS : s.raiseToS.Bounded := h.raisePoints h.position_lt

theorem toWitness (order : BoundaryOrder) (b : HandedOn) : (s.toWitness order b).Bounded := by
  unfold State.toWitness
  split
  · exact h
  · exact h.witnessBoundary _ _

theorem toController (order : BoundaryOrder) (b : HandedOn) : (s.toController order b).Bounded := by
  have hcamera := h.cameraBoundary
  have hpass := hcamera.controllerBoundary s.camera.declared s.cameraBoundary.camera.declared order.declarationFirst b
  unfold State.toController
  dsimp only
  split
  · exact hcamera
  · split
    · exact hpass.raiseToS.drainReport _
    · exact hpass.drainReport _

theorem handOver (order : BoundaryOrder) (b : HandedOn) : (s.handOver order b).Bounded :=
  (((h.activatePending.toWitness order b).lineQueueBoundary).toController order b).settle

theorem deliver (d : Delivery) : (s.deliver d).Bounded := by
  cases d with
  | witness closes start => exact h.witnessBoundary _ _
  | controller b old new first late => exact (h.controllerBoundary old new first b).drainReport late
  | divergence => exact h.divergenceReport
  | drain => exact h.drainCheck
  | slot => exact h

theorem deliverNext : s.deliverNext.Bounded := by
  unfold State.deliverNext
  split
  · refine settle (deliver ?_ _)
    exact h
  · exact h

theorem makeBoundary (kind : BoundaryKind) (order : BoundaryOrder) {cause : State → State}
    (hcause : (cause s).Bounded) : (s.makeBoundary kind order cause).Bounded := by
  have hopen := h.openFrame kind hcause
  unfold State.makeBoundary
  generalize s.openFrame kind cause = u at hopen ⊢
  have hadvance : (if (s.pass.state == .running) && !((s.pass.state == .running) && u.atTimelineLimit) then u.advance
      else u).Bounded := by
    split
    next hbelow => exact hopen.advance (by simp at hbelow; simpa [hbelow.1] using hbelow.2)
    · exact hopen
  dsimp only
  generalize (if (s.pass.state == .running) && !((s.pass.state == .running) && u.atTimelineLimit) then u.advance
      else u) = v at hadvance ⊢
  refine handOver ?_ _ _
  have hraise : ∀ q : Prop, [Decidable q] → (if q then v.raiseToS else v).Bounded := fun q _ => by
    split
    · exact hadvance.raiseToS
    · exact hadvance
  split
  · exact (hraise _).updateOffset
  · exact hraise _

/-! ## The evaluation of a pulse (R1 to R9) -/

theorem withRun {r : Nat} (hr : r ≤ 8) : State.Bounded { s with timebase := { s.timebase with run := r } } :=
  h.withTimebase ⟨hr, h.timebase.2⟩

theorem pulseInFree : s.pulseInFree.Bounded := by
  unfold State.pulseInFree
  split
  · refine setLock ?_ _
    exact h.withRun (by decide)
  · exact h.withRun (by decide)

theorem pulseInAcquire (order : BoundaryOrder) : (s.pulseInAcquire order).Bounded := by
  unfold State.pulseInAcquire
  split
  · split
    · split
      · exact h.withTimebase ⟨Nat.le_refl _, h.timebase.2⟩
      · exact h.makeBoundary _ _ h.causeRelock
    · exact h.withRun (by omega)
  · exact h.enterFree

theorem pulseInLocked (order : BoundaryOrder) : (s.pulseInLocked order).Bounded := by
  unfold State.pulseInLocked
  split
  · exact h.makeBoundary _ _ h.causePulse
  · exact h.addMark _

theorem pulseInHoldover (order : BoundaryOrder) : (s.pulseInHoldover order).Bounded := by
  unfold State.pulseInHoldover
  dsimp only
  split
  · split
    · split
      · exact h.makeBoundary _ _ h.causeRelock
      · exact h.enterLocked
    · exact h.withTimebase ⟨by dsimp only; omega, h.timebase.2⟩
  · exact h.withRun (by decide)

theorem evaluatePulse (order : BoundaryOrder) : (s.evaluatePulse order).Bounded := by
  unfold State.evaluatePulse
  split
  · exact h.pulseInFree
  · exact h.pulseInAcquire order
  · exact h.pulseInLocked order
  · exact h.pulseInHoldover order

theorem countPulse : s.countPulse.Bounded := by
  obtain ⟨h1, h2, h3, h4, h5, h6, h7, h8, h9, -, hrest⟩ := h.timebase
  unfold State.countPulse
  split
  · exact h.withTimebase ⟨h1, h2, h3, h4, h5, h6, h7, h8, h9, stopAt_le _ _, hrest⟩
  · exact h

theorem pulse (order : BoundaryOrder) : (s.pulse order).Bounded := by
  have hs := h.countPulse.evaluatePulse order
  obtain ⟨h1, h2, h3, h4, h5, -, hrest⟩ := hs.timebase
  unfold State.pulse
  split
  · exact h
  · exact hs.withTimebase ⟨h1, h2, h3, h4, h5, fun i hi => by cases hi; exact Nat.zero_le _, hrest⟩

/-! ## Time (R1, R11, R12) -/

theorem count (n : Nat) : (s.count n).Bounded := by
  obtain ⟨h1, h2, h3, h4, h5, -, -, -, hrest⟩ := h.timebase
  unfold State.count
  split
  · exact h
  · refine { h with timebase := ⟨h1, h2, h3, h4, h5, fun i hi => ?_, stopAt_le _ _, Nat.mod_lt _ (by decide), hrest⟩,
                    camera := h.camera }
    obtain ⟨j, -, rfl⟩ := Option.mem_map.1 hi
    exact stopAt_le _ _

omit h in
theorem runningPosition_lt (s : State) : s.runningPosition < Config.timelineLimit := by
  unfold State.runningPosition
  exact (Nat.min_le_right _ _).trans_lt (by decide)

theorem samplePointNow : s.samplePointNow.Bounded := by
  unfold State.samplePointNow
  split
  · exact (h.raisePoints (runningPosition_lt s)).settle
  · exact h

theorem flywheelNow (order : BoundaryOrder) : (s.flywheelNow order).Bounded := h.makeBoundary _ _ h.causeFlywheel

theorem substituteNow (order : BoundaryOrder) : (s.substituteNow order).Bounded := h.makeBoundary _ _ h.causeSubstituted

theorem resetRun : s.resetRun.Bounded := h.withTimebase ⟨Nat.zero_le _, h.timebase.2⟩

theorem nextByte : s.nextByte.Bounded := by
  unfold State.nextByte
  split <;> exact h

/-! ## Resets -/

theorem beginReset : s.beginReset.Bounded := by
  unfold State.beginReset
  split
  · exact h
  · refine arbitrate ?_
    exact { h with
      recording := ⟨Nat.zero_le _, Nat.zero_le _⟩, lineQueue := Nat.zero_le _, memory := h.memory
      interpolator := ⟨nofun, h.interpolator.2⟩ }

end

/-- The reset values are within their bounds. -/
theorem reset : State.reset.Bounded := by
  constructor <;> decide

section
variable {s : State} (h : s.Bounded)
include h

omit h in
theorem endReset : s.endReset.Bounded := { reset with memory := reset.memory }

theorem fireOwn (ev : OwnEvent) : (s.fireOwn ev).Bounded := by
  have hs : State.Bounded { s with openOrders := s.openOrders + 1 } := h
  cases ev with
  | flywheel => exact hs.flywheelNow _
  | substituted => exact hs.substituteNow _
  | runReset => exact hs.resetRun
  | samplePoint => exact hs.samplePointNow
  | resetEnd => exact endReset
  | delivery => exact hs.deliverNext
  | requestByte => exact hs.nextByte

theorem elapse (n : Nat) : (s.elapse n).Bounded :=
  State.elapse_induction (fun _ n h => h.count n) (fun _ d ev _ h => (h.count d).fireOwn ev) s n h

theorem takeBoundaries : s.takeBoundaries.Bounded := by
  have hall (ds : List Delivery) : ∀ {s : State}, s.Bounded → (ds.foldl State.deliver s).Bounded := by
    induction ds with
    | nil => exact fun h => h
    | cons d ds ih => exact fun h => ih (h.deliver d)
  unfold State.takeBoundaries
  split
  · refine settle (hall _ ?_)
    exact h
  · exact h

/-! ## The rows of the pins and the bus -/

theorem takeUpstream (x : UpstreamTxn) (late : Bool) : (s.takeUpstream x late).Bounded := by
  unfold State.takeUpstream
  split
  · split
    · refine settleAt (takeTargetWrite ?_ _ _) late
      exact h.withMemory h.memory
    · refine completeUpstream (countPartial ?_) 0
      exact h.withMemory h.memory
  · refine settleAt ?_ late
    exact h.withMemory h.memory

theorem passThroughComplete (d : DownstreamTxn) (data : Word) (late : Bool) :
    (s.passThroughComplete d data late).Bounded := by
  have hs := h.completeUpstream data
  have hfeedback : (match s.memory.upstream with
      | some t =>
        match t.cls, t.axis with
        | .feedback, some a =>
          if !t.write && fullWord t.lanes && !t.throughReset then (s.completeUpstream data).observeFeedback a data late
          else s.completeUpstream data
        | _, _ => s.completeUpstream data
      | none => s.completeUpstream data : State).Bounded := by
    split
    · split
      · split
        · exact hs.observeFeedback _ _ _
        · exact hs
      · exact hs
    · exact hs
  unfold State.passThroughComplete
  dsimp only
  split
  · exact hfeedback.coherenceNotice _ _ _
  · exact hfeedback

theorem completeDownstream (d : DownstreamTxn) (data : Word) (late : Bool) :
    (s.completeDownstream d data late).Bounded := by
  have hs : State.Bounded { s with memory := { s.memory with downstream := none } } := h.withMemory h.memory
  unfold State.completeDownstream
  dsimp only
  split
  · exact hs
  · split
    · exact hs.passThroughComplete _ _ _
    · exact hs.recordWriteComplete _
    · exact hs.fetchReadComplete _
    · exact hs.verifyReadComplete _

theorem character (data : Byte) (parity stop : Bool) :
    State.Bounded { s with camera := s.camera.character data parity stop } := by
  obtain ⟨hring, hwords, herrors⟩ := h.camera
  refine h.withCamera ?_
  cases hgood : stop && parityGood data parity
  · simp only [Camera.character, hgood]
    exact ⟨hring, hwords, stopAt_le _ _⟩
  · simp only [Camera.character, hgood]
    exact ⟨hring, stopAt_le _ _, herrors⟩

theorem shiftOut (n : Nat) : (s.shiftOut n).Bounded := h

end

/-- Every pin or bus event keeps the bounds. -/
theorem exec_event {s t : State} (h : s.Bounded) {c : Instr} (hevent : frameOf c = none) (hexec : exec c s = .next t) :
    t.Bounded := by
  cases c
  case syncPulse after order =>
    cases hexec
    have hs := (h.elapse after).takeBoundaries
    split
    · exact hs
    · exact hs.pulse order
  case flywheelBoundary order =>
    cases hexec
    split
    · exact h
    · exact ((h.elapse _).takeBoundaries).flywheelNow order
  case substitutedBoundary order =>
    cases hexec
    split
    · exact h
    · exact ((h.elapse _).takeBoundaries).substituteNow order
  case holdoverRunReset =>
    cases hexec
    split
    · exact h
    · split
      · exact (h.elapse _).resetRun
      · exact h
  case samplePoint =>
    cases hexec
    split
    · exact h
    · dsimp only
      split
      · split
        · exact (h.takeBoundaries.elapse _).samplePointNow
        · exact h.takeBoundaries
      · exact h.takeBoundaries
  case statusCharacter after data parity stop =>
    cases hexec
    have hs := h.elapse after
    split
    · exact hs
    · split
      · exact hs.character data parity stop
      · exact hs
  case upstreamTransactionTaken presented write address lanes data =>
    cases hexec
    have hs := h.elapse presented.after
    split
    · exact hs
    · exact hs.takeUpstream _ _
  case interpolationEnd completion =>
    cases hexec
    have hs := h.elapse completion.after
    split
    next r w hr _ =>
      exact ((hs.finishInterpolation (hs.interpolator.1 r hr) _).finishWrite w _ _).settleAt _
    · exact hs
  case downstreamComplete completion data =>
    cases hexec
    have hs := h.elapse completion.after
    split
    · exact (hs.completeDownstream _ _ _).settleAt _
    · exact hs
  case selectFall opening =>
    cases hexec
    have hs := h.elapse opening.after
    split
    · exact hs
    · split <;> exact hs
  case selectRise after clocked =>
    cases hexec
    have hs := h.elapse after
    have hshift : (if (s.elapse after).port.phase = .response then (s.elapse after).shiftOut clocked
        else s.elapse after).Bounded := by
      split <;> exact hs
    dsimp only
    split
    · exact hs
    · split
      · exact hs
      · generalize (if (s.elapse after).port.phase = .response then (s.elapse after).shiftOut clocked
          else s.elapse after) = u at hshift ⊢
        split
        · refine beginReset ?_
          exact hshift
        · exact hshift
  case powerOn up =>
    cases hexec
    refine beginReset ?_
    exact h.elapse up.after
  case resetPin after =>
    cases hexec
    refine beginReset ?_
    exact h.elapse after
  case resetEnd =>
    cases hexec
    split
    · exact endReset
    · exact h
  case statusStartEdge after low =>
    cases hexec
    have hs := h.elapse after
    split
    · exact hs
    · split
      · exact hs.withCamera hs.camera
      · exact hs
  case statusLineReturnHigh after =>
    cases hexec
    have hs := h.elapse after
    split
    · exact hs
    · split
      · exact hs.withCamera hs.camera
      · exact hs
  case resetPinRelease after =>
    cases hexec
    have hs := h.elapse after
    dsimp only
    split <;> exact hs
  all_goals cases hevent

/-! ## The bodies of the commands -/

section
variable {s : State} (h : s.Bounded)
include h

theorem clearEvents (named : BitVec 16) : (s.clearEvents named).Bounded := by
  unfold State.clearEvents
  refine followLog ?_
  exact { h with memory := h.memory }

theorem setTimebase (nNom window holdoverLimit : Nat) : (s.setTimebase nNom window holdoverLimit).state.Bounded := by
  obtain ⟨h1, h2, h3, h4, -, hrest⟩ := h.timebase
  unfold State.setTimebase
  split
  · exact h
  · refine h.withTimebase ⟨h1, h2, h3, h4, fun p hp => ?_, hrest⟩
    cases hp
    obtain ⟨hn1, hn2⟩ := clampNat_bounds 125000 50000000 nNom (by decide)
    obtain ⟨hw1, hw2⟩ := clampNat_bounds 1 32 window (by decide)
    obtain ⟨hl1, hl2⟩ := clampNat_bounds 1 255 holdoverLimit (by decide)
    exact ⟨hn1, hn2, hw1, hw2, hl1, hl2⟩

theorem setRegion (base size : Nat) : (s.setRegion base size).state.Bounded := by
  unfold State.setRegion
  dsimp only
  (repeat' split)
  · exact h
  · exact h
  · exact { h with directory := h.directory }

theorem declareTake (t base lines : Nat) (k : Byte) (tracks : AxisSet) :
    (s.declareTake t base lines k tracks).state.Bounded := by
  unfold State.declareTake
  (repeat' split)
  all_goals try exact h
  refine ((h.setEntry t fun x hx => ?_).verifyAppend t).settle
  cases hx
  unfold declaredEntry
  split
  · exact Nat.zero_le _
  next he =>
    have hcount := h.passCount_entry he
    exact hcount

theorem deleteTake (t : Nat) : (s.deleteTake t).state.Bounded := by
  have hs := h.setEntry t (e := none) nofun
  unfold State.deleteTake
  split
  · exact h
  · split
    · exact h
    · dsimp only
      split
      · exact (hs.verifyRemove t).settle
      · exact hs.settle

theorem protectTake (t : Nat) (g : Bool) : (s.protectTake t g).state.Bounded := by
  unfold State.protectTake
  dsimp only
  split
  · exact h
  · refine h.onEntry _ fun e he => ?_
    unfold TakeEntry.setGuarded
    split <;> exact he

theorem makeAlias (t parent offset length : Nat) : (s.makeAlias t parent offset length).state.Bounded := by
  unfold State.makeAlias
  (repeat' split)
  all_goals try exact h
  exact h.setEntry t fun x hx => by cases hx; exact Nat.zero_le _

omit h in
/-- An offset of 0 is within the bounds of the frame offset (R20). -/
theorem offset_zero : -32767 ≤ (0 : Int) ∧ (0 : Int) ≤ 32767 := by decide

theorem arm (c : PassContext) (hstart : c.startFrame < 65536) : (s.arm c).Bounded := by
  obtain ⟨h1, h2, h3, h4, h5, h6, h7, h8, -⟩ := h.timebase
  unfold State.arm
  refine setPass ?_ _
  refine { h with timebase := ⟨h1, h2, h3, h4, h5, h6, h7, h8, fun p hp => ?_, Nat.zero_le _, Nat.zero_le _,
             offset_zero.1, offset_zero.2, Nat.zero_le _⟩, summary := fun m hm => ?_ }
  · cases hp
    simp only [Config.timelineLimit]
    omega
  · cases hm
    simp [Summary.bounded, newSummary]

theorem openRecording : s.openRecording.Bounded := by
  unfold State.openRecording
  refine clearMarkers _ ?_
  exact h.withRecording ⟨Nat.zero_le _, Nat.zero_le _⟩

theorem recordArm (t base maxLines : Nat) (k : Byte) (tracks : AxisSet) (trigger requireLock : Byte)
    (preroll pace length : Nat) :
    (s.recordArm t base maxLines k tracks trigger requireLock preroll pace length).state.Bounded := by
  unfold State.recordArm
  dsimp only
  (repeat' split)
  all_goals try exact h
  exact ((h.setEntry t fun x hx => by cases hx; exact Nat.zero_le _).arm _ (Nat.zero_lt_succ _)).openRecording

theorem startQueue (g : Geometry) (s0 : Nat) : (s.startQueue g s0).Bounded := h.clearLineQueue.withLineQueue (Nat.zero_le _)

theorem uncheckSources : s.uncheckSources.Bounded := by
  obtain ⟨hlog, hlost, hlen, haxes⟩ := h.witness
  refine h.withWitness ⟨hlog, hlost, List.length_mapIdx.trans hlen, fun w hw => ?_⟩
  obtain ⟨i, hi, rfl⟩ := List.mem_mapIdx.1 hw
  split
  · exact haxes _ (List.getElem_mem hi)
  · exact ⟨Nat.zero_le _, Nat.zero_le _, Nat.zero_le _⟩

theorem forgetResults : s.forgetResults.Bounded := h.withAxes (List.length_map _)

theorem readArm (mode : PassMode) (t : Nat) {startFrame : Nat} (hstart : startFrame < 65536) (pace : Nat)
    (interp trigger requireLock : Byte) (preroll resumePreroll : Nat) (policy : Byte) :
    (s.readArm mode t startFrame pace interp trigger requireLock preroll resumePreroll policy).state.Bounded := by
  unfold State.readArm
  (repeat' split)
  all_goals try exact h
  exact (((((h.arm _ hstart).startQueue _ _).uncheckSources).forgetResults).emptyLog).settle

theorem passResetRest : s.passResetRest.Bounded := by
  have hs := h.emptyLog.endFrame.activatePending
  obtain ⟨h1, h2, h3, h4, h5, h6, h7, h8, h9, -⟩ := hs.timebase
  obtain ⟨hlog, -, hlen, haxes⟩ := hs.witness
  refine { hs with
    timebase := ⟨h1, h2, h3, h4, h5, h6, h7, h8, h9, Nat.zero_le _, Nat.zero_le _, offset_zero.1, offset_zero.2,
      Nat.zero_le _⟩
    summary := nofun, memory := hs.memory
    witness := ⟨hlog, Nat.zero_le _, (List.length_map _).trans hlen,
      hs.mapWitness fun w _ => ⟨Nat.zero_le _, Nat.zero_le _, Nat.zero_le _⟩⟩ }

theorem setCamera (rule : Byte) : (s.setCamera rule).state.Bounded := by
  unfold State.setCamera
  split
  · exact h
  · exact h.withCamera ⟨Nat.zero_le _, Nat.zero_le _, Nat.zero_le _⟩

theorem setAxis (axis enabled : Byte) (target : BitVec 24) (present : Byte) (feedback min max step : BitVec 24)
    (tol : BitVec 16) (source : Byte) (scale : BitVec 16) (offset : BitVec 24) :
    (s.setAxis axis enabled target present feedback min max step tol source scale offset).state.Bounded := by
  unfold State.setAxis
  dsimp only
  (repeat' split)
  all_goals try exact h
  all_goals exact h.onAxis _ _

theorem clearAxisFlags (axes : AxisSet) : (s.clearAxisFlags axes).Bounded := h.withAxes List.length_mapIdx

theorem setInject (axis action : Byte) (offset : Int) : (s.setInject axis action offset).state.Bounded := by
  unfold State.setInject
  dsimp only
  (repeat' split)
  · exact h
  · exact h.onWitnessAxis _ fun _ hw => hw
  · exact h.onWitnessAxis _ fun _ hw => hw
  · exact h

theorem readDeviation : s.readDeviation.state.Bounded := by
  obtain ⟨hlog, hrest⟩ := h.witness
  unfold State.readDeviation
  split
  · exact h
  next r rest hcons =>
    refine followLog ?_
    rw [hcons] at hlog
    exact h.withWitness ⟨(Nat.le_succ _).trans hlog, hrest⟩

/-- The body of every command keeps the bounds. -/
theorem commandBody (c : Instr) : (commandBody c s).state.Bounded := by
  cases c
  all_goals dsimp only [Machine.commandBody, readBody, accept, refuse]
  case clearEvents named => exact h.clearEvents named
  case setTimebase => exact h.setTimebase _ _ _
  case setRegion => exact h.setRegion _ _
  case declare => exact h.declareTake _ _ _ _ _
  case delete => exact h.deleteTake _
  case protect => exact h.protectTake _ _
  case unprotect => exact h.protectTake _ _
  case aliasTake => exact h.makeAlias _ _ _ _
  case recordArm => exact h.recordArm _ _ _ _ _ _ _ _ _ _
  case replayArm take startFrame _ _ _ _ _ _ _ => exact h.readArm _ _ startFrame.isLt _ _ _ _ _ _ _
  case witnessArm take startFrame _ _ _ _ _ _ _ => exact h.readArm _ _ startFrame.isLt _ _ _ _ _ _ _
  case setCamera rule => exact h.setCamera rule
  case setAxis => exact h.setAxis _ _ _ _ _ _ _ _ _ _ _ _
  case clearAxisFlags axes => exact h.clearAxisFlags axes
  case inject => exact h.setInject _ _ _
  case readDeviation => exact h.readDeviation
  case readTake => unfold State.readTake; split <;> exact h
  case getAxis => unfold State.readOfAxis; split <;> exact h
  case readAxis => unfold State.readOfAxis; split <;> exact h
  case readWitness => unfold State.readOfAxis; split <;> exact h
  case stop => split <;> exact h
  case park => split <;> exact h
  case resume =>
    split
    · split
      · exact h
      · refine enterPreroll ?_ _ _
        exact h
    · exact h
  case abort =>
    split
    · exact h
    · exact h.abortPass.settle
  case clear =>
    split
    · refine settle (finishHeldWrite (endFrame ?_))
      exact h.toIdle.clearLineQueue.withRecording h.toIdle.clearLineQueue.recording
    · exact h
  case passReset =>
    split
    · exact h.passResetRest
    · exact h.abortPass.settle.passResetRest
  all_goals exact h

theorem takeCommand (fr : Frame) (c : Instr) : (s.takeCommand fr (Machine.commandBody c)).Bounded := by
  rcases s.takeCommand_cases fr (Machine.commandBody c) with ht | ⟨-, ht⟩ | ht
  · rw [ht]
    exact commandBody (s := s.takeBoundaries.receive fr) h.takeBoundaries c
  · rw [ht]
    exact h
  · rw [ht]
    exact h

theorem exec {c : Instr} {t : State} (hexec : exec c s = .next t) : t.Bounded := by
  cases hfr : frameOf c with
  | none => exact h.exec_event hfr hexec
  | some fr =>
    rw [eq_takeCommand_of_exec hfr hexec]
    exact h.takeCommand fr c

end

end State.Bounded

/-! ## What has been received of a request (R188, R189) -/

/-- A change of other fields of the port leaves what has been received. -/
theorem Port.receiving.congr {p q : Port} (h : p.receiving)
    (hsame : q.phase = p.phase ∧ q.code = p.code ∧ q.length = p.length ∧ q.args = p.args) : q.receiving := by
  obtain ⟨hphase, hcode, hlength, hargs⟩ := hsame
  simpa only [Port.receiving, hphase, hcode, hlength, hargs] using h

/-- In IDLE, RESPONSE and IGNORED nothing is being received. -/
theorem Port.receiving_of_phase {p : Port} (h : p.phase = .idle ∨ p.phase = .response ∨ p.phase = .ignored) :
    p.receiving := by
  rcases h with h | h | h <;> simp [Port.receiving, h]

section
variable {s : State} (h : s.port.receiving)
include h

theorem State.nextByte_receiving : s.nextByte.port.receiving := by
  unfold State.nextByte
  split
  next rest _ =>
    exact Port.clockByte_receiving { s.port with incoming := rest } _ h
  · exact h

omit h in
theorem State.endReset_receiving : s.endReset.port.receiving := by
  refine Port.receiving_of_phase ?_
  unfold State.endReset
  dsimp only
  split
  · exact .inl rfl
  · exact .inr (.inr rfl)

theorem State.fireOwn_receiving (ev : OwnEvent) : (s.fireOwn ev).port.receiving := by
  have hs : State.port { s with openOrders := s.openOrders + 1 } |>.receiving := h
  unfold State.fireOwn
  cases ev with
  | requestByte => exact State.nextByte_receiving hs
  | resetEnd => exact State.endReset_receiving
  | _ => exact h.congr (by simp)

theorem State.elapse_receiving (n : Nat) : (s.elapse n).port.receiving :=
  State.elapse_induction (P := fun s => s.port.receiving)
    (fun _ _ h => h.congr (by simp))
    (fun _ _ ev _ h => State.fireOwn_receiving (h.congr (by simp)) ev) s n h

theorem State.beginReset_receiving : s.beginReset.port.receiving := by
  unfold State.beginReset
  split
  · exact h
  · refine Port.receiving_of_phase (.inr (.inr ?_))
    simp

/-- Every pin or bus event leaves what has been received fitting its phase. -/
theorem exec_event_receiving {t : State} {c : Instr} (hevent : frameOf c = none) (hexec : exec c s = .next t) :
    t.port.receiving := by
  cases c
  case syncPulse after order =>
    cases hexec
    refine (State.elapse_receiving h after).congr ?_
    split <;> simp
  case flywheelBoundary order =>
    cases hexec
    split
    · exact h
    · exact (State.elapse_receiving h s.boundaryIn).congr (by simp)
  case substitutedBoundary order =>
    cases hexec
    split
    · exact h
    · exact (State.elapse_receiving h s.boundaryIn).congr (by simp)
  case holdoverRunReset =>
    cases hexec
    split
    · exact h
    · split
      · exact State.elapse_receiving h _
      · exact h
  case samplePoint =>
    cases hexec
    have hs : s.takeBoundaries.port.receiving := h.congr (by simp)
    split
    · exact h
    · dsimp only
      split
      next d _ =>
        split
        · exact (State.elapse_receiving hs d).congr (by simp)
        · exact hs
      · exact hs
  case statusCharacter after data parity stop =>
    cases hexec
    refine (State.elapse_receiving h after).congr ?_
    (repeat' split) <;> exact ⟨rfl, rfl, rfl, rfl⟩
  case upstreamTransactionTaken presented write address lanes data =>
    cases hexec
    refine (State.elapse_receiving h presented.after).congr ?_
    split <;> simp
  case interpolationEnd completion =>
    cases hexec
    refine (State.elapse_receiving h completion.after).congr ?_
    split <;> simp
  case downstreamComplete completion data =>
    cases hexec
    refine (State.elapse_receiving h completion.after).congr ?_
    split <;> simp
  case selectFall opening =>
    cases hexec
    have hs := State.elapse_receiving h opening.after
    split
    · exact hs
    · split
      · exact hs
      · simp [Port.receiving]
  case selectRise after clocked =>
    cases hexec
    have hs := State.elapse_receiving h after
    dsimp only
    split
    · exact hs
    · split
      · exact hs
      · generalize (if (s.elapse after).port.phase = .response then (s.elapse after).shiftOut clocked
          else s.elapse after) = u
        have hidle : ∀ x y : Bool, ({ u.port.endFrame with selectHigh := x, resetPending := y } : Port).receiving :=
          fun x y => Port.receiving_of_phase (.inl (by unfold Port.endFrame; dsimp only; split <;> rfl))
        split
        · refine State.beginReset_receiving ?_
          exact hidle _ _
        · exact hidle _ _
  case powerOn up =>
    cases hexec
    exact State.beginReset_receiving (s := { s.elapse up.after with resetControl := _ })
      (State.elapse_receiving h up.after)
  case resetPin after =>
    cases hexec
    exact State.beginReset_receiving (s := { s.elapse after with resetControl := _ }) (State.elapse_receiving h after)
  case resetEnd =>
    cases hexec
    split
    · exact State.endReset_receiving
    · exact h
  case statusStartEdge after low =>
    cases hexec
    refine (State.elapse_receiving h after).congr ?_
    (repeat' split) <;> exact ⟨rfl, rfl, rfl, rfl⟩
  case statusLineReturnHigh after =>
    cases hexec
    refine (State.elapse_receiving h after).congr ?_
    (repeat' split) <;> exact ⟨rfl, rfl, rfl, rfl⟩
  case resetPinRelease after =>
    cases hexec
    have hs := State.elapse_receiving h after
    dsimp only
    split <;> exact hs
  all_goals cases hevent

/-- A taken command leaves the port in RESPONSE; any other row of a command leaves what has been received. -/
theorem State.takeCommand_receiving (fr : Frame) (body : State → Answer) : (s.takeCommand fr body).port.receiving := by
  rcases s.takeCommand_cases fr body with ht | ⟨hphase, ht⟩ | ht
  · rw [ht]
    exact Port.receiving_of_phase (.inr (.inl rfl))
  · rw [ht]
    exact Port.receiving_of_phase (.inr (.inl hphase))
  · rw [ht]
    exact h

theorem exec_receiving {c : Instr} {t : State} (hexec : exec c s = .next t) : t.port.receiving := by
  cases hfr : frameOf c with
  | none => exact exec_event_receiving h hfr hexec
  | some fr =>
    rw [eq_takeCommand_of_exec hfr hexec]
    exact State.takeCommand_receiving h fr _

end

/-! ## The invariant -/

theorem State.Inv.idle {s : State} (h : s.Inv) : s.idle.Inv := by
  obtain ⟨hbounds, hport⟩ := s.inv_iff.1 h
  refine s.idle.inv_iff.2 ?_
  unfold State.idle
  split
  · exact ⟨hbounds.fireOwn _, State.fireOwn_receiving hport _⟩
  · exact ⟨hbounds.count 1, hport.congr (by simp)⟩

/-- Settles O3: a step is a row or the part's own time; each keeps the bounds of the blocks, and what the port has received
fits its phase. -/
theorem everyStepKeepsInvariant : Obligations.EveryStepKeepsInvariant := by
  intro s t h hstep
  unfold step at hstep
  split at hstep
  next c rest _ =>
    obtain ⟨hbounds, hport⟩ := s.inv_iff.1 h
    have hs : State.Bounded { s with pending := rest } := hbounds
    have hp : State.port { s with pending := rest } |>.receiving := hport
    exact t.inv_iff.2 ⟨hs.exec hstep, exec_receiving hp hstep⟩
  · cases hstep
    exact h.idle

/-- Settles O2: the reset values are within the bounds, and no frame is being received. -/
theorem resetMeetsInvariant : Obligations.ResetMeetsInvariant :=
  State.reset.inv_iff.2 ⟨State.Bounded.reset, Port.receiving_of_phase (.inl rfl)⟩

end Sys2Proof.Machine
end

section
/-! Proofs about the way into LOCKED (R4, R9, R10). -/

namespace Sys2Proof.Machine

/-! ## Lock states that the timebase's operations leave (R3 to R10, R23) -/

@[simp] theorem State.setLock_lock (s : State) (l : LockState) : (s.setLock l).timebase.lock = l := by
  unfold State.setLock
  split
  next h => exact h
  · rfl

@[simp] theorem State.enterFree_lock (s : State) : s.enterFree.timebase.lock = .free := State.setLock_lock _ _

@[simp] theorem State.enterLocked_lock (s : State) : s.enterLocked.timebase.lock = .locked := State.setLock_lock _ _

/-- A mark leaves the lock state or begins HOLDOVER (R7). -/
theorem State.addMark_lock (s : State) (m : Mark) :
    (s.addMark m).timebase.lock = s.timebase.lock ∨ (s.addMark m).timebase.lock = .holdover := by
  unfold State.addMark
  dsimp only
  split
  · exact .inr (State.setLock_lock _ _)
  · exact .inl rfl

/-- A flywheel boundary leaves the lock state or ends HOLDOVER (R8). -/
theorem State.causeFlywheel_lock (s : State) :
    s.causeFlywheel.timebase.lock = s.timebase.lock ∨ s.causeFlywheel.timebase.lock = .free := by
  unfold State.causeFlywheel
  split
  · dsimp only
    split
    · exact .inr (State.enterFree_lock _)
    · exact .inl rfl
  · exact .inl rfl

/-- The lock state is not LOCKED. -/
def State.Unlocked (s : State) : Prop := s.timebase.lock ≠ .locked

section
variable {s : State} (h : s.Unlocked)
include h

theorem State.Unlocked.congr {t : State} (ht : t.timebase.lock = s.timebase.lock) : t.Unlocked :=
  fun hlock => h (ht.symm.trans hlock)

omit h in
/-- A boundary whose cause does not lock does not lock: pending settings lead to FREE (R23). -/
theorem State.makeBoundary_unlocked (kind : BoundaryKind) (order : BoundaryOrder) {cause : State → State}
    (hcause : (cause s).Unlocked) : (s.makeBoundary kind order cause).Unlocked := by
  obtain ⟨-, -, hlock, -⟩ := s.makeBoundary_timebase kind order cause
  intro hlocked
  rw [hlock] at hlocked
  cases hp : s.timebase.pending with
  | none =>
    rw [s.openFrame_of_none kind cause hp] at hlocked
    exact hcause (by simpa using hlocked)
  | some p =>
    rw [s.openFrame_of_some kind cause p hp] at hlocked
    simp [State.applySettings] at hlocked

theorem State.Unlocked.addMark (m : Mark) : (s.addMark m).Unlocked := by
  rcases s.addMark_lock m with hl | hl
  · exact h.congr hl
  · simp [State.Unlocked, hl]

theorem State.Unlocked.flywheelNow (order : BoundaryOrder) : (s.flywheelNow order).Unlocked := by
  refine s.makeBoundary_unlocked _ _ ?_
  rcases s.causeFlywheel_lock with hl | hl
  · exact h.congr hl
  · simp [State.Unlocked, hl]

theorem State.Unlocked.substituteNow (order : BoundaryOrder) : (s.substituteNow order).Unlocked :=
  s.makeBoundary_unlocked _ _ (State.Unlocked.addMark (s := s.clearWatch) h _)

omit h in
theorem State.endReset_unlocked (s : State) : s.endReset.Unlocked := by
  simp [State.Unlocked, State.endReset, State.reset, State.resetTimebase]

theorem State.Unlocked.fireOwn (ev : OwnEvent) : (s.fireOwn ev).Unlocked := by
  have hs : State.Unlocked { s with openOrders := s.openOrders + 1 } := h
  unfold State.fireOwn
  cases ev with
  | flywheel => exact hs.flywheelNow _
  | substituted => exact hs.substituteNow _
  | resetEnd => exact State.endReset_unlocked _
  | _ => exact h.congr (by simp)

/-- No counts that pass lead to LOCKED. -/
theorem State.Unlocked.elapse (n : Nat) : (s.elapse n).Unlocked :=
  State.elapse_induction (fun _ _ h => h.congr (by simp))
    (fun _ _ ev _ h => State.Unlocked.fireOwn (h.congr (by simp)) ev) s n h

theorem State.Unlocked.takeBoundaries : s.takeBoundaries.Unlocked := h.congr (by simp)

/-- A pulse outside LOCKED locks only with the eighth of its run (R4, R9). -/
theorem State.Unlocked.pulse (order : BoundaryOrder) (hrun : s.timebase.run + 1 < 8) : (s.pulse order).Unlocked := by
  have hc : s.countPulse.Unlocked := h.congr (by simp)
  have hcrun : s.countPulse.timebase.run + 1 < 8 := by simpa using hrun
  have hevaluated : (s.countPulse.evaluatePulse order).Unlocked := by
    generalize s.countPulse = u at hc hcrun
    unfold State.evaluatePulse
    split
    · unfold State.pulseInFree
      split
      · simp [State.Unlocked]
      · exact hc
    · unfold State.pulseInAcquire
      split
      · rw [if_neg (by omega)]
        exact hc
      · simp [State.Unlocked]
    next hlock => exact absurd hlock hc
    · unfold State.pulseInHoldover
      dsimp only
      split
      · rw [if_neg (by omega)]
        exact hc
      · exact hc
  unfold State.pulse
  split
  · exact h
  · exact hevaluated

end

/-! ## Commands leave the lock state -/

/-- No management command changes the lock state at its instant (R22). -/
theorem commandBody_lock (c : Instr) (s : State) : (commandBody c s).state.timebase.lock = s.timebase.lock := by
  cases c
  all_goals dsimp only [commandBody, readBody, accept, refuse]
  case clearEvents => simp
  case setTimebase => unfold State.setTimebase; split <;> rfl
  case setRegion => unfold State.setRegion; dsimp only; (repeat' split) <;> rfl
  case declare => unfold State.declareTake; (repeat' split) <;> simp [refuse, accept]
  case delete => unfold State.deleteTake; (repeat' split) <;> simp [refuse, accept]
  case protect => unfold State.protectTake; dsimp only; split <;> simp [refuse]
  case unprotect => unfold State.protectTake; dsimp only; split <;> simp [refuse]
  case aliasTake => unfold State.makeAlias; (repeat' split) <;> simp [refuse]
  case readTake => unfold State.readTake; split <;> rfl
  case recordArm => unfold State.recordArm; dsimp only; (repeat' split) <;> simp [refuse]
  case replayArm => unfold State.readArm; dsimp only; (repeat' split) <;> simp [refuse]
  case witnessArm => unfold State.readArm; dsimp only; (repeat' split) <;> simp [refuse]
  case stop => split <;> rfl
  case park => split <;> rfl
  case resume => (repeat' split) <;> simp
  case abort => split <;> simp
  case clear => split <;> simp
  case passReset => split <;> simp
  case setCamera => unfold State.setCamera; split <;> rfl
  case setAxis => unfold State.setAxis; dsimp only; (repeat' split) <;> simp [refuse]
  case getAxis => unfold State.readOfAxis; split <;> rfl
  case readAxis => unfold State.readOfAxis; split <;> rfl
  case readWitness => unfold State.readOfAxis; split <;> rfl
  case clearAxisFlags => simp
  case inject => unfold State.setInject; dsimp only; (repeat' split) <;> simp [refuse]
  case readDeviation => unfold State.readDeviation; split <;> simp [accept]

theorem State.Unlocked.takeCommand {s : State} (h : s.Unlocked) (fr : Frame) (c : Instr) :
    (s.takeCommand fr (commandBody c)).Unlocked := by
  rcases s.takeCommand_cases fr (commandBody c) with ht | ⟨-, ht⟩ | ht
  · rw [ht]
    exact h.takeBoundaries.congr (commandBody_lock c (s.takeBoundaries.receive fr))
  · rw [ht]
    exact h
  · rw [ht]
    exact h

/-! ## Rows -/

/-- A pin or bus event outside LOCKED leads to LOCKED only as a pulse that completes a run of eight. -/
theorem State.Unlocked.exec_event {s t : State} (h : s.Unlocked) {c : Instr} (hevent : frameOf c = none)
    (hexec : exec c s = .next t)
    (hpulse : ∀ after order, c = .syncPulse after order → (s.elapse after).timebase.run + 1 < 8) : t.Unlocked := by
  cases c
  case syncPulse after order =>
    cases hexec
    have hs := (h.elapse after).takeBoundaries
    split
    · exact hs
    · exact hs.pulse order (by simpa using hpulse after order rfl)
  case flywheelBoundary order =>
    cases hexec
    split
    · exact h
    · exact ((h.elapse _).takeBoundaries).flywheelNow order
  case substitutedBoundary order =>
    cases hexec
    split
    · exact h
    · exact ((h.elapse _).takeBoundaries).substituteNow order
  case holdoverRunReset =>
    cases hexec
    split
    · exact h
    · split
      · exact h.elapse _
      · exact h
  case samplePoint =>
    cases hexec
    split
    · exact h
    · dsimp only
      split
      next d _ =>
        split
        · exact (h.takeBoundaries.elapse d).congr (by simp)
        · exact h.takeBoundaries
      · exact h.takeBoundaries
  case statusCharacter after data parity stop =>
    cases hexec
    refine (h.elapse after).congr ?_
    (repeat' split) <;> rfl
  case upstreamTransactionTaken presented write address lanes data =>
    cases hexec
    refine (h.elapse presented.after).congr ?_
    split <;> simp
  case interpolationEnd completion =>
    cases hexec
    refine (h.elapse completion.after).congr ?_
    split <;> simp
  case downstreamComplete completion data =>
    cases hexec
    refine (h.elapse completion.after).congr ?_
    split <;> simp
  case selectFall opening =>
    cases hexec
    refine (h.elapse opening.after).congr ?_
    (repeat' split) <;> rfl
  case selectRise after clocked =>
    cases hexec
    refine (h.elapse after).congr ?_
    dsimp only
    (repeat' split) <;> simp
  case powerOn up =>
    cases hexec
    exact (h.elapse up.after).congr (by simp)
  case resetPin after =>
    cases hexec
    exact (h.elapse after).congr (by simp)
  case resetEnd =>
    cases hexec
    split
    · exact State.endReset_unlocked _
    · exact h
  case statusStartEdge after low =>
    cases hexec
    refine (h.elapse after).congr ?_
    (repeat' split) <;> rfl
  case statusLineReturnHigh after =>
    cases hexec
    refine (h.elapse after).congr ?_
    (repeat' split) <;> rfl
  case resetPinRelease after =>
    cases hexec
    refine (h.elapse after).congr ?_
    dsimp only
    split <;> rfl
  all_goals cases hevent

/-- Settles O20: a command with a frame leaves the lock state, and of the pin and bus events only a pulse locks, with a run
of eight. -/
theorem lockedOnlyByEighthPulse : Obligations.LockedOnlyByEighthPulse := by
  intro c s t hexec hlocked hunlocked
  have h : s.Unlocked := hunlocked
  by_contra hnone
  have hpulse : ∀ after order, c = .syncPulse after order → (s.elapse after).timebase.run + 1 < 8 :=
    fun after order hc => Nat.lt_of_not_le fun hrun => hnone ⟨after, order, hc, hrun⟩
  cases hfr : frameOf c with
  | none => exact h.exec_event hfr hexec hpulse hlocked
  | some fr =>
    rw [eq_takeCommand_of_exec hfr hexec] at hlocked
    exact h.takeCommand fr c hlocked

end Sys2Proof.Machine
end

section
/-! Proofs that no block clears a flag at a boundary: flags are cleared by command alone (R193, R195). -/

namespace Sys2Proof.Machine

/-- The flag of an event is set. -/
def State.Raised (ev : Event) (s : State) : Prop := s.flag ev = true

section
variable {ev : Event} {s : State} (h : s.Raised ev)
include h

theorem State.Raised.congr {t : State} (ht : t.port.flags = s.port.flags) : t.Raised ev :=
  (State.flag_congr ht ev).trans h

theorem State.Raised.raise (other : Event) : (s.raise other).Raised ev := by
  have hs : s.flag ev = true := h
  simp [State.Raised, hs]

theorem State.Raised.setPass (p : PassState) : (s.setPass p).Raised ev := by
  have hs : s.flag ev = true := h
  simp [State.Raised, State.flag_setPass, hs]

theorem State.Raised.report (f : Summary → Summary) : (s.report f).Raised ev := h.congr (by simp)

/-! ## Ends of passes and captures -/

theorem State.Raised.endPass (o : PassOutcome) : (s.endPass o).Raised ev := by
  unfold State.endPass
  dsimp only
  split
  · refine State.Raised.setPass ?_ _
    exact h.congr (by simp)
  · refine State.Raised.setPass ?_ _
    exact h.congr (by simp)

theorem State.Raised.reportCaptureEnd (o : PassOutcome) (p : Nat) : (s.reportCaptureEnd o p).Raised ev := by
  unfold State.reportCaptureEnd
  split
  · refine State.Raised.endPass ?_ _
    exact h.congr rfl
  · exact h

theorem State.Raised.drainCheck : s.drainCheck.Raised ev := by
  unfold State.drainCheck
  split
  · refine State.Raised.setPass ?_ _
    exact h.congr (by simp)
  · exact h

theorem State.Raised.drainReport (late : Bool) : (s.drainReport late).Raised ev := by
  unfold State.drainReport
  split
  · split
    · exact h.congr rfl
    · exact h
  · exact h.drainCheck

theorem State.Raised.captureLine (c : PassContext) (p j : Nat) (coincident : Bool) :
    (s.captureLine c p j coincident).Raised ev := by
  unfold State.captureLine
  split
  · exact h
  · split
    · refine State.Raised.reportCaptureEnd ?_ _ _
      refine State.Raised.raise ?_ _
      exact h.congr (by simp)
    · dsimp only
      split
      · refine State.Raised.reportCaptureEnd ?_ _ _
        exact h.congr (by simp)
      · exact h.congr (by simp)

omit h in
theorem State.Raised.captureGroup (c : PassContext) (p n : Nat) : ∀ {s : State} (j : Nat) (coincident : Bool),
    s.Raised ev → (s.captureGroup c p n j coincident).Raised ev := by
  induction n with
  | zero => exact fun _ _ h => h
  | succ n ih => exact fun j coincident h => ih _ _ (h.captureLine c p j coincident)

theorem State.Raised.raisePoints (p : Nat) : (s.raisePoints p).Raised ev := by
  unfold State.raisePoints
  split
  · split
    · dsimp only
      split
      · exact State.Raised.captureGroup _ _ _ _ _ (h.congr rfl)
      · exact h
    · exact h
  · exact h

/-! ## The pass controller -/

theorem State.Raised.declarationReaches (old new : Byte) : (s.declarationReaches old new).Raised ev := by
  unfold State.declarationReaches
  split
  · split
    · refine State.Raised.setPass ?_ _
      exact h.congr rfl
    · exact h.congr rfl
    · exact h.congr rfl
    · exact h
  · exact h

theorem State.Raised.enterRunning : s.enterRunning.Raised ev := by
  unfold State.enterRunning
  dsimp only
  refine State.Raised.raisePoints ?_ _
  refine State.Raised.setPass ?_ _
  exact h.congr (by simp)

theorem State.Raised.applyPending : s.applyPending.Raised ev := by
  unfold State.applyPending
  split
  next r _ =>
    cases r with
    | park =>
      refine State.Raised.setPass ?_ _
      exact h.congr rfl
    | resume => exact h.enterRunning
    | _ => exact h.endPass _
  · exact h

theorem State.Raised.passBoundary (b : HandedOn) : (s.passBoundary b).Raised ev := by
  unfold State.passBoundary
  split
  · split
    · split
      · exact h.enterRunning
      · refine State.Raised.setPass ?_ _
        exact h.congr rfl
    · exact h
  · split
    · split
      · exact h.enterRunning
      · exact h.congr rfl
    · exact h.enterRunning
  · split
    · exact h.endPass _
    · exact h.applyPending
  · exact h.applyPending
  · exact h

theorem State.Raised.controllerBoundary (old new : Byte) (first : Bool) (b : HandedOn) :
    (s.controllerBoundary old new first b).Raised ev := by
  unfold State.controllerBoundary
  split
  · exact h.passBoundary b
  · split
    · exact (h.declarationReaches old new).passBoundary b
    · have hold : (s.withDeclared old).Raised ev := h.congr rfl
      have hnew : (((s.withDeclared old).passBoundary b).withDeclared new).Raised ev := (hold.passBoundary b).congr rfl
      exact hnew.declarationReaches old new

/-! ## The boundary -/

theorem State.Raised.updateOffset : s.updateOffset.Raised ev := by
  unfold State.updateOffset
  dsimp only
  split
  · exact h
  · refine State.Raised.report ?_ _
    refine State.Raised.raise ?_ _
    exact h.congr rfl

theorem State.Raised.appendDeviation (r : DeviationRecord) : (s.appendDeviation r).Raised ev := by
  have hs : s.flag ev = true := h
  unfold State.appendDeviation
  dsimp only
  split
  · show State.flag _ ev = true
    rw [State.flag_followLog]
    split
    · simp
    · exact (State.flag_report s _ ev).trans hs
  · refine State.Raised.report ?_ _
    refine State.Raised.raise ?_ _
    exact h.congr (by simp)

theorem State.Raised.witnessBoundary (closes : Bool) (start : FrameStart) : (s.witnessBoundary closes start).Raised ev := by
  have hclose : s.closeFrame.Raised ev := by
    unfold State.closeFrame
    dsimp only
    split
    · exact h
    · exact h.appendDeviation _
  have hclosed : (if closes then s.closeFrame else s).Raised ev := by
    split
    · exact hclose
    · exact h
  generalize hu : (if closes then s.closeFrame else s) = u at hclosed
  rw [State.witnessBoundary, hu]
  dsimp only
  split
  · exact hclosed.congr rfl
  · exact hclosed.congr rfl

theorem State.Raised.cameraBoundary : s.cameraBoundary.Raised ev := by
  unfold State.cameraBoundary
  dsimp only
  split
  · split
    · exact h.congr rfl
    · refine State.Raised.raise ?_ _
      exact h.congr rfl
  · exact h.congr rfl

theorem State.Raised.settle : s.settle.Raised ev := by
  have hs : s.flag ev = true := h
  have hcount (u : State) (t : UpstreamTxn) (hu : u.Raised ev) : (u.grantPassThrough t).Raised ev := by
    unfold State.grantPassThrough
    split
    · have hraised : u.countPartial.Raised ev := by
        refine State.Raised.raise ?_ _
        exact hu.congr rfl
      exact hraised.congr (by simp)
    · have hraised : (u.countProtect t.address).Raised ev := by
        refine State.Raised.raise ?_ _
        exact hu.congr rfl
      exact hraised.congr (by simp)
    · exact hu.congr rfl
  have harbitrate (u : State) (hu : u.Raised ev) : u.arbitrate.Raised ev := by
    unfold State.arbitrate
    split
    · exact hu
    · split
      · exact hu
      · exact hu.congr (by simp)
      · exact hcount _ _ (hu.congr rfl)
      next t r _ _ =>
        have hgrant := hcount (u.setUrgentRun 0) t (hu.congr rfl)
        dsimp only
        split
        · exact hu.congr (by simp)
        · split
          · exact hgrant
          · exact hgrant.congr (by simp)
  unfold State.settle
  split
  · exact harbitrate _ h
  · exact harbitrate _ (h.congr (by simp))

theorem State.Raised.toController (order : BoundaryOrder) (b : HandedOn) : (s.toController order b).Raised ev := by
  unfold State.toController
  dsimp only
  split
  · exact h.cameraBoundary.congr rfl
  · refine State.Raised.drainReport ?_ _
    split
    · exact (h.cameraBoundary.controllerBoundary _ _ _ b).raisePoints _
    · exact h.cameraBoundary.controllerBoundary _ _ _ b

theorem State.Raised.handOver (order : BoundaryOrder) (b : HandedOn) : (s.handOver order b).Raised ev := by
  have hactivated : s.activatePending.Raised ev := h.congr rfl
  have hwitness : (s.activatePending.toWitness order b).Raised ev := by
    unfold State.toWitness
    split
    · exact h.congr rfl
    · exact hactivated.witnessBoundary _ _
  have hqueue : (s.activatePending.toWitness order b).lineQueueBoundary.Raised ev := hwitness.congr (by simp)
  exact (hqueue.toController order b).settle

end

/-- A flag that the boundary's own work sets stays set through the hand-over. -/
theorem State.makeBoundary_raised {ev : Event} {s : State} {kind : BoundaryKind} {cause : State → State}
    (h : (s.openFrame kind cause).Raised ev) (order : BoundaryOrder) : (s.makeBoundary kind order cause).Raised ev := by
  unfold State.makeBoundary
  dsimp only
  refine State.Raised.handOver ?_ _ _
  generalize s.openFrame kind cause = u at h ⊢
  have hadvanced : (if s.pass.state == .running && !(s.pass.state == .running && u.atTimelineLimit) then u.advance
      else u).Raised ev := by
    split
    · exact h.congr (by simp)
    · exact h
  generalize (if s.pass.state == .running && !(s.pass.state == .running && u.atTimelineLimit) then u.advance
      else u) = v at hadvanced ⊢
  have hpoints (c : Bool) : (if c then v.raiseToS else v).Raised ev := by
    split
    · exact hadvanced.raisePoints _
    · exact hadvanced
  split
  · exact (hpoints _).updateOffset
  · exact hpoints _

end Sys2Proof.Machine
end

section
/-! Proofs about the evaluation of a sync pulse in each lock state (R1 to R10). -/

namespace Sys2Proof.Machine

/-! ## Runt and regular pulses (R1, R2) -/

theorem Timebase.isRunt_eq_true_iff (t : Timebase) : t.isRunt = true ↔ ∃ i, t.interval = some i ∧ i * 16 < t.active.nNom := by
  unfold Timebase.isRunt
  cases t.interval <;> simp

theorem Timebase.isRunt_eq_false_iff (t : Timebase) :
    t.isRunt = false ↔ ∀ i, t.interval = some i → t.active.nNom ≤ i * 16 := by
  unfold Timebase.isRunt
  cases t.interval <;> simp

theorem Timebase.regularInterval_iff (t : Timebase) (i : Nat) :
    t.regularInterval i = true ↔ t.active.nNom ≤ i + t.active.w ∧ i ≤ t.active.nNom + t.active.w := by
  simp [Timebase.regularInterval]

theorem Timebase.regularByPulse_iff (t : Timebase) : t.regularByPulse = true
    ↔ ∃ i, t.interval = some i ∧ t.active.nNom ≤ i + t.active.w ∧ i ≤ t.active.nNom + t.active.w := by
  unfold Timebase.regularByPulse
  cases t.interval <;> simp [Timebase.regularInterval]

theorem State.window_eq (s : State) : s.window = s.timebase.active.w := rfl

/-! ## Changes of lock state (R10) -/

theorem State.setLock_of_ne (s : State) {l : LockState} (h : s.timebase.lock ≠ l) : s.setLock l =
    { s with timebase := { s.timebase with lock := l }, port := { s.port with flags := s.port.flags ||| 1 } } := by
  rw [State.setLock, if_neg h]
  rfl

/-- The eight marks after a mark in LOCKED (R7). -/
theorem addToHistory_qualification (history : List Mark) (m : Mark) :
    addToHistory Config.qualificationDepth history m = (history ++ [m]).drop (history.length - 7) :=
  congrArg (List.drop · _) (by show history.length + 1 - 8 = _; omega)

theorem State.addMark_of_lt (s : State) (m : Mark)
    (h : ((s.timebase.history ++ [m]).drop (s.timebase.history.length - 7)).count .bad < 3) : s.addMark m =
      { s with timebase := { s.timebase with
          history := (s.timebase.history ++ [m]).drop (s.timebase.history.length - 7) } } := by
  simp only [State.addMark, addToHistory_qualification, badMarks]
  rw [if_neg (by omega)]

theorem State.addMark_of_nil (s : State) (m : Mark) (h : s.timebase.history = []) :
    s.addMark m = { s with timebase := { s.timebase with history := [m] } } := by
  rw [s.addMark_of_lt m (by rw [h]; cases m <;> decide), h]
  rfl

theorem State.addMark_of_le (s : State) (m : Mark) (hlock : s.timebase.lock ≠ .holdover)
    (h : 3 ≤ ((s.timebase.history ++ [m]).drop (s.timebase.history.length - 7)).count .bad) : s.addMark m =
      { s with
        timebase := { s.timebase with
          history := (s.timebase.history ++ [m]).drop (s.timebase.history.length - 7)
          run := 0, holdoverCount := 0, lock := .holdover }
        port := { s.port with flags := s.port.flags ||| 1 } } := by
  simp only [State.addMark, addToHistory_qualification, badMarks]
  rw [if_pos h]
  exact State.setLock_of_ne _ hlock

theorem State.enterFree_of_ne (s : State) (h : s.timebase.lock ≠ .free) : s.enterFree =
    { s with
      timebase := { s.timebase with
        lock := .free, run := 0, lockPending := false, holdoverCount := 0, history := [], watching := false,
        pulseNear := false, pulseBefore := false }
      port := { s.port with flags := s.port.flags ||| 1 } } :=
  State.setLock_of_ne _ h

theorem State.enterLocked_of_ne (s : State) (h : s.timebase.lock ≠ .locked) : s.enterLocked =
    { s with
      timebase := { s.timebase with
        lock := .locked, run := 8, lockPending := false, history := [], watching := false, pulseNear := false,
        pulseBefore := false }
      port := { s.port with flags := s.port.flags ||| 1 } } :=
  State.setLock_of_ne _ h

/-! ## The pulse itself -/

/-- A non-runt pulse: counted, evaluated, and the interval restarted (R1, R2). -/
theorem State.pulse_of_not_runt (s : State) (order : BoundaryOrder)
    (h : ∀ i, s.timebase.interval = some i → s.timebase.active.nNom ≤ i * 16) : s.pulse order =
      { s.countPulse.evaluatePulse order with timebase :=
          { (s.countPulse.evaluatePulse order).timebase with interval := some 0 } } := by
  rw [State.pulse, if_neg (by rw [s.timebase.isRunt_eq_false_iff.mpr h]; exact Bool.false_ne_true)]

theorem exec_syncPulse_of_reset_clear (s : State) (after : Nat) (order : BoundaryOrder)
    (h : (s.elapse after).takeBoundaries.resetControl.inForce = false) :
    exec (.syncPulse after order) s = .next ((s.elapse after).takeBoundaries.pulse order) :=
  congrArg Host.Outcome.next (if_neg (by rw [h]; exact Bool.false_ne_true))

/-- The state with one more pass pulse counted. -/
def State.counted (s : State) : State := { s with timebase := { s.timebase with passPulses := s.pulsesAfter } }

theorem State.countPulse_eq_counted (s : State) : s.countPulse = s.counted := s.countPulse_eq

@[simp] theorem State.countPulse_regularByPulse (s : State) :
    s.countPulse.timebase.regularByPulse = s.timebase.regularByPulse := by
  simp [Timebase.regularByPulse, Timebase.regularInterval]

/-! ## FREE (R3) -/

theorem State.evaluatePulse_of_free (s : State) (order : BoundaryOrder) (h : s.timebase.lock = .free) :
    s.evaluatePulse order = s.pulseInFree := by
  simp [State.evaluatePulse, h]

theorem State.pulse_free_of_regular (s : State) (order : BoundaryOrder) (hlock : s.timebase.lock = .free) (i : Nat)
    (hi : s.timebase.interval = some i) (hrunt : s.timebase.active.nNom ≤ i * 16)
    (hregular : s.timebase.active.nNom ≤ i + s.window ∧ i ≤ s.timebase.active.nNom + s.window) : s.pulse order =
      { s with
        timebase := { s.timebase with run := 1, lock := .acquire, interval := some 0, passPulses := s.pulsesAfter }
        port := { s.port with flags := s.port.flags ||| 1 } } := by
  have hbyPulse : s.timebase.regularByPulse = true := s.timebase.regularByPulse_iff.mpr ⟨i, hi, hregular⟩
  rw [s.pulse_of_not_runt order (by simpa [hi] using hrunt), State.evaluatePulse_of_free _ order (by simpa using hlock),
    State.pulseInFree, if_pos (by simpa using hbyPulse), State.setLock_of_ne _ (by simp [hlock]), s.countPulse_eq]

theorem State.pulse_free_of_irregular (s : State) (order : BoundaryOrder) (hlock : s.timebase.lock = .free)
    (hrunt : ∀ i, s.timebase.interval = some i → s.timebase.active.nNom ≤ i * 16)
    (hirregular : ∀ i, s.timebase.interval = some i →
      ¬(s.timebase.active.nNom ≤ i + s.window ∧ i ≤ s.timebase.active.nNom + s.window)) : s.pulse order =
      { s with timebase := { s.timebase with run := 0, interval := some 0, passPulses := s.pulsesAfter } } := by
  have hbyPulse : ¬ s.timebase.regularByPulse = true := fun h => by
    obtain ⟨i, hi, hregular⟩ := s.timebase.regularByPulse_iff.mp h
    exact hirregular i hi hregular
  rw [s.pulse_of_not_runt order hrunt, State.evaluatePulse_of_free _ order (by simpa using hlock), State.pulseInFree,
    if_neg (by simpa using hbyPulse), s.countPulse_eq]

/-- Settles O13: a runt and a reset in force end the row; in FREE the interval decides. -/
theorem pulseRuntOrInFree : Obligations.PulseRuntOrInFree := by
  constructor
  · intro s after i order u h
    rcases h with ⟨hi, hrunt⟩ | hreset
    · have hu : u.pulse order = u := if_pos ((Timebase.isRunt_eq_true_iff _).mpr ⟨i, hi, hrunt⟩)
      exact congrArg Host.Outcome.next (by rw [show (s.elapse after).takeBoundaries = u from rfl, hu, ite_self])
    · exact congrArg Host.Outcome.next (if_pos hreset)
  · intro s after order u hreset hlock
    rw [exec_syncPulse_of_reset_clear s after order hreset]
    refine ⟨fun hi => ?_, fun i hi hrunt => ⟨fun hregular => ?_, fun hirregular => ?_⟩⟩
    · exact congrArg Host.Outcome.next (u.pulse_free_of_irregular order hlock (by simp [hi]) (by simp [hi]))
    · exact congrArg Host.Outcome.next (u.pulse_free_of_regular order hlock i hi hrunt hregular)
    · refine congrArg Host.Outcome.next (u.pulse_free_of_irregular order hlock (by simpa [hi] using hrunt) fun j hj => ?_)
      cases hi.symm.trans hj
      omega

/-! ## LOCKED (R5 to R7) -/

theorem State.evaluatePulse_of_locked (s : State) (order : BoundaryOrder) (h : s.timebase.lock = .locked) :
    s.evaluatePulse order = s.pulseInLocked order := by
  simp [State.evaluatePulse, h]

theorem State.pulse_locked_of_early (s : State) (order : BoundaryOrder) (hlock : s.timebase.lock = .locked)
    (hrunt : ∀ i, s.timebase.interval = some i → s.timebase.active.nNom ≤ i * 16)
    (hearly : s.timebase.flywheel + s.window < s.timebase.active.nNom) : s.pulse order =
      { s.countPulse.addMark .bad with timebase := { (s.countPulse.addMark .bad).timebase with interval := some 0 } } := by
  have hirregular : ¬ s.countPulse.timebase.regularInterval s.countPulse.timebase.flywheel = true := by
    rw [Timebase.regularInterval_iff]
    simp only [State.countPulse_frame]
    rw [s.window_eq] at hearly
    omega
  rw [s.pulse_of_not_runt order hrunt, State.evaluatePulse_of_locked _ order (by simpa using hlock), State.pulseInLocked,
    if_neg hirregular]

theorem State.evaluatePulse_locked_of_regular (s : State) (order : BoundaryOrder) (hlock : s.timebase.lock = .locked)
    (hregular : s.timebase.active.nNom ≤ s.timebase.flywheel + s.window
      ∧ s.timebase.flywheel ≤ s.timebase.active.nNom + s.window) :
    s.countPulse.evaluatePulse order = s.countPulse.makeBoundary .pulse order State.causePulse := by
  have hin : s.countPulse.timebase.regularInterval s.countPulse.timebase.flywheel = true := by
    rw [Timebase.regularInterval_iff]
    simpa only [State.countPulse_frame, State.window_eq] using hregular
  rw [State.evaluatePulse_of_locked _ order (by simpa using hlock), State.pulseInLocked, if_pos hin]

/-- The boundary of a regular pulse in LOCKED that does not end LOCKED: its record and its good mark (R7, R12). -/
theorem State.openFrame_causePulse_timebase (s : State) (hpending : s.timebase.pending = none)
    (hlock : s.timebase.lock = .locked)
    (hmarks : ((s.timebase.history ++ [Mark.good]).drop (s.timebase.history.length - 7)).count .bad < 3) :
    (s.openFrame .pulse State.causePulse).timebase =
      { s.timebase with
        history := (s.timebase.history ++ [Mark.good]).drop (s.timebase.history.length - 7)
        watching := false, pulseNear := false, pulseBefore := false
        record := some ⟨s.timebase.refTime, .pulse,
          if s.timebase.record.map (·.lock) = some .locked then s.timebase.flywheel else s.timebase.active.nNom, .locked⟩
        flywheel := 0 } := by
  rw [s.openFrame_of_none _ _ hpending, State.causePulse, State.addMark_of_lt s.clearWatch _ hmarks]
  simp [State.writeRecord, State.clearWatch, hlock]

/-- Settles O14: an early pulse adds a bad mark, a regular one makes a boundary whose record stands. -/
theorem pulseInLocked : Obligations.PulseInLocked := by
  intro s after i order u marks hreset hlock hi hrunt
  have hrunt' : ∀ j, u.timebase.interval = some j → u.timebase.active.nNom ≤ j * 16 := by simpa [hi] using hrunt
  rw [exec_syncPulse_of_reset_clear s after order hreset]
  change (_ → (_ → Host.Outcome.next (u.pulse order) = _) ∧ (_ → Host.Outcome.next (u.pulse order) = _)) ∧
    (_ → _ → _ → _ → ∃ t, Host.Outcome.next (u.pulse order) = .next t ∧ _)
  refine ⟨fun hearly => ?_, fun hpending hmarks hlow hhigh => ?_⟩
  · rw [u.pulse_locked_of_early order hlock hrunt' hearly, u.countPulse_eq_counted]
    have hlock' : u.counted.timebase.lock ≠ .holdover := fun h => LockState.noConfusion (hlock.symm.trans h)
    refine ⟨fun hfew => ?_, fun hmany => ?_⟩
    · rw [u.counted.addMark_of_lt .bad hfew]
      rfl
    · rw [u.counted.addMark_of_le .bad hlock' hmany]
      rfl
  · refine ⟨_, rfl, ?_⟩
    rw [u.pulse_of_not_runt order hrunt', u.evaluatePulse_locked_of_regular order hlock ⟨hlow, hhigh⟩,
      u.countPulse_eq_counted]
    have hopen := u.counted.openFrame_causePulse_timebase hpending hlock hmarks
    obtain ⟨hrecord, hflywheel, hstays, -, hhistory, -, -, hactive, -, -, hpulses, hrefTime, -⟩ :=
      u.counted.makeBoundary_timebase .pulse order State.causePulse
    rw [hopen] at hrecord hflywheel hstays hhistory hactive hpulses hrefTime
    exact ⟨hrecord, hflywheel, hhistory, hstays.trans hlock, rfl, hpulses, hactive, hrefTime⟩

/-! ## ACQUIRE and HOLDOVER (R4, R9) -/

theorem State.evaluatePulse_of_acquire (s : State) (order : BoundaryOrder) (h : s.timebase.lock = .acquire) :
    s.evaluatePulse order = s.pulseInAcquire order := by
  simp [State.evaluatePulse, h]

theorem State.evaluatePulse_of_holdover (s : State) (order : BoundaryOrder) (h : s.timebase.lock = .holdover) :
    s.evaluatePulse order = s.pulseInHoldover order := by
  simp [State.evaluatePulse, h]

/-- The boundary of a pulse that locks: LOCKED with its good mark alone, and its record (R7, R9, R12). -/
theorem State.openFrame_causeRelock_timebase (s : State) (hpending : s.timebase.pending = none)
    (hlock : s.timebase.lock ≠ .locked) :
    (s.openFrame .pulse State.causeRelock).timebase =
      { s.timebase with
        lock := .locked, run := 8, lockPending := false, history := [.good]
        watching := false, pulseNear := false, pulseBefore := false
        record := some ⟨s.timebase.refTime, .pulse,
          if s.timebase.record.map (·.lock) = some .locked then s.timebase.flywheel else s.timebase.active.nNom, .locked⟩
        flywheel := 0 } := by
  rw [s.openFrame_of_none _ _ hpending, State.causeRelock, s.enterLocked_of_ne hlock, State.addMark_of_nil _ _ rfl]
  simp [State.writeRecord]

theorem State.openFrame_causeRelock_raised (s : State) (hpending : s.timebase.pending = none)
    (hlock : s.timebase.lock ≠ .locked) : (s.openFrame .pulse State.causeRelock).Raised .lock := by
  rw [s.openFrame_of_none _ _ hpending, State.causeRelock, s.enterLocked_of_ne hlock, State.addMark_of_nil _ _ rfl]
  show State.flag _ .lock = true
  simp [State.flag, State.writeRecord, Event.bit]

/-- The pulse leaves LOCKED with the boundary that entered it, its good mark and its record (R4, R9). -/
def State.LocksBy (s t : State) : Prop :=
  t.timebase.lock = .locked ∧ t.timebase.run = 8 ∧ t.timebase.lockPending = false ∧ t.timebase.history = [.good]
    ∧ t.timebase.flywheel = 0 ∧ t.timebase.interval = some 0 ∧ t.timebase.passPulses = s.pulsesAfter
    ∧ t.flag .lock = true ∧ t.timebase.record = some ⟨s.timebase.refTime, .pulse,
      if s.timebase.record.map (·.lock) = some .locked then s.timebase.flywheel else s.timebase.active.nNom, .locked⟩

section
variable {s : State} {order : BoundaryOrder}
  (hrunt : ∀ i, s.timebase.interval = some i → s.timebase.active.nNom ≤ i * 16)
include hrunt

/-- A pulse whose evaluation makes the locking boundary. -/
theorem State.pulse_locksBy (hpending : s.timebase.pending = none) (hlock : s.timebase.lock ≠ .locked)
    (hevaluated : s.countPulse.evaluatePulse order = s.countPulse.makeBoundary .pulse order State.causeRelock) :
    s.LocksBy (s.pulse order) := by
  rw [s.pulse_of_not_runt order hrunt, hevaluated, s.countPulse_eq_counted]
  have hopen := s.counted.openFrame_causeRelock_timebase hpending hlock
  obtain ⟨hrecord, hflywheel, hstays, hrun, hhistory, hlockPending, -, -, -, -, hpulses, -⟩ :=
    s.counted.makeBoundary_timebase .pulse order State.causeRelock
  rw [hopen] at hrecord hflywheel hstays hrun hhistory hlockPending hpulses
  exact ⟨hstays, hrun, hlockPending, hhistory, hflywheel, rfl, hpulses,
    State.makeBoundary_raised (s.counted.openFrame_causeRelock_raised hpending hlock) order, hrecord⟩

theorem State.pulse_acquire_of_irregular (hlock : s.timebase.lock = .acquire) (h : ¬ s.timebase.regularByPulse = true) :
    s.pulse order = { s.counted.enterFree with timebase := { s.counted.enterFree.timebase with interval := some 0 } } := by
  rw [s.pulse_of_not_runt order hrunt, State.evaluatePulse_of_acquire _ order (by simpa using hlock), State.pulseInAcquire,
    if_neg (by simpa using h), s.countPulse_eq_counted]

theorem State.pulse_acquire_of_counting (hlock : s.timebase.lock = .acquire) (h : s.timebase.regularByPulse = true)
    (hrun : s.timebase.run < 7) : s.pulse order =
      { s with timebase := { s.timebase with
          run := s.timebase.run + 1, interval := some 0, passPulses := s.pulsesAfter } } := by
  rw [s.pulse_of_not_runt order hrunt, State.evaluatePulse_of_acquire _ order (by simpa using hlock), State.pulseInAcquire,
    if_pos (by simpa using h), if_neg (by simp only [State.countPulse_frame]; omega), s.countPulse_eq]

omit hrunt in
theorem State.evaluatePulse_acquire_of_eighth (hlock : s.timebase.lock = .acquire)
    (h : s.timebase.regularByPulse = true) (hrun : 7 ≤ s.timebase.run) : s.countPulse.evaluatePulse order =
      if s.runningOrParked then
        { s.countPulse with timebase := { s.countPulse.timebase with run := 8, lockPending := true } }
      else s.countPulse.makeBoundary .pulse order State.causeRelock := by
  have hpass : s.countPulse.runningOrParked = s.runningOrParked := by simp [State.runningOrParked]
  rw [State.evaluatePulse_of_acquire _ order (by simpa using hlock), State.pulseInAcquire, if_pos (by simpa using h),
    if_pos (by simp only [State.countPulse_frame]; omega), hpass]

theorem State.pulse_acquire_of_pass (hlock : s.timebase.lock = .acquire) (h : s.timebase.regularByPulse = true)
    (hrun : 7 ≤ s.timebase.run) (hpass : s.runningOrParked = true) : s.pulse order =
      { s with timebase := { s.timebase with
          run := 8, lockPending := true, interval := some 0, passPulses := s.pulsesAfter } } := by
  rw [s.pulse_of_not_runt order hrunt, State.evaluatePulse_acquire_of_eighth hlock h hrun, if_pos hpass,
    s.countPulse_eq]

end

/-- Near the flywheel's boundary: at most W after the last one, or at most W before the next (R2). -/
def Timebase.nearBoundary (t : Timebase) : Bool := t.justAfter || t.justBefore

theorem Timebase.justAfter_iff (t : Timebase) : t.justAfter = true ↔ t.flywheel ≤ t.active.w := by
  simp [Timebase.justAfter]

theorem Timebase.justBefore_iff (t : Timebase) : t.justBefore = true ↔ t.active.nNom ≤ t.flywheel + t.active.w := by
  simp [Timebase.justBefore]

theorem Timebase.nearBoundary_iff (t : Timebase) :
    t.nearBoundary = true ↔ t.flywheel ≤ t.active.w ∨ t.active.nNom ≤ t.flywheel + t.active.w := by
  rw [Timebase.nearBoundary, Bool.or_eq_true, t.justAfter_iff, t.justBefore_iff]

section
variable {s : State} {order : BoundaryOrder} (hlock : s.timebase.lock = .holdover)
include hlock

theorem State.evaluatePulse_holdover : s.countPulse.evaluatePulse order = s.counted.pulseInHoldover order := by
  rw [State.evaluatePulse_of_holdover _ order (by simpa using hlock), s.countPulse_eq_counted]

theorem State.evaluatePulse_holdover_of_far (h : ¬ s.timebase.nearBoundary = true) :
    s.countPulse.evaluatePulse order = { s.counted with timebase := { s.counted.timebase with run := 0 } } := by
  rw [State.evaluatePulse_holdover hlock]
  exact if_neg h

theorem State.evaluatePulse_holdover_of_counting (h : s.timebase.nearBoundary = true) (hrun : s.timebase.run < 7) :
    s.countPulse.evaluatePulse order = { s.counted with timebase := { s.counted.timebase with
      run := s.timebase.run + 1, pulseNear := s.timebase.pulseNear || s.timebase.justAfter
      pulseBefore := s.timebase.pulseBefore || s.timebase.justBefore } } := by
  rw [State.evaluatePulse_holdover hlock]
  exact (if_pos h).trans (if_neg (by show ¬ 8 ≤ s.timebase.run + 1; omega))

theorem State.evaluatePulse_holdover_of_eighth (h : s.timebase.nearBoundary = true) (hrun : 7 ≤ s.timebase.run) :
    s.countPulse.evaluatePulse order = if s.timebase.justBefore
      then s.countPulse.makeBoundary .pulse order State.causeRelock else s.counted.enterLocked := by
  rw [State.evaluatePulse_holdover hlock, s.countPulse_eq_counted]
  exact (if_pos h).trans (if_pos (by show 8 ≤ s.timebase.run + 1; omega))

end

/-- Settles O15: in ACQUIRE the interval decides, in HOLDOVER the distance from the flywheel's boundaries; the eighth of a
run locks by `State.pulse_locksBy`. -/
theorem pulseInAcquireOrHoldover : Obligations.PulseInAcquireOrHoldover := by
  intro s after order u nNom counted withLock regular before near inPass locks hreset hrunt
  have hexec : exec (.syncPulse after order) s = .next (u.pulse order) := exec_syncPulse_of_reset_clear s after order hreset
  have hlocks (hby : u.LocksBy (u.pulse order)) : locks := ⟨u.pulse order, hexec, hby⟩
  have hregular : u.timebase.regularByPulse = true ↔ regular := u.timebase.regularByPulse_iff
  have hnear : u.timebase.nearBoundary = true ↔ near := u.timebase.nearBoundary_iff
  have hbefore : u.timebase.justBefore = true ↔ before := u.timebase.justBefore_iff
  have hinPass : u.runningOrParked = true ↔ inPass := by simp [State.runningOrParked, inPass]
  constructor
  · intro hlock
    have hunlocked : u.timebase.lock ≠ .locked := by simp [hlock]
    refine ⟨fun h => ?_, fun h hrun => ?_, fun h hrun hp => ?_, fun h hrun hp hpending => hlocks ?_⟩
    · rw [hexec, State.pulse_acquire_of_irregular hrunt hlock (mt hregular.mp h),
        u.counted.enterFree_of_ne fun h => LockState.noConfusion (hlock.symm.trans h)]
      rfl
    · rw [hexec, State.pulse_acquire_of_counting hrunt hlock (hregular.mpr h) hrun]
    · rw [hexec, State.pulse_acquire_of_pass hrunt hlock (hregular.mpr h) hrun (hinPass.mpr hp)]
    · refine State.pulse_locksBy hrunt hpending hunlocked ?_
      rw [State.evaluatePulse_acquire_of_eighth hlock (hregular.mpr h) hrun, if_neg (mt hinPass.mp hp)]
  · intro hlock
    have hunlocked : u.timebase.lock ≠ .locked := by simp [hlock]
    refine ⟨fun h => ?_, fun h hrun => ?_, fun h hrun hpending => hlocks ?_, fun h hnot hrun => ?_⟩
    · rw [hexec, u.pulse_of_not_runt order hrunt, State.evaluatePulse_holdover_of_far hlock (mt hnear.mp h)]
      rfl
    · rw [hexec, u.pulse_of_not_runt order hrunt, State.evaluatePulse_holdover_of_counting hlock (hnear.mpr h) hrun]
      rfl
    · refine State.pulse_locksBy hrunt hpending hunlocked ?_
      rw [State.evaluatePulse_holdover_of_eighth hlock (hnear.mpr (.inr h)) hrun, if_pos (hbefore.mpr h)]
    · rw [hexec, u.pulse_of_not_runt order hrunt, State.evaluatePulse_holdover_of_eighth hlock (hnear.mpr h) hrun,
        if_neg (mt hbefore.mp hnot), u.counted.enterLocked_of_ne hunlocked]
      rfl

end Sys2Proof.Machine
end

section
/-! Proofs about the counts that pass before a boundary, and about the boundaries the timebase makes (R6 to R13, R23). -/

namespace Sys2Proof.Machine

/-! ## The next event of the part's own -/

/-- The next boundary of the timebase or the next sample point, whichever comes first (R6, R11, R17). -/
def State.boundaryOrPoint (s : State) : Nat × OwnEvent :=
  match s.pointIn with
  | some p =>
    if p < s.boundaryIn ∨ p = s.boundaryIn ∧ Config.pointFirst s.openOrders = true then (p, .samplePoint)
    else (s.boundaryIn, s.timebase.boundaryEvent)
  | none => (s.boundaryIn, s.timebase.boundaryEvent)

theorem State.nextOwn_of_due (s : State) (hreset : s.resetControl.inForce = false) (hdue : s.due ≠ []) :
    s.nextOwn = some (0, .delivery) := by
  simp [State.nextOwn, hreset, hdue]

theorem State.nextOwn_of_clear (s : State) (hreset : s.resetControl.inForce = false) (hdue : s.due = []) :
    s.nextOwn = some (sooner (sooner s.boundaryOrPoint (s.runResetIn.map fun r => (r, .runReset)))
      (s.port.incoming.head?.map fun b => (b.1, .requestByte))) := by
  rw [State.nextOwn, if_neg (by simp [hreset]), if_neg (by simp [hdue])]
  rfl

theorem sooner_cases (a : Nat × OwnEvent) (b : Option (Nat × OwnEvent)) : sooner a b = a ∨ b = some (sooner a b) := by
  cases b with
  | none => exact .inl rfl
  | some b =>
    unfold sooner
    dsimp only
    split
    · exact .inr rfl
    · exact .inl rfl

theorem State.boundaryOrPoint_cases (s : State) : s.boundaryOrPoint = (s.boundaryIn, s.timebase.boundaryEvent)
    ∨ ∃ p, s.pointIn = some p ∧ s.boundaryOrPoint = (p, .samplePoint) := by
  unfold State.boundaryOrPoint
  split
  next p hp =>
    split
    · exact .inr ⟨p, hp, rfl⟩
    · exact .inl rfl
  · exact .inl rfl

/-- Which event of its own the part makes next, while no reset is in force. -/
theorem State.nextOwn_cases {s : State} (hreset : s.resetControl.inForce = false) {d : Nat} {ev : OwnEvent}
    (h : s.nextOwn = some (d, ev)) :
    (ev = .delivery ∧ s.due ≠ []) ∨ (ev = s.timebase.boundaryEvent ∧ d = s.boundaryIn)
      ∨ (ev = .samplePoint ∧ s.pointIn = some d) ∨ (ev = .runReset ∧ s.runResetIn = some d)
      ∨ (ev = .requestByte ∧ s.port.incoming ≠ []) := by
  by_cases hdue : s.due = []
  · rw [s.nextOwn_of_clear hreset hdue, Option.some.injEq] at h
    rcases sooner_cases (sooner s.boundaryOrPoint (s.runResetIn.map fun r => (r, .runReset)))
      (s.port.incoming.head?.map fun b => (b.1, .requestByte)) with hb | hb
    · rw [h] at hb
      rcases sooner_cases s.boundaryOrPoint (s.runResetIn.map fun r => (r, .runReset)) with hr | hr
      · rw [← hb] at hr
        rcases s.boundaryOrPoint_cases with hp | ⟨p, hp, hpoint⟩
        · cases hr.trans hp
          exact .inr (.inl ⟨rfl, rfl⟩)
        · cases hr.trans hpoint
          exact .inr (.inr (.inl ⟨rfl, hp⟩))
      · rw [← hb] at hr
        obtain ⟨r, hrun, heq⟩ := Option.map_eq_some_iff.mp hr
        cases heq
        exact .inr (.inr (.inr (.inl ⟨rfl, hrun⟩)))
    · rw [h] at hb
      obtain ⟨b, hhead, heq⟩ := Option.map_eq_some_iff.mp hb
      cases heq
      exact .inr (.inr (.inr (.inr ⟨rfl, fun hnil => by simp [hnil] at hhead⟩)))
  · cases (s.nextOwn_of_due hreset hdue).symm.trans h
    exact .inl ⟨rfl, hdue⟩

/-- What holds over one count and over an event with the rest of the span after it holds over the span. -/
theorem State.elapse_span {R : Nat → State → State → Prop} (hcount : ∀ s n, R n s (s.count n))
    (hown : ∀ s u n d ev, s.nextOwn = some (d, ev) → d < n → R (n - d) ((s.count d).fireOwn ev) u → R n s u)
    (s : State) (n : Nat) (hn : 0 < n) : R n s (s.elapse n) := by
  have hfuel (fuel : Nat) : ∀ (n : Nat) (s : State), R n s (State.elapseFuel fuel n s) := by
    induction fuel with
    | zero => exact fun n s => hcount s n
    | succ fuel ih =>
      intro n s
      unfold State.elapseFuel
      split
      next d ev hnext =>
        split
        next hlt => exact hown s _ n d ev hnext hlt (ih _ _)
        · exact hcount s n
      · exact hcount s n
  rw [State.elapse, if_neg (by omega)]
  exact hfuel _ _ _

/-! ## What the counts of the timebase become (R1, R11, R12) -/

theorem State.count_of_clear (s : State) (n : Nat) (hreset : s.resetControl.inForce = false) : s.count n = { s with
    timebase := { s.timebase with
      interval := s.timebase.interval.map fun i => min 4294967295 (i + n)
      flywheel := min 4294967295 (s.timebase.flywheel + n), refTime := (s.timebase.refTime + n) % 4294967296 }
    camera := (s.count n).camera, port := { s.port with incoming := bytesAfter n s.port.incoming } } := by
  have hstop (v : Nat) : stopAt Config.countLimit v = min 4294967295 v := Nat.min_comm _ _
  simp only [State.count, hreset, Bool.false_eq_true, if_false, hstop]

/-- n counts have passed over the interval, the reference time and the reset, whatever the part made meanwhile. -/
def State.Counted (n : Nat) (s u : State) : Prop :=
  s.resetControl.inForce = false → u.resetControl = s.resetControl
    ∧ u.timebase.interval = s.timebase.interval.map (fun i => min 4294967295 (i + n))
    ∧ u.timebase.refTime = (s.timebase.refTime + n) % 4294967296

/-- An event of the part's own, but the end of a reset, leaves the interval, the reference time and the reset. -/
theorem State.fireOwn_clock (s : State) {ev : OwnEvent} (h : ev ≠ .resetEnd) :
    (s.fireOwn ev).resetControl = s.resetControl ∧ (s.fireOwn ev).timebase.interval = s.timebase.interval
      ∧ (s.fireOwn ev).timebase.refTime = s.timebase.refTime := by
  cases ev with
  | resetEnd => exact absurd rfl h
  | _ => simp [State.fireOwn, State.flywheelNow, State.substituteNow]

theorem State.nextOwn_ne_resetEnd {s : State} (hreset : s.resetControl.inForce = false) {d : Nat} {ev : OwnEvent}
    (h : s.nextOwn = some (d, ev)) : ev ≠ .resetEnd := by
  rcases State.nextOwn_cases hreset h with ⟨rfl, -⟩ | ⟨rfl, -⟩ | ⟨rfl, -⟩ | ⟨rfl, -⟩ | ⟨rfl, -⟩
  · decide
  · unfold Timebase.boundaryEvent
    split <;> decide
  · decide
  · decide
  · decide

theorem State.elapse_counted (s : State) (n : Nat) (hn : 0 < n) : State.Counted n s (s.elapse n) := by
  refine State.elapse_span ?_ ?_ s n hn
  · intro s n hreset
    rw [s.count_of_clear n hreset]
    exact ⟨rfl, rfl, rfl⟩
  · intro s u n d ev hnext hlt hu hreset
    obtain ⟨hcontrol, hinterval, htime⟩ := (s.count d).fireOwn_clock (State.nextOwn_ne_resetEnd hreset hnext)
    rw [s.count_of_clear d hreset] at hcontrol hinterval htime hu
    obtain ⟨hcontrol', hinterval', htime'⟩ := hu (by rw [hcontrol]; exact hreset)
    refine ⟨hcontrol'.trans hcontrol, ?_, ?_⟩
    · rw [hinterval', hinterval, Option.map_map]
      congr 1
      funext i
      simp only [Function.comp_apply]
      omega
    · rw [htime', htime]
      dsimp only
      omega

/-! ## Up to the next boundary (R6, R11) -/

theorem Timebase.boundaryAt_eq (t : Timebase) :
    t.boundaryAt = if t.lock = .locked then t.active.nNom + t.active.w else t.active.nNom := rfl

/-- The lock state, the settings and the boundary record stand, and the flywheel counts up. -/
def Timebase.SameFrame (n : Nat) (t u : Timebase) : Prop :=
  u.flywheel = min 4294967295 (t.flywheel + n) ∧ u.lock = t.lock ∧ u.active = t.active ∧ u.pending = t.pending
    ∧ u.record = t.record

/-- The events of the part's own that are no boundary leave what a boundary changes. -/
theorem State.fireOwn_sameFrame (s : State) {ev : OwnEvent}
    (h : ev = .delivery ∨ ev = .samplePoint ∨ ev = .runReset ∨ ev = .requestByte) :
    (s.fireOwn ev).timebase.flywheel = s.timebase.flywheel ∧ (s.fireOwn ev).timebase.lock = s.timebase.lock
      ∧ (s.fireOwn ev).timebase.active = s.timebase.active ∧ (s.fireOwn ev).timebase.pending = s.timebase.pending
      ∧ (s.fireOwn ev).timebase.record = s.timebase.record := by
  rcases h with rfl | rfl | rfl | rfl <;> simp [State.fireOwn]

theorem State.elapse_sameFrame (s : State) (n : Nat) (hn : 0 < n) (hreset : s.resetControl.inForce = false)
    (hle : n ≤ s.boundaryIn) : Timebase.SameFrame n s.timebase (s.elapse n).timebase := by
  have hspan : s.resetControl.inForce = false → n ≤ s.boundaryIn →
      Timebase.SameFrame n s.timebase (s.elapse n).timebase := by
    refine State.elapse_span (R := fun n s u => s.resetControl.inForce = false → n ≤ s.boundaryIn →
      Timebase.SameFrame n s.timebase u.timebase) ?_ ?_ s n hn
    · intro s n hreset _
      rw [s.count_of_clear n hreset]
      exact ⟨rfl, rfl, rfl, rfl, rfl⟩
    · intro s u n d ev hnext hlt hu hreset hle
      obtain ⟨hcontrol, -, -⟩ := (s.count d).fireOwn_clock (State.nextOwn_ne_resetEnd hreset hnext)
      have hother : ev = .delivery ∨ ev = .samplePoint ∨ ev = .runReset ∨ ev = .requestByte := by
        rcases State.nextOwn_cases hreset hnext with ⟨h, -⟩ | ⟨-, hd⟩ | ⟨h, -⟩ | ⟨h, -⟩ | ⟨h, -⟩
        · exact .inl h
        · omega
        · exact .inr (.inl h)
        · exact .inr (.inr (.inl h))
        · exact .inr (.inr (.inr h))
      obtain ⟨hflywheel, hlock, hactive, hpending, hrecord⟩ := (s.count d).fireOwn_sameFrame hother
      rw [s.count_of_clear d hreset] at hcontrol hflywheel hlock hactive hpending hrecord hu
      dsimp only at hcontrol hflywheel hlock hactive hpending hrecord
      have hleft (v : State) (hv : v.timebase.flywheel = min 4294967295 (s.timebase.flywheel + d)
          ∧ v.timebase.lock = s.timebase.lock ∧ v.timebase.active = s.timebase.active) : n - d ≤ v.boundaryIn := by
        obtain ⟨hf, hl, ha⟩ := hv
        rw [State.boundaryIn, Timebase.boundaryAt_eq, hl, ha, hf, ← Timebase.boundaryAt_eq]
        rw [State.boundaryIn] at hle
        omega
      obtain ⟨hflywheel', hlock', hactive', hpending', hrecord'⟩ := hu (by rw [hcontrol]; exact hreset)
        (hleft _ ⟨hflywheel, hlock, hactive⟩)
      refine ⟨?_, hlock'.trans hlock, hactive'.trans hactive, hpending'.trans hpending, hrecord'.trans hrecord⟩
      rw [hflywheel', hflywheel]
      omega
  exact hspan hreset hle

/-! ## The row's boundary -/

theorem exec_flywheelBoundary_of_clear (s : State) (order : BoundaryOrder) (hreset : s.resetControl.inForce = false)
    (hlock : s.timebase.lock ≠ .locked) : exec (.flywheelBoundary order) s =
      .next ((s.elapse s.boundaryIn).takeBoundaries.flywheelNow order) :=
  congrArg Host.Outcome.next (if_neg (by simp [hreset, hlock]))

theorem exec_substitutedBoundary_of_clear (s : State) (order : BoundaryOrder) (hreset : s.resetControl.inForce = false)
    (hlock : s.timebase.lock = .locked) : exec (.substitutedBoundary order) s =
      .next ((s.elapse s.boundaryIn).takeBoundaries.substituteNow order) :=
  congrArg Host.Outcome.next (if_neg (by simp [hreset, hlock]))

/-- At the boundary that comes next the flywheel stands at its count, with lock state and settings as they were. -/
theorem State.atBoundary (s : State) (hreset : s.resetControl.inForce = false) :
    let u := (s.elapse s.boundaryIn).takeBoundaries
    u.timebase.lock = s.timebase.lock ∧ u.timebase.active = s.timebase.active ∧ u.timebase.pending = s.timebase.pending
      ∧ (s.timebase.flywheel ≤ s.timebase.boundaryAt → s.timebase.boundaryAt ≤ 4294967295 →
        u.timebase.flywheel = s.timebase.boundaryAt) := by
  have helapsed : let u := s.elapse s.boundaryIn
      u.timebase.lock = s.timebase.lock ∧ u.timebase.active = s.timebase.active ∧ u.timebase.pending = s.timebase.pending
        ∧ (s.timebase.flywheel ≤ s.timebase.boundaryAt → s.timebase.boundaryAt ≤ 4294967295 →
          u.timebase.flywheel = s.timebase.boundaryAt) := by
    rcases Nat.eq_zero_or_pos s.boundaryIn with hzero | hpos
    · rw [hzero, s.elapse_zero]
      rw [State.boundaryIn] at hzero
      exact ⟨rfl, rfl, rfl, fun hle _ => by omega⟩
    · obtain ⟨hflywheel, hlock, hactive, hpending, -⟩ := s.elapse_sameFrame s.boundaryIn hpos hreset (Nat.le_refl _)
      refine ⟨hlock, hactive, hpending, fun hle hlimit => ?_⟩
      rw [hflywheel, State.boundaryIn]
      omega
  simpa using helapsed

/-- A flywheel boundary of FREE and ACQUIRE (R11, R12). -/
theorem State.openFrame_causeFlywheel_timebase (s : State) (hpending : s.timebase.pending = none)
    (hlock : s.timebase.lock = .free ∨ s.timebase.lock = .acquire) :
    (s.openFrame .flywheel State.causeFlywheel).timebase = { s.timebase with
      record := some ⟨s.timebase.refTime, .flywheel, s.timebase.active.nNom, s.timebase.lock⟩, flywheel := 0 } := by
  have hholdover : s.timebase.lock ≠ .holdover := by rcases hlock with h | h <;> simp [h]
  have hlocked : s.timebase.lock ≠ .locked := by rcases hlock with h | h <;> simp [h]
  rw [s.openFrame_of_none _ _ hpending, State.causeFlywheel, if_neg hholdover]
  simp [State.writeRecord, hlocked]

/-- A flywheel boundary of HOLDOVER that counts (R8, R9). -/
theorem State.openFrame_holdover_of_le (s : State) (hpending : s.timebase.pending = none)
    (hlock : s.timebase.lock = .holdover) (hle : s.timebase.holdoverCount + 1 ≤ s.timebase.active.holdoverLimit) :
    (s.openFrame .flywheel State.causeFlywheel).timebase = { s.timebase with
      holdoverCount := s.timebase.holdoverCount + 1, watching := true, pulseNear := s.timebase.pulseBefore
      pulseBefore := false
      record := some ⟨s.timebase.refTime, .flywheel, s.timebase.active.nNom, .holdover⟩, flywheel := 0 } := by
  rw [s.openFrame_of_none _ _ hpending, State.causeFlywheel, if_pos hlock]
  dsimp only
  rw [if_neg (by omega)]
  simp [State.writeRecord, hlock]

/-- A flywheel boundary that ends HOLDOVER (R3, R8). -/
theorem State.openFrame_holdover_of_lt (s : State) (hpending : s.timebase.pending = none)
    (hlock : s.timebase.lock = .holdover) (hlt : s.timebase.active.holdoverLimit < s.timebase.holdoverCount + 1) :
    (s.openFrame .flywheel State.causeFlywheel).timebase = { s.timebase with
      lock := .free, run := 0, lockPending := false, holdoverCount := 0, history := [], watching := false
      pulseNear := false, pulseBefore := false
      record := some ⟨s.timebase.refTime, .flywheel, s.timebase.active.nNom, .free⟩, flywheel := 0 } := by
  rw [s.openFrame_of_none _ _ hpending, State.causeFlywheel, if_pos hlock]
  dsimp only
  rw [if_pos hlt, State.loseSync, State.enterFree_of_ne _ (by simp [hlock])]
  simp [State.writeRecord]

/-- Settles O18: the row lets the counts up to W pass and empties the run. -/
theorem holdoverRunResetEmptiesRun : Obligations.HoldoverRunResetEmptiesRun := by
  intro s hreset hlock hwatching hnear u
  have hin : s.runResetIn = some (s.window - s.timebase.flywheel) :=
    if_pos ⟨hlock, hwatching, by simp [hnear]⟩
  show Host.Outcome.next (if s.resetControl.inForce then s else _) = _
  rw [if_neg (by simp [hreset]), hin]
  rfl

/-- The substituted boundary's own work: its mark, its record (R6, R7, R12). -/
theorem State.openFrame_causeSubstituted_timebase (s : State) (hpending : s.timebase.pending = none)
    (hlock : s.timebase.lock = .locked) :
    let t := (s.openFrame .substituted State.causeSubstituted).timebase
    let marks := (s.timebase.history ++ [Mark.bad]).drop (s.timebase.history.length - 7)
    let lock : LockState := if 3 ≤ marks.count .bad then .holdover else .locked
    t.record = some ⟨s.timebase.refTime, .substituted,
        if s.timebase.record.map (·.lock) = some .locked ∧ lock = .locked then s.timebase.flywheel
        else s.timebase.active.nNom, lock⟩
      ∧ t.flywheel = 0 ∧ t.history = marks ∧ t.lock = lock := by
  intro t marks lock
  have ht : t = ((s.clearWatch.addMark .bad).writeRecord .substituted).timebase :=
    congrArg State.timebase (s.openFrame_of_none _ _ hpending)
  have hcases : 3 ≤ marks.count .bad ∨ marks.count .bad < 3 := Nat.lt_or_ge 2 _ |>.imp_right Nat.lt_succ_of_le
  rcases hcases with hmany | hfew
  · have hlock' : lock = .holdover := if_pos hmany
    rw [ht, hlock', State.addMark_of_le s.clearWatch _ (by simp [State.clearWatch, hlock]) hmany]
    exact ⟨by simp [State.writeRecord, State.clearWatch], rfl, rfl, rfl⟩
  · have hlock' : lock = .locked := if_neg (by omega)
    rw [ht, hlock', State.addMark_of_lt s.clearWatch _ hfew]
    exact ⟨by simp [State.writeRecord, State.clearWatch, hlock], rfl, rfl, hlock⟩

/-- Settles O17: at N_NOM + W the mark is bad and the record says SUBSTITUTED. -/
theorem substitutedBoundaryMakesFrame : Obligations.SubstitutedBoundaryMakesFrame := by
  intro s order u marks lock hreset hlock
  obtain ⟨hsame, hactive, hpending, hflywheel⟩ := s.atBoundary hreset
  have hat : s.timebase.boundaryAt = s.timebase.active.nNom + s.window := if_pos hlock
  rw [hat] at hflywheel
  refine ⟨hflywheel, hsame, hactive, hpending, fun hnone => ⟨_, exec_substitutedBoundary_of_clear s order hreset hlock, ?_⟩⟩
  obtain ⟨hrecord, hrestart, hhistory, hlocked⟩ :=
    u.openFrame_causeSubstituted_timebase hnone (hsame.trans hlock)
  obtain ⟨mrecord, mflywheel, mlock, -, mhistory, -, -, -, -, minterval, mpulses, -⟩ :=
    u.makeBoundary_timebase .substituted order State.causeSubstituted
  exact ⟨mrecord.trans hrecord, mflywheel.trans hrestart, mhistory.trans hhistory, mlock.trans hlocked,
    minterval.trans (by simp), mpulses.trans (by simp)⟩

/-! ## Pending settings (R23) -/

theorem State.openFrame_settings_timebase (s : State) (kind : BoundaryKind) (cause : State → State) {p : TimebaseSettings}
    (hpending : s.timebase.pending = some p) :
    let t := (s.openFrame kind cause).timebase
    t.active = p ∧ t.pending = none ∧ t.lock = .free ∧ t.run = 0 ∧ t.history = [] ∧ t.lockPending = false
      ∧ t.holdoverCount = 0 ∧ t.record = some ⟨s.timebase.refTime, kind, p.nNom, .free⟩ := by
  intro t
  have ht : t = ((s.applySettings p).writeRecord kind).timebase :=
    congrArg State.timebase (s.openFrame_of_some _ _ p hpending)
  have hlock : (s.applySettings p).timebase.lock = .free := State.enterFree_lock _
  have hfields : (s.applySettings p).timebase.run = 0 ∧ (s.applySettings p).timebase.history = []
      ∧ (s.applySettings p).timebase.lockPending = false ∧ (s.applySettings p).timebase.holdoverCount = 0
      ∧ (s.applySettings p).timebase.active = p ∧ (s.applySettings p).timebase.pending = none := by
    simp [State.applySettings, State.enterFree, State.clearWatch]
  obtain ⟨hrun, hhistory, hlockPending, hholdover, hactive, hnone⟩ := hfields
  rw [ht]
  refine ⟨hactive, hnone, hlock, hrun, hhistory, hlockPending, hholdover, ?_⟩
  simp [State.writeRecord, hlock, hactive]

/-- What a boundary that finds settings pending leaves of the timebase. -/
def State.TakesSettings (p : TimebaseSettings) (kind : BoundaryKind) (u t : State) : Prop :=
  t.timebase.active = p ∧ t.timebase.pending = none
    ∧ t.timebase.lock = .free ∧ t.timebase.run = 0 ∧ t.timebase.history = [] ∧ t.timebase.lockPending = false
    ∧ t.timebase.holdoverCount = 0 ∧ t.timebase.record = some ⟨u.timebase.refTime, kind, p.nNom, .free⟩

theorem State.makeBoundary_takesSettings (s : State) (kind : BoundaryKind) (order : BoundaryOrder) (cause : State → State)
    {p : TimebaseSettings} (hpending : s.timebase.pending = some p) :
    State.TakesSettings p kind s (s.makeBoundary kind order cause) := by
  obtain ⟨hactive, hnone, hlock, hrun, hhistory, hlockPending, hholdover, hrecord⟩ :=
    s.openFrame_settings_timebase kind cause hpending
  obtain ⟨mrecord, -, mlock, mrun, mhistory, mlockPending, mholdover, mactive, mpending, -⟩ :=
    s.makeBoundary_timebase kind order cause
  exact ⟨mactive.trans hactive, mpending.trans hnone, mlock.trans hlock, mrun.trans hrun, mhistory.trans hhistory,
    mlockPending.trans hlockPending, mholdover.trans hholdover, mrecord.trans hrecord⟩

/-- Settles O19: whichever boundary the row makes, `State.makeBoundary_takesSettings`. -/
theorem pendingSettingsTakeEffectAtBoundary : Obligations.PendingSettingsTakeEffectAtBoundary := by
  unfold Obligations.PendingSettingsTakeEffectAtBoundary
  intro taken
  constructor
  · intro s order p u hreset hpending
    refine ⟨fun hlock => ?_, fun hlock => ?_⟩
    · exact ⟨_, exec_flywheelBoundary_of_clear s order hreset hlock, u.makeBoundary_takesSettings _ _ _ hpending⟩
    · exact ⟨_, exec_substitutedBoundary_of_clear s order hreset hlock, u.makeBoundary_takesSettings _ _ _ hpending⟩
  · intro s after order p u nNom hreset hpending hrunt hboundary
    refine ⟨_, exec_syncPulse_of_reset_clear s after order hreset, ?_⟩
    have htaken (cause : State → State) (h : u.countPulse.evaluatePulse order = u.countPulse.makeBoundary .pulse order cause) :
        taken p .pulse u (u.pulse order) := by
      rw [u.pulse_of_not_runt order hrunt, h, u.countPulse_eq_counted]
      exact u.counted.makeBoundary_takesSettings .pulse order cause hpending
    rcases hboundary with ⟨hlock, hregular⟩ | ⟨hlock, hrun, hrunning, hparked, hregular⟩ | ⟨hlock, hrun, hbefore⟩
    · exact htaken _ (u.evaluatePulse_locked_of_regular order hlock hregular)
    · refine htaken State.causeRelock ?_
      rw [State.evaluatePulse_acquire_of_eighth hlock (u.timebase.regularByPulse_iff.mpr hregular) hrun,
        if_neg (by simp [State.runningOrParked, hrunning, hparked])]
    · refine htaken State.causeRelock ?_
      rw [State.evaluatePulse_holdover_of_eighth hlock (u.timebase.nearBoundary_iff.mpr (.inr hbefore)) hrun,
        if_pos (u.timebase.justBefore_iff.mpr hbefore)]

end Sys2Proof.Machine
end

section
/-! Proofs about what the hand-over of a boundary keeps: readings of the pass summary and the position (R13, R14, R72). -/

namespace Sys2Proof.Machine

/-- A reading of the pass summary that only the timebase's own work changes: no outcome, no MARK, no count of the witness
unit and no frame offset takes part in it. -/
structure Summary.Steady {α : Type} (g : Summary → α) : Prop where
  outcome : ∀ m o, g { m with outcome := o } = g m
  mark : ∀ m k, g { m with mark := k } = g m
  offset : ∀ (m : Summary) off slips, g { m with frameOffset := off, slips := slips } = g m
  addRecord : ∀ m, g m.addRecord = g m
  addLost : ∀ m, g m.addLost = g m

theorem Summary.steady_frames : Summary.Steady Summary.frames := ⟨fun _ _ => rfl, fun _ _ => rfl, fun _ _ _ => rfl, fun _ => rfl, fun _ => rfl⟩

theorem Summary.steady_syncLost : Summary.Steady Summary.syncLost := ⟨fun _ _ => rfl, fun _ _ => rfl, fun _ _ _ => rfl, fun _ => rfl, fun _ => rfl⟩

/-- From r to s the reading of the summary stands, and so does a position that r has. -/
structure State.Keeps {α : Type} (g : Summary → α) (r s : State) : Prop where
  summary : s.pass.summary.map g = r.pass.summary.map g
  position : ∀ p, r.timebase.position = some p → s.timebase.position = some p

theorem State.Keeps.refl {α : Type} (g : Summary → α) (s : State) : s.Keeps g s := ⟨rfl, fun _ h => h⟩

section
variable {α : Type} {g : Summary → α} (hg : Summary.Steady g) {r s : State} (h : r.Keeps g s)

include h in
theorem State.Keeps.congr {t : State} (hsummary : t.pass.summary = s.pass.summary)
    (hposition : t.timebase.position = s.timebase.position) : r.Keeps g t :=
  ⟨by rw [hsummary]; exact h.summary, fun p hp => hposition.trans (h.position p hp)⟩

/-- A change of the summary that the reading does not see. -/
theorem State.Keeps.onSummary (h : r.Keeps g s) {f : Summary → Summary} (hf : ∀ m, g (f m) = g m) :
    r.Keeps g (s.onSummary f) := by
  refine ⟨?_, h.position⟩
  rw [← h.summary, State.onSummary, Option.map_map]
  exact congrArg (s.pass.summary.map ·) (funext hf)

theorem State.Keeps.report (h : r.Keeps g s) {f : Summary → Summary} (hf : ∀ m, g (f m) = g m) :
    r.Keeps g (s.report f) := by
  unfold State.report
  split
  · exact h
  · exact h.onSummary hf

include hg

/-! ## Captures and ends of passes -/

theorem State.Keeps.endPass (h : r.Keeps g s) (o : PassOutcome) : r.Keeps g (s.endPass o) := by
  have hset : r.Keeps g (s.setOutcome o) := h.onSummary (hg.outcome · _)
  unfold State.endPass
  dsimp only
  split
  · exact hset.congr (by simp) (by simp)
  · exact hset.congr (by simp) (by simp)

theorem State.Keeps.reportCaptureEnd (h : r.Keeps g s) (o : PassOutcome) {p : Nat}
    (hp : ∀ q, r.timebase.position = some q → p = q) : r.Keeps g (s.reportCaptureEnd o p) := by
  unfold State.reportCaptureEnd
  split
  · refine State.Keeps.endPass hg ?_ o
    exact ⟨h.summary, fun q hq => congrArg some (hp q hq)⟩
  · exact h

theorem State.Keeps.captureLine (h : r.Keeps g s) (c : PassContext) {p : Nat}
    (hp : ∀ q, r.timebase.position = some q → p = q) (j : Nat) (coincident : Bool) :
    r.Keeps g (s.captureLine c p j coincident) := by
  unfold State.captureLine
  split
  · exact h
  · split
    · refine State.Keeps.reportCaptureEnd hg ?_ _ hp
      exact h.congr rfl rfl
    · dsimp only
      split
      · refine State.Keeps.reportCaptureEnd hg ?_ _ hp
        exact h.congr (by simp) (by simp)
      · exact h.congr (by simp) (by simp)

theorem State.Keeps.captureGroup (c : PassContext) {p : Nat} (hp : ∀ q, r.timebase.position = some q → p = q) (n : Nat) :
    ∀ {s : State} (j : Nat) (coincident : Bool), r.Keeps g s → r.Keeps g (s.captureGroup c p n j coincident) := by
  induction n with
  | zero => exact fun _ _ h => h
  | succ n ih => exact fun j coincident h => ih _ _ (h.captureLine hg c hp j coincident)

/-- The timebase evaluates the position S: captures at S leave S. -/
theorem State.Keeps.raiseToS (h : r.Keeps g s) : r.Keeps g s.raiseToS := by
  have hp : ∀ q, r.timebase.position = some q → s.timebase.position.getD 0 = q := fun q hq => by
    rw [h.position q hq]
    rfl
  unfold State.raiseToS State.raisePoints
  split
  · split
    · dsimp only
      split
      · exact State.Keeps.captureGroup hg _ hp _ _ _ (h.congr rfl rfl)
      · exact h
    · exact h
  · exact h

/-! ## The pass controller -/

theorem State.Keeps.enterRunning (h : r.Keeps g s) : r.Keeps g s.enterRunning := by
  have hfirst (u : State) (hu : r.Keeps g u) : r.Keeps g u.firstRun := by
    unfold State.firstRun
    split
    · exact hu
    · have hmark : r.Keeps g (({ u with pass := { u.pass with hasRun := true } } : State).onSummary fun m =>
          { m with mark := some (wordMark u.camera.declared) }) := by
        refine State.Keeps.onSummary ?_ (hg.mark · _)
        exact hu.congr rfl rfl
      exact hmark.congr (by simp) (by simp)
  have hrunning := hfirst { s with pass := { s.pass with preroll := none, pending := none } } (h.congr rfl rfl)
  refine State.Keeps.raiseToS hg ?_
  exact hrunning.congr (by simp) (by simp)

theorem State.Keeps.applyPending (h : r.Keeps g s) : r.Keeps g s.applyPending := by
  unfold State.applyPending
  split
  next q _ =>
    cases q with
    | park => exact h.congr (by simp [State.applyRequest]) (by simp [State.applyRequest])
    | resume => exact h.enterRunning hg
    | _ => exact h.endPass hg _
  · exact h

theorem State.Keeps.passBoundary (h : r.Keeps g s) (b : HandedOn) : r.Keeps g (s.passBoundary b) := by
  unfold State.passBoundary
  split
  · split
    · split
      · exact h.enterRunning hg
      · exact h.congr (by simp) (by simp)
    · exact h
  · split
    · split
      · exact h.enterRunning hg
      · exact h.congr rfl rfl
    · exact h.enterRunning hg
  · split
    · exact h.endPass hg _
    · exact h.applyPending hg
  · exact h.applyPending hg
  · exact h

theorem State.Keeps.controllerBoundary (h : r.Keeps g s) (old new : Byte) (first : Bool) (b : HandedOn) :
    r.Keeps g (s.controllerBoundary old new first b) := by
  unfold State.controllerBoundary
  split
  · exact h.passBoundary hg b
  · split
    · refine State.Keeps.passBoundary hg ?_ b
      exact h.congr (by simp) (by simp)
    · have hold : r.Keeps g ((s.withDeclared old).passBoundary b) := by
        refine State.Keeps.passBoundary hg ?_ b
        exact h.congr rfl rfl
      exact hold.congr (by simp [State.withDeclared]) (by simp [State.withDeclared])

/-! ## The boundary -/

theorem State.Keeps.updateOffset (h : r.Keeps g s) : r.Keeps g s.updateOffset := by
  unfold State.updateOffset
  dsimp only
  split
  · exact h
  · refine State.Keeps.report ?_ (hg.offset · _ _)
    exact h.congr rfl rfl

theorem State.Keeps.witnessBoundary (h : r.Keeps g s) (closes : Bool) (start : FrameStart) :
    r.Keeps g (s.witnessBoundary closes start) := by
  have hclose : r.Keeps g s.closeFrame := by
    unfold State.closeFrame
    dsimp only
    split
    · exact h
    · have hrecord : r.Keeps g (s.report Summary.addRecord) := h.report hg.addRecord
      unfold State.appendDeviation
      dsimp only
      split
      · exact hrecord.congr (by simp) (by simp)
      · refine State.Keeps.report ?_ hg.addLost
        exact hrecord.congr rfl rfl
  have hclosed : r.Keeps g (if closes then s.closeFrame else s) := by
    split
    · exact hclose
    · exact h
  generalize hu : (if closes then s.closeFrame else s) = u at hclosed
  rw [State.witnessBoundary, hu]
  dsimp only
  split
  · exact hclosed.congr rfl rfl
  · exact hclosed.congr rfl rfl

theorem State.Keeps.toController (h : r.Keeps g s) (order : BoundaryOrder) (b : HandedOn) :
    r.Keeps g (s.toController order b) := by
  have hcamera : r.Keeps g s.cameraBoundary := h.congr (by simp) (by simp)
  unfold State.toController
  dsimp only
  split
  · exact hcamera.congr rfl rfl
  · have hcontroller := hcamera.controllerBoundary hg s.camera.declared s.cameraBoundary.camera.declared
      order.declarationFirst b
    generalize s.cameraBoundary.controllerBoundary _ _ _ b = u at hcontroller ⊢
    split
    · exact (hcontroller.raiseToS hg).congr (by simp) (by simp)
    · exact hcontroller.congr (by simp) (by simp)

theorem State.Keeps.handOver (h : r.Keeps g s) (order : BoundaryOrder) (b : HandedOn) :
    r.Keeps g (s.handOver order b) := by
  have hwitness : r.Keeps g (s.activatePending.toWitness order b) := by
    unfold State.toWitness
    split
    · exact h.congr rfl rfl
    · refine State.Keeps.witnessBoundary hg ?_ _ _
      exact h.congr rfl rfl
  have hqueue : r.Keeps g (s.activatePending.toWitness order b).lineQueueBoundary := hwitness.congr (by simp) (by simp)
  have hcontroller := hqueue.toController hg order b
  rw [State.handOver]
  generalize State.toController _ order b = u at hcontroller ⊢
  exact hcontroller.congr (by simp) (by simp)

end

end Sys2Proof.Machine
end

section
/-! Proofs about the making of a boundary in each pass state: the timeline, the frame offset, the sync loss (R13, R16, R19,
R20). -/

namespace Sys2Proof.Machine

/-! ## The boundary's own work -/

/-- The four causes of a boundary (R13). -/
abbrev boundaryCauses : List (State → State) :=
  [State.causeRelock, State.causePulse, State.causeSubstituted, State.causeFlywheel]

theorem State.openFrame_causeFlywheel_state (s : State) (kind : BoundaryKind) :
    (s.openFrame kind State.causeFlywheel).pass.state = s.pass.state := by
  unfold State.openFrame
  split <;> simp

section
variable (s : State) (kind : BoundaryKind) {cause : State → State} (hcause : cause ∈ boundaryCauses)
include hcause

/-- Up to its record a boundary touches neither the pass nor the timeline. -/
theorem State.openFrame_timeline :
    let u := s.openFrame kind cause
    u.pass.state = s.pass.state ∧ u.pass.context = s.pass.context ∧ u.timebase.position = s.timebase.position
      ∧ u.timebase.nextPoint = s.timebase.nextPoint ∧ u.timebase.passPulses = s.timebase.passPulses
      ∧ u.timebase.advances = s.timebase.advances ∧ u.timebase.frameOffset = s.timebase.frameOffset := by
  simp only [List.mem_cons, List.not_mem_nil, or_false] at hcause
  rcases hcause with rfl | rfl | rfl | rfl <;> simp [State.openFrame_causeFlywheel_state]

theorem State.openFrame_blocks :
    let u := s.openFrame kind cause
    u.recording = s.recording ∧ u.axes = s.axes ∧ u.directory = s.directory ∧ u.witness = s.witness
      ∧ u.camera = s.camera ∧ u.due = s.due := by
  simp only [List.mem_cons, List.not_mem_nil, or_false] at hcause
  rcases hcause with rfl | rfl | rfl | rfl <;> simp

theorem State.openFrame_frames :
    (s.openFrame kind cause).pass.summary.map (·.frames) = s.pass.summary.map (·.frames) := by
  have hlost (u : State) : u.loseSync.pass.summary.map (·.frames) = u.pass.summary.map (·.frames) := by
    have hpass : u.loseSync.pass = (u.report fun m => { m with syncLost := true }).pass := by simp [State.loseSync]
    rw [hpass, State.report]
    split
    · rfl
    · simp only [State.onSummary, Option.map_map]
      rfl
  have hflywheel : s.causeFlywheel.pass.summary.map (·.frames) = s.pass.summary.map (·.frames) := by
    unfold State.causeFlywheel
    split
    · dsimp only
      split
      · exact hlost _
      · rfl
    · rfl
  unfold State.openFrame
  split
  · simp
  · simp only [List.mem_cons, List.not_mem_nil, or_false] at hcause
    rcases hcause with rfl | rfl | rfl | rfl
    · simp
    · simp
    · simp
    · simpa using hflywheel

end

/-- The record says the lock state that the boundary leaves. -/
theorem State.openFrame_record_lock (s : State) (kind : BoundaryKind) (cause : State → State) :
    (s.openFrame kind cause).timebase.record.map (·.lock) = some (s.openFrame kind cause).timebase.lock := rfl

/-! ## The boundary by pass state (R16, R20) -/

/-- The captures of the boundary's own advance, when they come before the pass controller. -/
def State.capturedFirst (s : State) (order : BoundaryOrder) : State :=
  if s.mode == some .record && capturesFirst order then s.raiseToS else s

section
variable (s : State) (kind : BoundaryKind) (order : BoundaryOrder) (cause : State → State)

theorem State.makeBoundary_of_below (hstate : s.pass.state = .running)
    (hbelow : (s.openFrame kind cause).atTimelineLimit = false) : s.makeBoundary kind order cause =
      ((s.openFrame kind cause).advance.capturedFirst order).updateOffset.handOver order
        ((s.openFrame kind cause).advance.handedOn kind true false) := by
  simp [State.makeBoundary, hstate, hbelow, State.runningOrParked, State.capturedFirst]

theorem State.makeBoundary_of_limit (hstate : s.pass.state = .running)
    (hlimit : (s.openFrame kind cause).atTimelineLimit = true) : s.makeBoundary kind order cause =
      (s.openFrame kind cause).updateOffset.handOver order ((s.openFrame kind cause).handedOn kind false true) := by
  simp [State.makeBoundary, hstate, hlimit, State.runningOrParked]

theorem State.makeBoundary_of_not_running (hstate : s.pass.state ≠ .running) : s.makeBoundary kind order cause =
      (if s.pass.state = .parked then (s.openFrame kind cause).updateOffset else s.openFrame kind cause).handOver order
        ((s.openFrame kind cause).handedOn kind false false) := by
  have hrunning : (s.pass.state == PassState.running) = false := by simpa using hstate
  simp [State.makeBoundary, hrunning, State.runningOrParked]

end

theorem State.updateOffset_frameOffset (s : State) : s.updateOffset.timebase.frameOffset =
    max (-32767) (min 32767 ((s.timebase.passPulses : Int) - s.timebase.advances)) := by
  unfold State.updateOffset
  rw [← clampInt_eq_max_min _ _ _ (by decide)]
  dsimp only
  split
  next h => exact h.symm
  · simp

theorem State.advance_frames (s : State) (hstate : s.pass.state ≠ .idle) : s.advance.pass.summary.map (·.frames) =
    s.pass.summary.map fun _ => min (s.timebase.advances + 1) 4294967295 := by
  rw [State.advance, State.report, if_neg hstate]
  simp only [State.onSummary, Option.map_map]
  rfl

/-! ## The end of the pass at the timeline limit (R66, R67) -/

theorem State.endPass_summary (s : State) (o : PassOutcome) :
    (s.endPass o).pass.summary = s.pass.summary.map fun m => { m with outcome := some o } := by
  unfold State.endPass
  dsimp only
  split <;> simp [State.setOutcome, State.emptySlot, State.onSummary]

theorem State.endPass_state (s : State) (o : PassOutcome) :
    (s.endPass o).pass.state = if s.mode = some .record then .ending else .complete := by
  unfold State.endPass
  dsimp only
  have hmode : (s.setOutcome o).emptySlot.mode = s.mode := rfl
  rw [hmode]
  split <;> exact State.setPass_state _ _

theorem State.mode_of_context {s : State} {c : PassContext} (h : s.pass.context = some c) : s.mode = some c.mode := by
  simp [State.mode, h]

/-- The outcome of a pass that reaches the timeline limit (R66, R67). -/
def PassContext.limitOutcome (c : PassContext) : PassOutcome := if c.mode = .record then .full else .takeEnd

section
variable {s : State} {c : PassContext} {b : HandedOn}

theorem State.passBoundary_of_limit (hstate : s.pass.state = .running) (hc : s.pass.context = some c)
    (hlimit : b.limit = true) : s.passBoundary b = s.endPass c.limitOutcome := by
  simp [State.passBoundary, hstate, State.endCondition, hc, hlimit, PassContext.limitOutcome]

/-- In RUNNING a declaration places at most a request. -/
theorem State.declarationReaches_of_running (old new : Byte) (hstate : s.pass.state = .running) :
    (s.declarationReaches old new).pass.state = .running
      ∧ (s.declarationReaches old new).pass.summary = s.pass.summary := by
  unfold State.declarationReaches
  split
  · simp [hstate, State.placeRequest]
  · exact ⟨hstate, rfl⟩

/-- In ENDING and COMPLETE a declaration does nothing. -/
theorem State.declarationReaches_of_ended (old new : Byte) (hstate : s.pass.state = .ending ∨ s.pass.state = .complete) :
    s.declarationReaches old new = s := by
  unfold State.declarationReaches
  rcases hstate with h | h <;> simp [h]

/-- The pass has ended with an outcome. -/
def State.EndedWith (r : State) (c : PassContext) (o : PassOutcome) (t : State) : Prop :=
  t.pass.summary.map (·.outcome) = r.pass.summary.map (fun _ => some o)
    ∧ t.pass.state = if c.mode = .record then .ending else .complete

theorem State.endPass_endedWith (hc : s.pass.context = some c) (o : PassOutcome) : s.EndedWith c o (s.endPass o) := by
  refine ⟨?_, ?_⟩
  · rw [s.endPass_summary, Option.map_map]
    rfl
  · rw [s.endPass_state, State.mode_of_context hc]
    simp

theorem State.controllerBoundary_of_limit (old new : Byte) (first : Bool) (hstate : s.pass.state = .running)
    (hc : s.pass.context = some c) (hlimit : b.limit = true) :
    s.EndedWith c c.limitOutcome (s.controllerBoundary old new first b) := by
  unfold State.controllerBoundary
  split
  · rw [State.passBoundary_of_limit hstate hc hlimit]
    exact State.endPass_endedWith hc _
  · split
    · obtain ⟨hrunning, hsummary⟩ := State.declarationReaches_of_running old new hstate
      have hcontext : (s.declarationReaches old new).pass.context = some c := by simpa using hc
      rw [State.passBoundary_of_limit hrunning hcontext hlimit]
      have hended := State.endPass_endedWith hcontext c.limitOutcome
      rw [State.EndedWith, hsummary] at hended
      exact hended
    · have hended : s.EndedWith c c.limitOutcome ((s.withDeclared old).passBoundary b) := by
        rw [State.passBoundary_of_limit (s := s.withDeclared old) hstate hc hlimit]
        exact State.endPass_endedWith (s := s.withDeclared old) hc _
      rw [State.declarationReaches_of_ended]
      · exact hended
      · have hstate : (((s.withDeclared old).passBoundary b).withDeclared new).pass.state
            = if c.mode = .record then .ending else .complete := hended.2
        split at hstate
        · exact .inl hstate
        · exact .inr hstate

end

/-- The controller's turn at the timeline limit, with the drain report behind it (R67, R68). -/
theorem State.handOver_of_limit {s : State} {c : PassContext} {b : HandedOn} {order : BoundaryOrder}
    (hlate : order.controllerLate = false) (hstate : s.pass.state = .running) (hc : s.pass.context = some c)
    (hlimit : b.limit = true) (hadvanced : b.advanced = false) :
    let t := s.handOver order b
    t.pass.summary.map (·.outcome) = s.pass.summary.map (fun _ => some c.limitOutcome)
      ∧ (c.mode ≠ .record → t.pass.state = .complete)
      ∧ (c.mode = .record → t.pass.state = .ending ∨ t.pass.state = .complete) := by
  intro t
  have hsteady : Summary.Steady fun _ => some c.limitOutcome :=
    ⟨fun _ _ => rfl, fun _ _ => rfl, fun _ _ _ => rfl, fun _ => rfl, fun _ => rfl⟩
  have hwitness : s.Keeps (fun _ => some c.limitOutcome) (s.activatePending.toWitness order b) := by
    unfold State.toWitness
    split
    · exact ⟨rfl, fun _ h => h⟩
    · refine State.Keeps.witnessBoundary hsteady ?_ _ _
      exact ⟨rfl, fun _ h => h⟩
  have hcamera : (s.activatePending.toWitness order b).lineQueueBoundary.cameraBoundary.pass.state = .running
      ∧ (s.activatePending.toWitness order b).lineQueueBoundary.cameraBoundary.pass.context = some c := by
    simp [hstate, hc]
  have hsummary : (s.activatePending.toWitness order b).lineQueueBoundary.cameraBoundary.pass.summary.map
      (fun _ => some c.limitOutcome) = s.pass.summary.map fun _ => some c.limitOutcome := by
    simpa using hwitness.summary
  have ht : t = (((s.activatePending.toWitness order b).lineQueueBoundary).toController order b).settle := rfl
  rw [ht, State.toController, hlate, hadvanced]
  dsimp only
  rw [if_neg Bool.false_ne_true, if_neg (by simp)]
  generalize (s.activatePending.toWitness order b).lineQueueBoundary.camera.declared = old
  generalize (s.activatePending.toWitness order b).lineQueueBoundary.cameraBoundary = u at hcamera hsummary ⊢
  obtain ⟨houtcome, hended⟩ :=
    State.controllerBoundary_of_limit old u.camera.declared order.declarationFirst hcamera.1 hcamera.2 hlimit
  generalize u.controllerBoundary old u.camera.declared order.declarationFirst b = v at houtcome hended ⊢
  have hdrain : (v.drainReport order.reportsLate).pass.state = v.pass.state
      ∨ v.pass.state = .ending ∧ (v.drainReport order.reportsLate).pass.state = .complete := by
    unfold State.drainReport
    split
    · split <;> exact .inl rfl
    · unfold State.drainCheck
      split
      next h => exact .inr ⟨h.1, State.setPass_state _ _⟩
      · exact .inl rfl
  refine ⟨?_, fun hmode => ?_, fun hmode => ?_⟩
  · simpa [hsummary] using houtcome
  · rw [if_neg hmode] at hended
    simpa [hended] using hdrain
  · rw [if_pos hmode] at hended
    simpa [hended] using hdrain

/-! ## The timeline (R16, R19, R20) -/

/-- The bounded difference between the pass pulses and a count of advances (R20). -/
def State.offsetAt (s : State) (advances : Nat) : Int :=
  max (-32767) (min 32767 ((s.timebase.passPulses : Int) - advances))

theorem State.capturedFirst_keeps {α : Type} {g : Summary → α} (hg : Summary.Steady g) {r s : State} (h : r.Keeps g s)
    (order : BoundaryOrder) : r.Keeps g (s.capturedFirst order) := by
  unfold State.capturedFirst
  split
  · exact h.raiseToS hg
  · exact h

theorem State.capturedFirst_counts (s : State) (order : BoundaryOrder) :
    (s.capturedFirst order).timebase.advances = s.timebase.advances
      ∧ (s.capturedFirst order).timebase.passPulses = s.timebase.passPulses := by
  unfold State.capturedFirst
  split <;> simp

section
variable {s : State} {c : PassContext} {p : Nat} {cause : State → State} (kind : BoundaryKind) (order : BoundaryOrder)
  (hcause : cause ∈ boundaryCauses) (hc : s.pass.context = some c) (hp : s.timebase.position = some p)
include hcause hc hp

theorem State.openFrame_atTimelineLimit :
    (s.openFrame kind cause).atTimelineLimit = decide (4294967296 ≤ p + c.pace * 16) := by
  obtain ⟨-, hcontext, hposition, -⟩ := s.openFrame_timeline kind hcause
  simp [State.atTimelineLimit, State.pace16, hcontext, hposition, hc, hp, Config.timelineLimit]

/-- A boundary made in RUNNING below the timeline's end. -/
theorem State.makeBoundary_below (hstate : s.pass.state = .running) (hbelow : p + c.pace * 16 < 4294967296) :
    let t := s.makeBoundary kind order cause
    let advances := min (s.timebase.advances + 1) 4294967295
    t.timebase.position = some (p + c.pace * 16) ∧ t.timebase.advances = advances
      ∧ t.pass.summary.map (·.frames) = s.pass.summary.map (fun _ => advances)
      ∧ t.timebase.frameOffset = s.offsetAt advances := by
  intro t advances
  obtain ⟨hopened, hcontext, hposition, -, hpulses, hadvances, -⟩ := s.openFrame_timeline kind hcause
  have hframes := s.openFrame_frames kind hcause
  have ht : t = _ := s.makeBoundary_of_below kind order cause hstate
    (by rw [State.openFrame_atTimelineLimit kind hcause hc hp, decide_eq_false (by omega)])
  generalize s.openFrame kind cause = u at *
  have hadvance : u.advance.timebase.position = some (p + c.pace * 16) ∧ u.advance.timebase.advances = advances
      ∧ u.advance.timebase.passPulses = s.timebase.passPulses := by
    refine ⟨?_, ?_, ?_⟩
    · simp [State.advance, State.pace16, hposition, hp, hcontext, hc]
    · rw [show advances = stopAt Config.countLimit (u.timebase.advances + 1) by rw [hadvances]; rfl]
      simp [State.advance]
    · simpa using hpulses
  obtain ⟨hnewPosition, hnewAdvances, hnewPulses⟩ := hadvance
  have hkeeps : u.advance.Keeps (·.frames) t := by
    rw [ht]
    refine State.Keeps.handOver Summary.steady_frames ?_ _ _
    refine State.Keeps.updateOffset Summary.steady_frames ?_
    exact State.capturedFirst_keeps Summary.steady_frames (State.Keeps.refl _ _) order
  obtain ⟨hcaptureAdvances, hcapturePulses⟩ := u.advance.capturedFirst_counts order
  refine ⟨hkeeps.position _ hnewPosition, ?_, ?_, ?_⟩
  · rw [ht]
    simpa [hcaptureAdvances] using hnewAdvances
  · have hmap (m : Option Summary) : m.map (fun _ => advances) = (m.map (·.frames)).map fun _ => advances := by
      rw [Option.map_map]
      rfl
    rw [hkeeps.summary, u.advance_frames (by simp [hopened, hstate]), hadvances, hmap u.pass.summary, hframes, ← hmap]
  · rw [ht, State.offsetAt, ← hnewAdvances, ← hnewPulses, ← hcaptureAdvances, ← hcapturePulses,
      ← State.updateOffset_frameOffset]
    simp

/-- A boundary made in RUNNING at the timeline limit. -/
theorem State.makeBoundary_atLimit (hstate : s.pass.state = .running) (hlimit : ¬ p + c.pace * 16 < 4294967296) :
    let t := s.makeBoundary kind order cause
    t.timebase.position = some p ∧ t.timebase.advances = s.timebase.advances
      ∧ t.pass.summary.map (·.frames) = s.pass.summary.map (·.frames)
      ∧ t.timebase.frameOffset = s.offsetAt s.timebase.advances
      ∧ (order.controllerLate = false →
          t.pass.summary.map (·.outcome) = s.pass.summary.map (fun _ => some c.limitOutcome)
          ∧ (c.mode ≠ .record → t.pass.state = .complete)
          ∧ (c.mode = .record → t.pass.state = .ending ∨ t.pass.state = .complete)) := by
  intro t
  obtain ⟨hopened, hcontext, hposition, -, hpulses, hadvances, -⟩ := s.openFrame_timeline kind hcause
  have hframes := s.openFrame_frames kind hcause
  have ht : t = _ := s.makeBoundary_of_limit kind order cause hstate
    (by rw [State.openFrame_atTimelineLimit kind hcause hc hp, decide_eq_true (by omega)])
  generalize s.openFrame kind cause = u at *
  have hoffset : u.Keeps (·.frames) u.updateOffset := (State.Keeps.refl _ _).updateOffset Summary.steady_frames
  have hkeeps : u.Keeps (·.frames) t := by
    rw [ht]
    exact hoffset.handOver Summary.steady_frames _ _
  refine ⟨hkeeps.position _ (hposition.trans hp), ?_, hkeeps.summary.trans hframes, ?_, fun hlate => ?_⟩
  · rw [ht]
    simpa using hadvances
  · rw [ht, State.offsetAt, ← hpulses, ← hadvances, ← State.updateOffset_frameOffset]
    simp
  · rw [ht]
    obtain ⟨houtcome, hcomplete, hending⟩ := State.handOver_of_limit (b := u.handedOn kind false true) hlate
      (show u.updateOffset.pass.state = .running by simp [hopened, hstate])
      (show u.updateOffset.pass.context = some c by simp [hcontext, hc]) rfl rfl
    refine ⟨?_, hcomplete, hending⟩
    have hconst (m : Option Summary) : m.map (fun _ => some c.limitOutcome)
        = (m.map (·.frames)).map fun _ => some c.limitOutcome := by
      rw [Option.map_map]
      rfl
    rw [houtcome, hconst, hoffset.summary, hframes, ← hconst]

omit hc in
/-- A boundary made outside RUNNING. -/
theorem State.makeBoundary_outside (hstate : s.pass.state ≠ .running) :
    let t := s.makeBoundary kind order cause
    t.timebase.position = some p ∧ t.timebase.advances = s.timebase.advances
      ∧ t.timebase.frameOffset = if s.pass.state = .parked then s.offsetAt s.timebase.advances
          else s.timebase.frameOffset := by
  intro t
  obtain ⟨-, -, hposition, -, hpulses, hadvances, hframeOffset⟩ := s.openFrame_timeline kind hcause
  have ht : t = _ := s.makeBoundary_of_not_running kind order cause hstate
  generalize s.openFrame kind cause = u at *
  rw [ht]
  have hsteady : Summary.Steady fun _ => () :=
    ⟨fun _ _ => rfl, fun _ _ => rfl, fun _ _ _ => rfl, fun _ => rfl, fun _ => rfl⟩
  split
  · have hkeeps := ((State.Keeps.refl (fun _ => ()) u).updateOffset hsteady).handOver hsteady order
      (u.handedOn kind false false)
    refine ⟨hkeeps.position _ (hposition.trans hp), by simpa using hadvances, ?_⟩
    rw [State.offsetAt, ← hpulses, ← hadvances, ← State.updateOffset_frameOffset]
    simp
  · have hkeeps := (State.Keeps.refl (fun _ => ()) u).handOver hsteady order (u.handedOn kind false false)
    exact ⟨hkeeps.position _ (hposition.trans hp), by simpa using hadvances, by simpa using hframeOffset⟩

end

/-- A boundary that the pass controller takes later waits with what it hands on (R13). -/
theorem State.handOver_late (s : State) {order : BoundaryOrder} (b : HandedOn) (hlate : order.controllerLate = true) :
    (s.handOver order b).due = (s.activatePending.toWitness order b).due ++
      [.controller b s.camera.declared s.cameraBoundary.camera.declared order.declarationFirst order.reportsLate] := by
  have hcamera : (s.activatePending.toWitness order b).lineQueueBoundary.camera = s.camera := by simp
  have hcameraBoundary (u v : State) (h : u.camera = v.camera) : u.cameraBoundary.camera = v.cameraBoundary.camera := by
    rw [State.cameraBoundary_camera, State.cameraBoundary_camera, h]
  rw [State.handOver, State.toController]
  simp only [hlate, if_true]
  rw [hcameraBoundary _ _ hcamera, hcamera]
  simp [State.deliverLater]

/-- What the boundary hands on to a pass controller that takes it later. -/
theorem State.makeBoundary_handsOn {s : State} {c : PassContext} {p : Nat} {cause : State → State} (kind : BoundaryKind)
    {order : BoundaryOrder} (hcause : cause ∈ boundaryCauses) (hc : s.pass.context = some c)
    (hp : s.timebase.position = some p) (hlate : order.controllerLate = true) :
    let t := s.makeBoundary kind order cause
    ∃ b old new, Delivery.controller b old new order.declarationFirst order.reportsLate ∈ t.due ∧ b.kind = kind
      ∧ t.timebase.record.map (·.lock) = some b.lock ∧ b.position = t.timebase.position
      ∧ b.advanced = decide (s.pass.state = .running ∧ p + c.pace * 16 < 4294967296)
      ∧ b.limit = decide (s.pass.state = .running ∧ ¬ p + c.pace * 16 < 4294967296) := by
  intro t
  obtain ⟨hopened, hcontext, hposition, -⟩ := s.openFrame_timeline kind hcause
  have hrecord : t.timebase.record.map (·.lock) = some (s.openFrame kind cause).timebase.lock := by
    rw [(s.makeBoundary_timebase kind order cause).1]
    exact s.openFrame_record_lock kind cause
  have hwaits (v : State) (b : HandedOn) (h : t = v.handOver order b) :
      ∃ old new, Delivery.controller b old new order.declarationFirst order.reportsLate ∈ t.due :=
    ⟨v.camera.declared, v.cameraBoundary.camera.declared, by rw [h, v.handOver_late b hlate]; simp⟩
  by_cases hstate : s.pass.state = .running
  · by_cases hbelow : p + c.pace * 16 < 4294967296
    · have ht : t = _ := s.makeBoundary_of_below kind order cause hstate
        (by rw [State.openFrame_atTimelineLimit kind hcause hc hp, decide_eq_false (by omega)])
      obtain ⟨hnew, -⟩ := State.makeBoundary_below kind order hcause hc hp hstate hbelow
      obtain ⟨old, new, hmem⟩ := hwaits _ _ ht
      refine ⟨_, old, new, hmem, rfl, ?_, ?_, by simp [State.handedOn, hstate, hbelow],
        by simp [State.handedOn, hstate, hbelow]⟩
      · simpa [State.handedOn] using hrecord
      · rw [hnew]
        simp [State.handedOn, State.advance, State.pace16, hposition, hp, hcontext, hc]
    · have ht : t = _ := s.makeBoundary_of_limit kind order cause hstate
        (by rw [State.openFrame_atTimelineLimit kind hcause hc hp, decide_eq_true (by omega)])
      obtain ⟨hnew, -⟩ := State.makeBoundary_atLimit kind order hcause hc hp hstate hbelow
      obtain ⟨old, new, hmem⟩ := hwaits _ _ ht
      exact ⟨_, old, new, hmem, rfl, hrecord, (hposition.trans hp).trans hnew.symm,
        by simp [State.handedOn, hbelow], by simp [State.handedOn, hstate, hbelow]⟩
  · have ht : t = _ := s.makeBoundary_of_not_running kind order cause hstate
    obtain ⟨hnew, -⟩ := State.makeBoundary_outside kind order hcause hp hstate
    obtain ⟨old, new, hmem⟩ := hwaits _ _ ht
    exact ⟨_, old, new, hmem, rfl, hrecord, (hposition.trans hp).trans hnew.symm,
      by simp [State.handedOn, hstate], by simp [State.handedOn, hstate]⟩

/-- Settles O21: the boundary below the timeline's end, at its limit and outside RUNNING, and what it hands on. -/
theorem boundaryAdvancesTimeline : Obligations.BoundaryAdvancesTimeline := by
  constructor
  · intro s order c p u advances hreset hlock _ _ hstate hc hp hbelow
    exact ⟨_, exec_flywheelBoundary_of_clear s order hreset hlock,
      State.makeBoundary_below .flywheel order (by simp) hc hp hstate hbelow⟩
  · intro s kind order c p cause hcause t offset advances below hc hp
    refine ⟨fun hstate hbelow => State.makeBoundary_below kind order hcause hc hp hstate hbelow,
      fun hstate hlimit => ?_, fun hstate => State.makeBoundary_outside kind order hcause hp hstate, fun hlate => ?_⟩
    · exact State.makeBoundary_atLimit kind order hcause hc hp hstate hlimit
    · obtain ⟨b, old, new, hmem, hb⟩ := State.makeBoundary_handsOn kind hcause hc hp hlate
      exact ⟨b, List.mem_filterMap.mpr ⟨_, hmem, rfl⟩, hb⟩

/-! ## The sync loss (R8, R10) -/

theorem State.makeBoundary_syncLost (s : State) (kind : BoundaryKind) (order : BoundaryOrder) (cause : State → State) :
    (s.makeBoundary kind order cause).pass.summary.map (·.syncLost)
      = (s.openFrame kind cause).pass.summary.map (·.syncLost) := by
  have hsteady := Summary.steady_syncLost
  have hreport (u : State) (n : Nat) : (u.report fun m => { m with frames := n }).pass.summary.map (·.syncLost)
      = u.pass.summary.map (·.syncLost) := by
    unfold State.report
    split
    · rfl
    · simp only [State.onSummary, Option.map_map]
      rfl
  by_cases hstate : s.pass.state = .running
  · cases hlimit : (s.openFrame kind cause).atTimelineLimit with
    | false =>
      rw [s.makeBoundary_of_below kind order cause hstate hlimit]
      generalize s.openFrame kind cause = u
      have hkeeps := ((State.capturedFirst_keeps hsteady (State.Keeps.refl _ u.advance) order).updateOffset hsteady).handOver
        hsteady order (u.advance.handedOn kind true false)
      rw [hkeeps.summary]
      exact hreport _ _
    | true =>
      rw [s.makeBoundary_of_limit kind order cause hstate hlimit]
      exact (((State.Keeps.refl _ _).updateOffset hsteady).handOver hsteady order _).summary
  · rw [s.makeBoundary_of_not_running kind order cause hstate]
    split
    · exact (((State.Keeps.refl _ _).updateOffset hsteady).handOver hsteady order _).summary
    · exact ((State.Keeps.refl _ _).handOver hsteady order _).summary

/-- The boundary that ends HOLDOVER raises LOCK, and a pass not in IDLE notes the sync loss (R8, R10). -/
theorem State.openFrame_holdover_lost (s : State) (hpending : s.timebase.pending = none)
    (hlock : s.timebase.lock = .holdover) (hlt : s.timebase.active.holdoverLimit < s.timebase.holdoverCount + 1) :
    (s.openFrame .flywheel State.causeFlywheel).Raised .lock
      ∧ (s.pass.state ≠ .idle → (s.openFrame .flywheel State.causeFlywheel).pass.summary.map (·.syncLost)
          = s.pass.summary.map fun _ => true) := by
  rw [s.openFrame_of_none _ _ hpending, State.causeFlywheel, if_pos hlock]
  dsimp only
  rw [if_pos hlt, State.loseSync, State.enterFree_of_ne _ (by simp [hlock])]
  refine ⟨?_, fun hstate => ?_⟩
  · show State.flag _ .lock = true
    simp [State.flag, State.writeRecord, Event.bit]
  · rw [State.report, if_neg hstate]
    simp only [State.onSummary, State.writeRecord, Option.map_map]
    rfl

/-- Settles O16: the counts before the row by `State.elapse_counted` and `State.elapse_sameFrame`, the boundary by what its
cause leaves. -/
theorem flywheelBoundaryMakesFrame : Obligations.FlywheelBoundaryMakesFrame := by
  refine ⟨?_, ?_, ?_, ?_⟩
  · intro s n hn hreset t u left
    obtain ⟨hcontrol, hinterval, htime⟩ := s.elapse_counted n hn hreset
    refine ⟨rfl, hinterval, htime, hcontrol, fun hle => s.elapse_sameFrame n hn hreset hle,
      fun hdue hincoming hle hpoint hreset' => ?_⟩
    have hquiet : s.elapse n = s.count n := by
      refine s.elapse_of_quiet n (fun d ev hnext => ?_) (by omega)
      rcases State.nextOwn_cases hreset hnext with ⟨-, hne⟩ | ⟨-, hd⟩ | ⟨-, hp⟩ | ⟨-, hr⟩ | ⟨-, hne⟩
      · exact absurd hdue hne
      · exact hd ▸ hle
      · exact hpoint d hp
      · unfold State.runResetIn at hr
        split at hr
        next h =>
          obtain ⟨hholdover, hwatching, hnear⟩ := h
          cases hr
          exact hreset' hholdover hwatching (Bool.eq_false_iff.mpr hnear)
        · cases hr
      · exact absurd hincoming hne
    show s.elapse n = _
    have hport : ({ s.port with incoming := bytesAfter n s.port.incoming } : Port) = s.port := by
      rw [hincoming, bytesAfter, ← hincoming]
    rw [hquiet, s.count_of_clear n hreset, hport, State.count, if_neg (by simp [hreset])] <;> rfl
  · intro s u hreset hlock hle hlimit
    obtain ⟨hsame, hactive, hpending, hflywheel⟩ := s.atBoundary hreset
    have hat : s.timebase.boundaryAt = s.timebase.active.nNom := if_neg hlock
    rw [hat] at hflywheel
    exact ⟨hflywheel hle hlimit, hsame, hactive, hpending⟩
  · intro s order u hreset hlock hin hnone
    refine ⟨_, exec_flywheelBoundary_of_clear s order hreset hlock, ?_⟩
    have hopen := u.openFrame_causeFlywheel_timebase hnone hin
    obtain ⟨mrecord, mflywheel, mlock, mrun, mhistory, -, -, mactive, -, minterval, mpulses, -⟩ :=
      u.makeBoundary_timebase .flywheel order State.causeFlywheel
    rw [hopen] at mrecord mflywheel mlock mrun mhistory mactive minterval mpulses
    exact ⟨mrecord, mflywheel, mlock, mrun, mhistory, minterval, mactive, mpulses⟩
  · intro s order u hreset hlock hholdover hnone
    refine ⟨_, exec_flywheelBoundary_of_clear s order hreset hlock, ?_⟩
    obtain ⟨mrecord, mflywheel, mlock, mrun, mhistory, -, mcount, -⟩ :=
      u.makeBoundary_timebase .flywheel order State.causeFlywheel
    rcases Nat.lt_or_ge u.timebase.active.holdoverLimit (u.timebase.holdoverCount + 1) with hlt | hle
    · have hopen := u.openFrame_holdover_of_lt hnone hholdover hlt
      obtain ⟨hraised, hlost⟩ := u.openFrame_holdover_lost hnone hholdover hlt
      rw [hopen] at mrecord mflywheel mlock mrun mhistory mcount
      refine ⟨mflywheel, by rw [State.flywheelNow, mrecord]; rfl, fun h => absurd h (by omega), fun _ => ?_⟩
      exact ⟨mlock, mcount, mrun, mhistory, State.makeBoundary_raised hraised order,
        fun hstate => (u.makeBoundary_syncLost _ order _).trans (hlost hstate)⟩
    · have hopen := u.openFrame_holdover_of_le hnone hholdover hle
      rw [hopen] at mrecord mflywheel mlock mrun mhistory mcount
      exact ⟨mflywheel, by rw [State.flywheelNow, mrecord]; rfl, fun _ => ⟨mlock.trans hholdover, mcount, mrun, mhistory⟩,
        fun h => absurd h (by omega)⟩

end Sys2Proof.Machine
end

section
/-! Proofs about sample points and the capture of a RECORD pass's lines (R15, R17, R84 to R91). -/

namespace Sys2Proof.Machine

/-! ## When a sample point is reached (R15, R17) -/

theorem mul_scaled_position {k j : Nat} (hk : k ∈ [1, 2, 4, 8, 16]) (hj : j < 65536 * k) :
    j * (65536 / k) ≤ 4294967295 := by
  simp only [List.mem_cons, List.not_mem_nil, or_false] at hk
  rcases hk with rfl | rfl | rfl | rfl | rfl <;> omega

/-- The position x counts after a boundary at S, with the pace `pace16` over a period of n counts (R15). -/
def positionAfter (start pace16 n x : Nat) : Nat := min (start + pace16 * min x n / n) 4294967295

theorem positionAfter_mono {start pace16 n x y : Nat} (h : x ≤ y) :
    positionAfter start pace16 n x ≤ positionAfter start pace16 n y := by
  have hdiv : pace16 * min x n / n ≤ pace16 * min y n / n :=
    Nat.div_le_div_right (Nat.mul_le_mul_left _ (by omega))
  unfold positionAfter
  omega

section
variable {s : State} {pt : Nat} (hpt : pt ≤ 4294967295) (hn : 0 < s.timebase.period)
include hpt hn

/-- The least count at which the position reaches a point of the frame. -/
theorem State.reachedAt_some {at_ : Nat} (h : s.reachedAt pt = some at_) :
    pt ≤ positionAfter (s.timebase.position.getD 0) s.pace16 s.timebase.period at_
      ∧ ∀ x, x < at_ → positionAfter (s.timebase.position.getD 0) s.pace16 s.timebase.period x < pt := by
  unfold State.reachedAt at h
  generalize s.timebase.position.getD 0 = start at h ⊢
  generalize s.timebase.period = n at h hn ⊢
  generalize s.pace16 = pace at h ⊢
  dsimp only at h
  split at h
  next hle =>
    cases h
    refine ⟨?_, fun x hx => absurd hx (Nat.not_lt_zero x)⟩
    unfold positionAfter
    generalize pace * min 0 n / n = moved
    omega
  next hlt =>
    split at h
    · cases h
    next hwithin =>
      cases h
      have hpace : 0 < pace := by omega
      have hceil : (pt - start) * n ≤ pace * (((pt - start) * n + pace - 1) / pace) := by
        have := Nat.lt_mul_div_succ ((pt - start) * n + pace - 1) hpace
        rw [Nat.mul_add, Nat.mul_one] at this
        omega
      have hat : ((pt - start) * n + pace - 1) / pace ≤ n := by
        have hgap : (pt - start) * n ≤ pace * n := Nat.mul_le_mul_right n (by omega)
        have hlt : (pt - start) * n + pace - 1 < pace * (n + 1) := by
          rw [Nat.mul_add, Nat.mul_one]
          omega
        exact Nat.lt_succ_iff.mp (Nat.div_lt_of_lt_mul hlt)
      refine ⟨?_, fun x hx => ?_⟩
      · have hreach : pt - start ≤ pace * min (((pt - start) * n + pace - 1) / pace) n / n := by
          rw [Nat.min_eq_left hat, Nat.le_div_iff_mul_le hn]
          exact hceil
        unfold positionAfter
        omega
      · have hbelow : pace * min x n / n < pt - start := by
          rw [Nat.div_lt_iff_lt_mul hn]
          have hx' : x * pace ≤ (pt - start) * n + pace - 1 - pace := by
            have hsucc : (x + 1) * pace ≤ (pt - start) * n + pace - 1 := (Nat.le_div_iff_mul_le hpace).mp hx
            rw [Nat.add_mul, Nat.one_mul] at hsucc
            omega
          have hmin : pace * min x n ≤ x * pace := by
            rw [Nat.mul_comm x]
            exact Nat.mul_le_mul_left _ (by omega)
          have hpos : 0 < (pt - start) * n := Nat.mul_pos (by omega) hn
          omega
        unfold positionAfter
        omega

omit hpt in
theorem State.reachedAt_none (h : s.reachedAt pt = none) (x : Nat) :
    positionAfter (s.timebase.position.getD 0) s.pace16 s.timebase.period x < pt := by
  unfold State.reachedAt at h
  generalize s.timebase.position.getD 0 = start at h ⊢
  generalize s.timebase.period = n at h hn ⊢
  generalize s.pace16 = pace at h ⊢
  dsimp only at h
  split at h
  · cases h
  · split at h
    next hbeyond =>
      have hframe : pace * min x n / n ≤ pace := by
        rw [Nat.div_le_iff_le_mul_add_pred hn]
        have hmin : pace * min x n ≤ pace * n := Nat.mul_le_mul_left _ (by omega)
        rw [Nat.mul_comm n]
        omega
      unfold positionAfter
      omega
    · cases h

end

theorem State.pointIn_of_record (s : State) {c : PassContext} (hc : s.pass.context = some c)
    (hstate : s.pass.state = .running) (hmode : c.mode = .record) (hj : s.timebase.nextPoint < 65536 * c.k) :
    s.pointIn = (s.reachedAt (s.timebase.nextPoint * (65536 / c.k))).map fun at_ => at_ - s.timebase.flywheel := by
  simp [State.pointIn, hc, hstate, hmode, hj]

theorem State.pointIn_of_not_running (s : State) (hstate : s.pass.state ≠ .running) : s.pointIn = none := by
  unfold State.pointIn
  split
  · rw [if_neg (by simp [hstate])]
  · rfl

/-- The sample point is reached at the count that pointIn says, and not before. -/
theorem State.pointIn_reached (s : State) {c : PassContext} (hc : s.pass.context = some c)
    (hstate : s.pass.state = .running) (hmode : c.mode = .record) (hk : c.k ∈ [1, 2, 4, 8, 16])
    (hj : s.timebase.nextPoint < 65536 * c.k) (hn : 0 < s.timebase.period) :
    let p := positionAfter (s.timebase.position.getD 0) s.pace16 s.timebase.period
    let point := s.timebase.nextPoint * (65536 / c.k)
    (∀ d, s.pointIn = some d → point ≤ p (s.timebase.flywheel + d) ∧ ∀ x, x < d → p (s.timebase.flywheel + x) < point)
      ∧ (s.pointIn = none → ∀ x, p x < point) := by
  intro p point
  have hpoint : point ≤ 4294967295 := mul_scaled_position hk hj
  rw [s.pointIn_of_record hc hstate hmode hj]
  refine ⟨fun d hd => ?_, fun hnone => s.reachedAt_none hn (Option.map_eq_none_iff.mp hnone)⟩
  obtain ⟨at_, hat, rfl⟩ := Option.map_eq_some_iff.mp hd
  obtain ⟨hreached, hbefore⟩ := s.reachedAt_some hpoint hn hat
  exact ⟨Nat.le_trans hreached (positionAfter_mono (by omega)), fun x hx => hbefore _ (by omega)⟩

/-! ## One capture (R84, R85, R89, R90) -/

/-- Line i of a group that begins at line j; only the first line of a group that is not coincident bears the markers (R85,
R86). -/
def State.groupLine (s : State) (c : PassContext) (j : Nat) (coincident : Bool) (i : Nat) : RecordLine :=
  ⟨j + i, (trackList c.tracks).map fun a => (s.axis a).lastForwarded.getD 0,
    { unset := (trackList c.tracks).any fun a => (s.axis a).lastForwarded.isNone
      clamped := (!coincident && decide (i = 0)) && (trackList c.tracks).any fun a => (s.axis a).clampSince
      saturated := (!coincident && decide (i = 0)) && (trackList c.tracks).any fun a => (s.axis a).satSince
      coincident := coincident || decide (0 < i) }⟩

/-- An axis with its capture markers cleared (R85). -/
def Axis.withoutMarkers (ax : Axis) : Axis := { ax with clampSince := false, satSince := false }

theorem State.clearMarkers_axis (axes : List Nat) : ∀ (s : State) (a : Nat),
    (s.clearMarkers axes).axis a = if a ∈ axes then (s.axis a).withoutMarkers else s.axis a := by
  have hreset : State.resetAxis.withoutMarkers = State.resetAxis := rfl
  have hone (s : State) (b a : Nat) : (s.onAxis b fun ax => { ax with clampSince := false, satSince := false }).axis a
      = if a = b then (s.axis a).withoutMarkers else s.axis a := by
    split
    next h =>
      subst h
      rcases Nat.lt_or_ge a s.axes.length with hlt | hge
      · exact s.axis_onAxis_self a _ hlt
      · simp [State.axis, List.getD, hge, hreset]
    next h => exact s.axis_onAxis_ne b a _ h
  induction axes with
  | nil => exact fun _ _ => rfl
  | cons b axes ih =>
    intro s a
    show ((s.onAxis b _).clearMarkers axes).axis a = _
    rw [ih, hone]
    by_cases hb : a = b <;> by_cases ha : a ∈ axes <;> simp [hb, ha, Axis.withoutMarkers]

/-- A capture end reported to a RECORD pass: RUNNING and PARKED become ENDING at the position evaluated, every other state
keeps its outcome (R67, R89, R90). -/
def State.CaptureEnds (s : State) (o : PassOutcome) (p : Nat) (t : State) : Prop :=
  t.recording.isOpen = false
    ∧ (s.pass.state = .running ∨ s.pass.state = .parked → t.flag .pass = true ∧ t.timebase.position = some p
        ∧ t.pass = { s.pass with state := .ending, pending := none,
                                 summary := s.pass.summary.map fun m => { m with outcome := some o } })
    ∧ (s.pass.state ≠ .running → s.pass.state ≠ .parked →
        t.pass = s.pass ∧ t.timebase.position = s.timebase.position)

theorem State.endPass_of_record (s : State) (o : PassOutcome) (hmode : s.mode = some .record)
    (hstate : s.pass.state ≠ .ending) : s.endPass o =
      { s with
        pass := { s.pass with state := .ending, pending := none,
                              summary := s.pass.summary.map fun m => { m with outcome := some o } }
        port := { s.port with flags := s.port.flags ||| 4 } } := by
  unfold State.endPass
  dsimp only
  rw [if_pos (show (s.setOutcome o).emptySlot.mode = some .record from hmode), State.setPass, if_neg (by simpa using hstate)]
  rfl

theorem State.reportCaptureEnd_of_record (s : State) (o : PassOutcome) (p : Nat) (hmode : s.mode = some .record)
    (hopen : s.recording.isOpen = false) : s.CaptureEnds o p (s.reportCaptureEnd o p) := by
  unfold State.reportCaptureEnd
  refine ⟨by split <;> simp [hopen], fun hstate => ?_, fun hrunning hparked => ?_⟩
  · rw [if_pos (by simpa [State.runningOrParked] using hstate), State.endPass_of_record]
    · refine ⟨?_, rfl, rfl⟩
      simp [State.flag, Event.bit]
    · exact hmode
    · rcases hstate with h | h <;> simp [h]
  · rw [if_neg (by simp [State.runningOrParked, hrunning, hparked])]
    exact ⟨rfl, rfl⟩

/-- In a CLOSED recording a group captures nothing. -/
theorem State.captureGroup_of_closed (c : PassContext) (p n : Nat) : ∀ (s : State) (j : Nat) (coincident : Bool),
    s.recording.isOpen = false → s.captureGroup c p n j coincident = s := by
  induction n with
  | zero => exact fun _ _ _ _ => rfl
  | succ n ih =>
    intro s j coincident h
    have hline : s.captureLine c p j coincident = s := by simp [State.captureLine, h]
    rw [State.captureGroup, hline]
    exact ih s (j + 1) true h

/-- The line joins the queue and the markers of its tracks are cleared. -/
def State.captured (s : State) (c : PassContext) (j : Nat) (coincident : Bool) : State :=
  (s.appendLine (s.groupLine c j coincident 0)).clearMarkers (trackList c.tracks)

section
variable {s : State} {c : PassContext} {p j : Nat} {coincident : Bool} (hopen : s.recording.isOpen = true)
include hopen

theorem State.captureLine_of_full (hfull : 16 ≤ s.recording.queue.length) : s.captureLine c p j coincident =
    (s.closeRecording.raise .overrun).reportCaptureEnd .overrun p := by
  rw [State.captureLine, if_neg (by simp [hopen]), if_pos (show Config.recordQueueDepth ≤ _ from hfull)]

theorem State.captureLine_of_room (hroom : s.recording.queue.length < 16) : s.captureLine c p j coincident =
    if c.maxLines = some (j + 1) then (s.captured c j coincident).closeRecording.reportCaptureEnd .full p
    else s.captured c j coincident := by
  have hline : (⟨j, s.captureSamples c.tracks, s.captureFlags c.tracks coincident⟩ : RecordLine)
      = s.groupLine c j coincident 0 := by
    simp [State.groupLine, State.captureSamples, State.captureFlags]
  rw [State.captureLine, if_neg (by simp [hopen]),
    if_neg (show ¬ Config.recordQueueDepth ≤ _ from Nat.not_le.mpr hroom), hline]
  rfl

end

theorem State.captured_queue (s : State) (c : PassContext) (j : Nat) (coincident : Bool) :
    (s.captured c j coincident).recording.queue = s.recording.queue ++ [s.groupLine c j coincident 0] := by
  simp [State.captured, State.appendLine]

theorem State.captured_highWater (s : State) (c : PassContext) (j : Nat) (coincident : Bool) :
    (s.captured c j coincident).recording.highWater = max s.recording.highWater (s.recording.queue.length + 1) := by
  simp [State.captured, State.appendLine]

theorem State.captured_axis (s : State) (c : PassContext) (j : Nat) (coincident : Bool) (a : Nat) :
    (s.captured c j coincident).axis a = if a ∈ trackList c.tracks then (s.axis a).withoutMarkers else s.axis a := by
  rw [State.captured, State.clearMarkers_axis]
  rfl

@[simp] theorem State.captured_frame (s : State) (c : PassContext) (j : Nat) (coincident : Bool) :
    (s.captured c j coincident).pass = s.pass ∧ (s.captured c j coincident).timebase = s.timebase
      ∧ (s.captured c j coincident).recording.isOpen = s.recording.isOpen ∧ (s.captured c j coincident).port = s.port
      ∧ (s.captured c j coincident).directory = s.directory ∧ (s.captured c j coincident).witness = s.witness
      ∧ (s.captured c j coincident).camera = s.camera := by
  simp [State.captured]

/-- The later lines of a group are those of the coincident group that begins one line on. -/
theorem State.groupLine_captured (s : State) (c : PassContext) (j : Nat) (coincident : Bool) (i : Nat) :
    (s.captured c j coincident).groupLine c (j + 1) true i = s.groupLine c j coincident (i + 1) := by
  have hforwarded (a : Nat) : ((s.captured c j coincident).axis a).lastForwarded = (s.axis a).lastForwarded := by
    rw [State.captured_axis]
    split <;> rfl
  simp [State.groupLine, hforwarded]
  omega

/-! ## A group of captures (R17, R86, R89, R90) -/

/-- The lines that a group of n events captures from line j on, of a reservation of `last` lines. -/
def State.groupSize (s : State) (n j last : Nat) : Nat := min n (min (16 - s.recording.queue.length) (last - j))

/-- The group finds the queue full before its last event and before the last line of the reservation (R89). -/
def State.groupOverruns (s : State) (n j last : Nat) : Prop :=
  16 - s.recording.queue.length < n ∧ 16 - s.recording.queue.length < last - j

/-- The group captures the last line of the reservation (R90). -/
def State.groupFills (s : State) (n j last : Nat) : Prop :=
  last - j ≤ n ∧ last - j ≤ 16 - s.recording.queue.length

/-- What a group leaves of the queue, the markers, the flag OVERRUN and the pass. -/
structure State.GroupCaptured (s : State) (c : PassContext) (p n j last : Nat) (coincident : Bool) (t : State) : Prop where
  queue : t.recording.queue
    = s.recording.queue ++ (List.range (s.groupSize n j last)).map (s.groupLine c j coincident)
  overrun : t.flag .overrun = true ↔ s.flag .overrun = true ∨ s.groupOverruns n j last
  overruns : s.groupOverruns n j last → s.CaptureEnds .overrun p t
  fills : s.groupFills n j last → s.CaptureEnds .full p t
  goesOn : ¬ s.groupOverruns n j last → ¬ s.groupFills n j last →
    t.recording.isOpen = true ∧ t.pass = s.pass ∧ t.timebase.position = s.timebase.position
  axis : ∀ a, t.axis a = if 0 < s.groupSize n j last ∧ a ∈ trackList c.tracks then (s.axis a).withoutMarkers else s.axis a
  highWater : t.recording.highWater = max s.recording.highWater
    (if s.groupSize n j last = 0 then 0 else s.recording.queue.length + s.groupSize n j last)

theorem State.flag_overrun_captureEnd {u : State} (o : PassOutcome) (p : Nat) :
    (u.reportCaptureEnd o p).flag .overrun = u.flag .overrun :=
  u.flag_reportCaptureEnd (by decide) o p

theorem State.captureGroup_captured (c : PassContext) (p last : Nat) (hlast : c.maxLines = some last) (n : Nat) :
    ∀ (s : State) (j : Nat) (coincident : Bool), s.mode = some .record → s.recording.isOpen = true → j < last →
      s.GroupCaptured c p n j last coincident (s.captureGroup c p n j coincident) := by
  induction n with
  | zero =>
    intro s j coincident _ hopen hj
    have hsize : s.groupSize 0 j last = 0 := Nat.zero_min _
    have hfills : ¬ s.groupFills 0 j last := fun h => absurd h.1 (by omega)
    have hoverruns : ¬ s.groupOverruns 0 j last := fun h => absurd h.1 (by omega)
    exact ⟨by simp [hsize, State.captureGroup], by simp [hoverruns, State.captureGroup], fun h => absurd h hoverruns,
      fun h => absurd h hfills, fun _ _ => ⟨hopen, rfl, rfl⟩, fun a => by simp [hsize, State.captureGroup],
      by simp [hsize, State.captureGroup]⟩
  | succ n ih =>
    intro s j coincident hmode hopen hj
    rw [State.captureGroup]
    rcases Nat.lt_or_ge s.recording.queue.length 16 with hroom | hfull
    · rw [State.captureLine_of_room hopen hroom]
      by_cases hfinal : last = j + 1
      · rw [if_pos (by rw [hlast, hfinal])]
        have hends := State.reportCaptureEnd_of_record (s.captured c j coincident).closeRecording .full p
          (by simpa [State.mode] using hmode) rfl
        have hkept : s.CaptureEnds .full p ((s.captured c j coincident).closeRecording.reportCaptureEnd .full p) := by
          simpa [State.CaptureEnds] using hends
        have hsize : s.groupSize (n + 1) j last = 1 := by
          unfold State.groupSize
          omega
        have hoverruns : ¬ s.groupOverruns (n + 1) j last := fun h => by
          have := h.2
          omega
        rw [State.captureGroup_of_closed _ _ _ _ _ _ hkept.1]
        refine ⟨?_, ?_, fun h => absurd h hoverruns, fun _ => hkept, fun _ hnot => absurd ?_ hnot, fun a => ?_, ?_⟩
        · simp [hsize, State.captured_queue]
        · rw [State.flag_overrun_captureEnd]
          simp [hoverruns, State.flag, State.closeRecording]
        · exact ⟨by omega, by omega⟩
        · have haxis := s.captured_axis c j coincident a
          simp only [hsize, Nat.one_pos, true_and]
          rw [← haxis]
          simp [State.axis]
        · simp [hsize, State.captured_highWater]
      · rw [if_neg (by rw [hlast, Option.some.injEq]; exact hfinal)]
        have hnext := ih (s.captured c j coincident) (j + 1) true (by simpa [State.mode] using hmode)
          (by simpa using hopen) (by omega)
        have hlength : (s.captured c j coincident).recording.queue.length = s.recording.queue.length + 1 := by
          simp [State.captured_queue]
        have hsize : s.groupSize (n + 1) j last = (s.captured c j coincident).groupSize n (j + 1) last + 1 := by
          unfold State.groupSize
          omega
        have hoverruns : s.groupOverruns (n + 1) j last ↔ (s.captured c j coincident).groupOverruns n (j + 1) last := by
          unfold State.groupOverruns
          omega
        have hfills : s.groupFills (n + 1) j last ↔ (s.captured c j coincident).groupFills n (j + 1) last := by
          unfold State.groupFills
          omega
        have hends (o : PassOutcome) (t : State) (h : (s.captured c j coincident).CaptureEnds o p t) :
            s.CaptureEnds o p t := by
          simpa [State.CaptureEnds] using h
        generalize (s.captured c j coincident).captureGroup c p n (j + 1) true = t at hnext ⊢
        refine ⟨?_, ?_, fun h => hends _ _ (hnext.overruns (hoverruns.mp h)), fun h => hends _ _ (hnext.fills (hfills.mp h)),
          fun h h' => ?_, fun a => ?_, ?_⟩
        · rw [hnext.queue, State.captured_queue, hsize, List.range_succ_eq_map, List.append_assoc]
          congr 1
          simp only [List.singleton_append, List.map_cons, List.map_map]
          congr 1
          exact List.map_congr_left fun i _ => s.groupLine_captured c j coincident i
        · rw [hnext.overrun, hoverruns]
          simp [State.flag]
        · simpa using hnext.goesOn (mt hoverruns.mpr h) (mt hfills.mpr h')
        · rw [hnext.axis, State.captured_axis, hsize]
          by_cases ha : a ∈ trackList c.tracks <;> simp [ha, Axis.withoutMarkers]
        · rw [hnext.highWater, State.captured_highWater, hlength, hsize, if_neg (Nat.succ_ne_zero _)]
          split <;> omega
    · rw [State.captureLine_of_full hopen hfull]
      have hends := State.reportCaptureEnd_of_record (s.closeRecording.raise .overrun) .overrun p hmode rfl
      have hkept : s.CaptureEnds .overrun p ((s.closeRecording.raise .overrun).reportCaptureEnd .overrun p) := hends
      have hsize : s.groupSize (n + 1) j last = 0 := by
        unfold State.groupSize
        omega
      have hoverruns : s.groupOverruns (n + 1) j last := by
        unfold State.groupOverruns
        omega
      have hfills : ¬ s.groupFills (n + 1) j last := by
        unfold State.groupFills
        omega
      rw [State.captureGroup_of_closed _ _ _ _ _ _ hkept.1]
      refine ⟨?_, ?_, fun _ => hkept, fun h => absurd h hfills, fun h => absurd hoverruns h, fun a => ?_, ?_⟩
      · simp [hsize, State.closeRecording]
      · rw [State.flag_overrun_captureEnd]
        simp [hoverruns]
      · simp [hsize, State.axis, State.closeRecording]
      · simp [hsize, State.closeRecording]

/-! ## What a group leaves alone -/

theorem State.endPass_directory_of_record (s : State) (o : PassOutcome) (hmode : s.mode = some .record) :
    (s.endPass o).directory = s.directory := by
  unfold State.endPass
  dsimp only
  rw [if_pos (show (s.setOutcome o).emptySlot.mode = some .record from hmode)]
  simp

theorem State.reportCaptureEnd_directory (s : State) (o : PassOutcome) (p : Nat) (hmode : s.mode = some .record) :
    (s.reportCaptureEnd o p).directory = s.directory := by
  unfold State.reportCaptureEnd
  split
  · exact State.endPass_directory_of_record _ _ hmode
  · rfl

theorem State.captureGroup_directory (c : PassContext) (p n : Nat) : ∀ (s : State) (j : Nat) (coincident : Bool),
    s.mode = some .record → (s.captureGroup c p n j coincident).directory = s.directory := by
  induction n with
  | zero => exact fun _ _ _ _ => rfl
  | succ n ih =>
    intro s j coincident hmode
    have hline : (s.captureLine c p j coincident).directory = s.directory := by
      unfold State.captureLine
      split
      · rfl
      · split
        · exact State.reportCaptureEnd_directory _ _ _ hmode
        · dsimp only
          split
          · exact (State.reportCaptureEnd_directory _ _ _ (by simpa [State.mode] using hmode)).trans (by simp)
          · simp
    exact (ih _ _ _ (by simpa [State.mode] using hmode)).trans hline

/-! ## The evaluation of a position (R17) -/

/-- The line indices reached at position p. -/
def PassContext.reached (c : PassContext) (p : Nat) : Nat := p * c.k / 65536 + 1

/-- The state whose next sample point lies past position p. -/
def State.pastPoints (s : State) (c : PassContext) (p : Nat) : State :=
  { s with timebase := { s.timebase with nextPoint := c.reached p } }

section
variable {s : State} {c : PassContext} {p : Nat} (hc : s.pass.context = some c) (hmode : c.mode = .record)
include hc hmode

theorem State.raisePoints_of_reached (h : c.reached p ≤ s.timebase.nextPoint) : s.raisePoints p = s := by
  simp only [State.raisePoints, hc, hmode, if_true]
  exact if_neg (Nat.not_lt.mpr h)

theorem State.raisePoints_of_new (h : s.timebase.nextPoint < c.reached p) : s.raisePoints p =
    (s.pastPoints c p).captureGroup c p (c.reached p - s.timebase.nextPoint) s.timebase.nextPoint false := by
  simp only [State.raisePoints, hc, hmode, if_true]
  exact if_pos h

theorem State.raisePoints_nextPoint : (s.raisePoints p).timebase.nextPoint = max s.timebase.nextPoint (c.reached p) := by
  rcases Nat.lt_or_ge s.timebase.nextPoint (c.reached p) with h | h
  · rw [State.raisePoints_of_new hc hmode h, Nat.max_eq_right (Nat.le_of_lt h)]
    simp [State.pastPoints]
  · rw [State.raisePoints_of_reached hc hmode h, Nat.max_eq_left h]

theorem State.raisePoints_directory : (s.raisePoints p).directory = s.directory := by
  rcases Nat.lt_or_ge s.timebase.nextPoint (c.reached p) with h | h
  · rw [State.raisePoints_of_new hc hmode h]
    exact State.captureGroup_directory _ _ _ _ _ _ (State.mode_of_context hc ▸ congrArg some hmode)
  · rw [State.raisePoints_of_reached hc hmode h]

/-- The group of an evaluation that reaches new points in an OPEN recording. -/
theorem State.raisePoints_captured {last : Nat} (hlast : c.maxLines = some last)
    (h : s.timebase.nextPoint < c.reached p) (hopen : s.recording.isOpen = true) (hj : s.timebase.nextPoint < last) :
    s.GroupCaptured c p (c.reached p - s.timebase.nextPoint) s.timebase.nextPoint last false (s.raisePoints p) := by
  rw [State.raisePoints_of_new hc hmode h]
  have hgroup := State.captureGroup_captured c p last hlast (c.reached p - s.timebase.nextPoint) (s.pastPoints c p)
    s.timebase.nextPoint false (State.mode_of_context hc ▸ congrArg some hmode) hopen hj
  exact ⟨hgroup.queue, hgroup.overrun, hgroup.overruns, hgroup.fills, hgroup.goesOn, hgroup.axis, hgroup.highWater⟩

end

/-! ## The captures of a boundary's advance (R17, R67, R89, R90) -/

/-- t has captured what g has: the same recording, next sample point and markers, and an overrun of g's raised. -/
structure State.CapturedAs (g : State) (p : Nat) (t : State) : Prop where
  recording : t.recording = g.recording
  nextPoint : t.timebase.nextPoint = g.timebase.nextPoint
  context : t.pass.context = g.pass.context
  lastForwarded : ∀ a, (t.axis a).lastForwarded = (g.axis a).lastForwarded
  clampSince : ∀ a, (t.axis a).clampSince = (g.axis a).clampSince
  satSince : ∀ a, (t.axis a).satSince = (g.axis a).satSince
  overrun : g.Raised .overrun → t.Raised .overrun
  position : t.timebase.position = some p

section
variable {g t : State} {p : Nat} (h : g.CapturedAs p t)
include h

theorem State.CapturedAs.congr {u : State} (hrecording : u.recording = t.recording)
    (hpoint : u.timebase.nextPoint = t.timebase.nextPoint) (hcontext : u.pass.context = t.pass.context)
    (haxes : u.axes = t.axes) (hraised : t.Raised .overrun → u.Raised .overrun)
    (hposition : u.timebase.position = t.timebase.position) : g.CapturedAs p u := by
  have haxis (a : Nat) : u.axis a = t.axis a := by rw [State.axis, State.axis, haxes]
  exact ⟨hrecording.trans h.recording, hpoint.trans h.nextPoint, hcontext.trans h.context,
    fun a => haxis a ▸ h.lastForwarded a, fun a => haxis a ▸ h.clampSince a, fun a => haxis a ▸ h.satSince a,
    fun hg => hraised (h.overrun hg), hposition.trans h.position⟩

theorem State.CapturedAs.groupLine (c : PassContext) (j : Nat) (coincident : Bool) (i : Nat) :
    t.groupLine c j coincident i = g.groupLine c j coincident i := by
  simp only [State.groupLine, h.lastForwarded, h.clampSince, h.satSince]

theorem State.CapturedAs.endPass (o : PassOutcome) : g.CapturedAs p (t.endPass o) :=
  h.congr (by simp) (by simp) (by simp) (by simp) (fun ht => State.Raised.endPass ht o) (by simp)

theorem State.CapturedAs.captured (c : PassContext) (j : Nat) (coincident : Bool) :
    (g.captured c j coincident).CapturedAs p (t.captured c j coincident) := by
  refine ⟨?_, by simpa using h.nextPoint, by simpa using h.context, fun a => ?_, fun a => ?_, fun a => ?_,
    fun hg => (h.overrun (hg.congr (by simp))).congr (by simp), by simpa using h.position⟩
  · simp [State.captured, State.appendLine, h.groupLine, h.recording]
  · simp only [State.captured_axis]
    split
    · exact h.lastForwarded a
    · exact h.lastForwarded a
  · simp only [State.captured_axis]
    split
    · rfl
    · exact h.clampSince a
  · simp only [State.captured_axis]
    split
    · rfl
    · exact h.satSince a

/-- A capture end at the position that t stands at; g reports it on its own position. -/
theorem State.CapturedAs.reportCaptureEnd (o : PassOutcome) :
    (g.reportCaptureEnd o p).CapturedAs p (t.reportCaptureEnd o p) := by
  have hg : (g.reportCaptureEnd o p).CapturedAs p t := by
    refine ⟨by simpa using h.recording, by simpa using h.nextPoint, by simpa using h.context, fun a => ?_, fun a => ?_,
      fun a => ?_, fun hraised => h.overrun (by rwa [State.Raised, State.flag_overrun_captureEnd] at hraised), h.position⟩
    · simpa [State.axis] using h.lastForwarded a
    · simpa [State.axis] using h.clampSince a
    · simpa [State.axis] using h.satSince a
  refine hg.congr (by simp) (by simp) (by simp) (by simp) (fun ht => State.Raised.reportCaptureEnd ht o p) ?_
  unfold State.reportCaptureEnd
  split
  · simpa using h.position.symm
  · rfl

theorem State.CapturedAs.captureLine (c : PassContext) (j : Nat) (coincident : Bool) :
    (g.captureLine c p j coincident).CapturedAs p (t.captureLine c p j coincident) := by
  cases hopen : g.recording.isOpen with
  | false =>
    have hclosed : t.recording.isOpen = false := h.recording ▸ hopen
    rw [show g.captureLine c p j coincident = g by simp [State.captureLine, hopen],
      show t.captureLine c p j coincident = t by simp [State.captureLine, hclosed]]
    exact h
  | true =>
    have hopen' : t.recording.isOpen = true := h.recording ▸ hopen
    rcases Nat.lt_or_ge g.recording.queue.length 16 with hroom | hfull
    · have hroom' : t.recording.queue.length < 16 := h.recording ▸ hroom
      rw [State.captureLine_of_room hopen hroom, State.captureLine_of_room hopen' hroom']
      have hcaptured := h.captured c j coincident
      split
      · refine State.CapturedAs.reportCaptureEnd ?_ _
        exact ⟨congrArg (fun r : Recording => { r with isOpen := false }) hcaptured.recording, hcaptured.nextPoint,
          hcaptured.context, hcaptured.lastForwarded, hcaptured.clampSince, hcaptured.satSince, hcaptured.overrun,
          hcaptured.position⟩
      · exact hcaptured
    · have hfull' : 16 ≤ t.recording.queue.length := h.recording ▸ hfull
      rw [State.captureLine_of_full hopen hfull, State.captureLine_of_full hopen' hfull']
      refine State.CapturedAs.reportCaptureEnd ?_ _
      exact ⟨congrArg (fun r : Recording => { r with isOpen := false }) h.recording, h.nextPoint, h.context,
        h.lastForwarded, h.clampSince, h.satSince, fun _ => by simp [State.Raised], h.position⟩

omit h in
theorem State.CapturedAs.captureGroup (c : PassContext) (n : Nat) : ∀ {g t : State} (j : Nat) (coincident : Bool),
    g.CapturedAs p t → (g.captureGroup c p n j coincident).CapturedAs p (t.captureGroup c p n j coincident) := by
  induction n with
  | zero => exact fun _ _ h => h
  | succ n ih => exact fun j coincident h => ih _ _ (h.captureLine c j coincident)

theorem State.CapturedAs.raisePoints {c : PassContext} (hc : g.pass.context = some c) (hmode : c.mode = .record) :
    (g.raisePoints p).CapturedAs p (t.raisePoints p) := by
  have hc' : t.pass.context = some c := h.context.trans hc
  rcases Nat.lt_or_ge g.timebase.nextPoint (c.reached p) with hnew | hold
  · rw [State.raisePoints_of_new hc hmode hnew, State.raisePoints_of_new hc' hmode (h.nextPoint ▸ hnew), h.nextPoint]
    refine State.CapturedAs.captureGroup _ _ _ _ ?_
    exact ⟨h.recording, rfl, h.context, h.lastForwarded, h.clampSince, h.satSince, h.overrun, h.position⟩
  · rw [State.raisePoints_of_reached hc hmode hold, State.raisePoints_of_reached hc' hmode (h.nextPoint ▸ hold)]
    exact h

end

/-- t has captured what s has, or what s captures at position p. -/
def State.Capturing (s : State) (p : Nat) (t : State) : Prop := s.CapturedAs p t ∨ (s.raisePoints p).CapturedAs p t

section
variable {s t : State} {c : PassContext} {p : Nat} (h : s.Capturing p t)
include h

theorem State.Capturing.congr {u : State} (hrecording : u.recording = t.recording)
    (hpoint : u.timebase.nextPoint = t.timebase.nextPoint) (hcontext : u.pass.context = t.pass.context)
    (haxes : u.axes = t.axes) (hraised : t.Raised .overrun → u.Raised .overrun)
    (hposition : u.timebase.position = t.timebase.position) : s.Capturing p u :=
  h.imp (·.congr hrecording hpoint hcontext haxes hraised hposition)
    (·.congr hrecording hpoint hcontext haxes hraised hposition)

variable (hc : s.pass.context = some c) (hmode : c.mode = .record)
include hc hmode

/-- The captures at S are made once, however often the position S is evaluated. -/
theorem State.Capturing.raiseToS : (s.raisePoints p).CapturedAs p t.raiseToS := by
  have hposition : t.raiseToS = t.raisePoints p := by
    have ht : t.timebase.position = some p := h.elim (·.position) (·.position)
    rw [State.raiseToS, ht]
    rfl
  have hcontext : (s.raisePoints p).pass.context = some c := by simpa using hc
  have htwice : (s.raisePoints p).raisePoints p = s.raisePoints p :=
    State.raisePoints_of_reached hcontext hmode (by rw [State.raisePoints_nextPoint hc hmode]; exact Nat.le_max_right _ _)
  rw [hposition]
  rcases h with h | h
  · exact h.raisePoints hc hmode
  · exact htwice ▸ h.raisePoints hcontext hmode

theorem State.Capturing.enterRunning : s.Capturing p t.enterRunning := by
  have hentered : s.Capturing p
      (({ t with pass := { t.pass with preroll := none, pending := none } } : State).firstRun.setPass .running) := by
    refine h.congr (by simp) (by simp) (by simp) (by simp) (fun ht => ?_) (by simp)
    refine State.Raised.setPass ?_ _
    exact ht.congr (by simp)
  exact .inr (hentered.raiseToS hc hmode)

theorem State.Capturing.applyPending : s.Capturing p t.applyPending := by
  unfold State.applyPending
  split
  next r _ =>
    cases r with
    | park =>
      refine h.congr (by simp [State.applyRequest]) (by simp [State.applyRequest]) (by simp [State.applyRequest])
        (by simp [State.applyRequest]) (fun ht => ?_) (by simp [State.applyRequest])
      refine State.Raised.setPass ?_ _
      exact ht.congr rfl
    | resume => exact h.enterRunning hc hmode
    | _ => exact h.imp (·.endPass _) (·.endPass _)
  · exact h

theorem State.Capturing.passBoundary (b : HandedOn) : s.Capturing p (t.passBoundary b) := by
  unfold State.passBoundary
  split
  · split
    · split
      · exact h.enterRunning hc hmode
      · refine h.congr (by simp) (by simp) (by simp) (by simp) (fun ht => ?_) (by simp)
        refine State.Raised.setPass ?_ _
        exact ht.congr rfl
    · exact h
  · split
    · split
      · exact h.enterRunning hc hmode
      · exact h.congr rfl rfl rfl rfl (fun ht => ht) rfl
    · exact h.enterRunning hc hmode
  · split
    · exact h.imp (·.endPass _) (·.endPass _)
    · exact h.applyPending hc hmode
  · exact h.applyPending hc hmode
  · exact h

theorem State.Capturing.controllerBoundary (old new : Byte) (first : Bool) (b : HandedOn) :
    s.Capturing p (t.controllerBoundary old new first b) := by
  unfold State.controllerBoundary
  split
  · exact h.passBoundary hc hmode b
  · split
    · refine State.Capturing.passBoundary ?_ hc hmode b
      exact h.congr (by simp) (by simp) (by simp) (by simp) (fun ht => ht.declarationReaches old new) (by simp)
    · have hold : s.Capturing p (t.withDeclared old) := h.congr rfl rfl rfl rfl (fun ht => ht) rfl
      refine (hold.passBoundary hc hmode b).congr (by simp [State.withDeclared]) (by simp [State.withDeclared])
        (by simp [State.withDeclared]) (by simp [State.withDeclared]) (fun ht => ?_) (by simp [State.withDeclared])
      refine State.Raised.declarationReaches ?_ old new
      exact ht.congr rfl

/-- What the blocks do up to the pass controller's turn. -/
theorem State.Capturing.handOver (order : BoundaryOrder) (b : HandedOn)
    (hcaptured : capturesFirst order = true → (s.raisePoints p).CapturedAs p t) (hadvanced : b.advanced = true) :
    let g := s.raisePoints p
    let v := t.handOver order b
    v.recording.queue = g.recording.queue ∧ v.timebase.nextPoint = g.timebase.nextPoint
      ∧ (g.Raised .overrun → v.Raised .overrun) := by
  intro g v
  have hactivated (r : State) (hr : r.CapturedAs p t) : r.CapturedAs p t.activatePending := by
    have haxis (a : Nat) : t.activatePending.axis a = (t.axis a).activate := by
      simp only [State.axis, State.activatePending, List.getD_eq_getElem?_getD, List.getElem?_map]
      cases t.axes[a]? <;> rfl
    have hactivate (ax : Axis) : ax.activate.lastForwarded = ax.lastForwarded ∧ ax.activate.clampSince = ax.clampSince
        ∧ ax.activate.satSince = ax.satSince := by
      unfold Axis.activate
      split <;> exact ⟨rfl, rfl, rfl⟩
    exact ⟨hr.recording, hr.nextPoint, hr.context, fun a => haxis a ▸ (hactivate _).1.trans (hr.lastForwarded a),
      fun a => haxis a ▸ (hactivate _).2.1.trans (hr.clampSince a), fun a => haxis a ▸ (hactivate _).2.2.trans (hr.satSince a),
      hr.overrun, hr.position⟩
  have hcontroller (r : State) (hr : r.CapturedAs p t) :
      r.CapturedAs p (t.activatePending.toWitness order b).lineQueueBoundary.cameraBoundary := by
    refine (hactivated r hr).congr (by simp) (by simp) (by simp) (by simp) (fun ht => ?_) (by simp)
    have hwitness : (t.activatePending.toWitness order b).Raised .overrun := by
      unfold State.toWitness
      split
      · exact ht.congr rfl
      · exact ht.witnessBoundary _ _
    have hqueue : (t.activatePending.toWitness order b).lineQueueBoundary.Raised .overrun := hwitness.congr (by simp)
    exact hqueue.cameraBoundary
  have hdone (u : State) (hu : g.CapturedAs p u) (hv : v = u.settle) : v.recording.queue = g.recording.queue
      ∧ v.timebase.nextPoint = g.timebase.nextPoint ∧ (g.Raised .overrun → v.Raised .overrun) := by
    rw [hv]
    exact ⟨by simpa using congrArg Recording.queue hu.recording, by simpa using hu.nextPoint,
      fun hg => (hu.overrun hg).settle⟩
  have hmode' (u : State) (hu : s.Capturing p u) : u.mode = some .record := by
    have hcontext : u.pass.context = some c :=
      hu.elim (fun hu => hu.context.trans hc) (fun hu => hu.context.trans (by simpa using hc))
    rw [State.mode_of_context hcontext, hmode]
  refine hdone _ ?_ rfl
  have hbefore : s.Capturing p (t.activatePending.toWitness order b).lineQueueBoundary.cameraBoundary :=
    h.imp (hcontroller s) (hcontroller (s.raisePoints p))
  unfold State.toController
  dsimp only
  split
  next hlate =>
    have hfirst := hcontroller _ (hcaptured (by simp [capturesFirst, hlate]))
    exact hfirst.congr rfl rfl rfl rfl (fun ht => ht) rfl
  · have hdrain (u : State) (hu : g.CapturedAs p u) : g.CapturedAs p (u.drainReport order.reportsLate) :=
      hu.congr (by simp) (by simp) (by simp) (by simp) (fun ht => ht.drainReport _) (by simp)
    refine hdrain _ ?_
    cases hfirst : capturesFirst order with
    | false =>
      have hafter := hbefore.controllerBoundary hc hmode
        (t.activatePending.toWitness order b).lineQueueBoundary.camera.declared
        (t.activatePending.toWitness order b).lineQueueBoundary.cameraBoundary.camera.declared order.declarationFirst b
      rw [if_pos (by rw [hadvanced, hmode' _ hafter]; rfl)]
      exact hafter.raiseToS hc hmode
    | true =>
      have hcontext : g.pass.context = some c := by
        show (s.raisePoints p).pass.context = some c
        simpa using hc
      have hg : g.Capturing p _ := .inl (hcontroller g (hcaptured hfirst))
      have hafter := hg.controllerBoundary hcontext hmode
        (t.activatePending.toWitness order b).lineQueueBoundary.camera.declared
        (t.activatePending.toWitness order b).lineQueueBoundary.cameraBoundary.camera.declared order.declarationFirst b
      have htwice : g.raisePoints p = g := State.raisePoints_of_reached hcontext hmode
        (by rw [State.raisePoints_nextPoint hc hmode]; exact Nat.le_max_right _ _)
      rw [State.Capturing, htwice, or_self] at hafter
      rw [if_neg (by simp)]
      exact hafter

end

/-- Up to its record a boundary raises LOCK at most (R10). -/
theorem State.openFrame_flag (s : State) (kind : BoundaryKind) {cause : State → State} (hcause : cause ∈ boundaryCauses)
    {ev : Event} (hev : ev ≠ .lock) : (s.openFrame kind cause).flag ev = s.flag ev := by
  have hwatch : s.clearWatch.flag ev = s.flag ev := rfl
  unfold State.openFrame
  split
  · exact State.flag_enterFree _ hev
  · simp only [List.mem_cons, List.not_mem_nil, or_false] at hcause
    rcases hcause with rfl | rfl | rfl | rfl
    · exact (State.flag_addMark _ hev _).trans (State.flag_enterLocked _ hev)
    · exact (State.flag_addMark _ hev _).trans hwatch
    · exact (State.flag_addMark _ hev _).trans hwatch
    · exact State.flag_causeFlywheel _ hev

/-- What a boundary made in RUNNING below the timeline's end brings to its captures. -/
theorem State.openFrame_advance_capturedAs {s : State} {c : PassContext} {p : Nat} {cause : State → State}
    (kind : BoundaryKind) (hcause : cause ∈ boundaryCauses) (hc : s.pass.context = some c)
    (hp : s.timebase.position = some p) :
    s.CapturedAs (p + c.pace * 16) (s.openFrame kind cause).advance := by
  obtain ⟨hrecording, haxes, -⟩ := s.openFrame_blocks kind hcause
  obtain ⟨-, hcontext, hposition, hpoint, -⟩ := s.openFrame_timeline kind hcause
  have hflag := s.openFrame_flag kind hcause (ev := .overrun) (by decide)
  generalize s.openFrame kind cause = u at *
  have haxis (a : Nat) : u.advance.axis a = s.axis a := by
    rw [State.axis, State.axis, ← haxes]
    simp
  refine ⟨by simpa using hrecording, by simpa using hpoint, by simpa using hcontext, fun a => by rw [haxis],
    fun a => by rw [haxis], fun a => by rw [haxis], fun h => ?_, ?_⟩
  · have hu : u.Raised .overrun := hflag.trans h
    exact hu.congr (by simp)
  · simp [State.advance, State.pace16, hposition, hp, hcontext, hc]

/-! ## The sample-point row -/

theorem exec_samplePoint_of_clear (s : State) (hreset : s.resetControl.inForce = false) {d : Nat}
    (hpoint : s.takeBoundaries.pointIn = some d) (hd : d ≤ s.takeBoundaries.boundaryIn)
    (hstate : (s.takeBoundaries.elapse d).pass.state = .running) : exec .samplePoint s =
      .next ((s.takeBoundaries.elapse d).raisePoints (s.takeBoundaries.elapse d).runningPosition).settle := by
  show Host.Outcome.next (if s.resetControl.inForce then s else _) = _
  rw [if_neg (by simp [hreset])]
  dsimp only
  rw [hpoint]
  dsimp only
  rw [if_pos hd, State.samplePointNow, if_pos hstate]

/-- The free slot's decision leaves what a capture changes. -/
def State.SettledAs (g t : State) : Prop :=
  t.recording.queue = g.recording.queue ∧ t.recording.isOpen = g.recording.isOpen
    ∧ t.recording.highWater = g.recording.highWater ∧ t.pass = g.pass ∧ t.timebase = g.timebase ∧ t.axes = g.axes
    ∧ t.directory = g.directory ∧ t.witness = g.witness ∧ t.camera = g.camera
    ∧ ∀ ev : Event, ev ≠ .protect → ev ≠ .partialWrite → t.flag ev = g.flag ev

theorem State.settle_settledAs (g : State) : g.SettledAs g.settle := by
  refine ⟨?_, ?_, ?_, ?_, ?_, ?_, ?_, ?_, ?_, fun ev hprotect hpartial => g.flag_settle hprotect hpartial⟩
  all_goals simp

/-- The lines of a group of one. -/
theorem State.raisePoints_single {s : State} {c : PassContext} {p : Nat} (hc : s.pass.context = some c)
    (hmode : c.mode = .record) (hopen : s.recording.isOpen = true) (hroom : s.recording.queue.length < 16)
    (hone : p * c.k / 65536 = s.timebase.nextPoint) (hmore : c.maxLines ≠ some (s.timebase.nextPoint + 1)) :
    s.raisePoints p = (s.pastPoints c p).captured c s.timebase.nextPoint false := by
  have hreached : c.reached p = s.timebase.nextPoint + 1 := congrArg (· + 1) hone
  rw [State.raisePoints_of_new hc hmode (by omega), hreached, Nat.add_sub_cancel_left, State.captureGroup,
    State.captureGroup, State.captureLine_of_room (s := s.pastPoints c p) hopen hroom, if_neg hmore]

/-- Settles O22: when the point is reached by `State.pointIn_reached`, what a group captures by
`State.raisePoints_captured`, and the captures of a boundary by `State.Capturing`. -/
theorem samplePointCapturesLine : Obligations.SamplePointCapturesLine := by
  refine ⟨?_, ?_, ?_, ?_, ?_⟩
  · intro s hreset hstate
    show Host.Outcome.next (if s.resetControl.inForce then s else _) = _
    rw [if_neg (by simp [hreset])]
    dsimp only
    rw [s.takeBoundaries.pointIn_of_not_running hstate]
  · intro s c hc hstate hmode n e point p hk hj hn
    have hpace : s.pace16 = c.pace * 16 := by simp [State.pace16, hc]
    have hp : p = positionAfter (s.timebase.position.getD 0) s.pace16 s.timebase.period := by
      rw [hpace]
      rfl
    obtain ⟨hreached, hnever⟩ := s.pointIn_reached hc hstate hmode hk hj hn
    rw [← hp] at hreached hnever
    exact ⟨hreached, hnever, by rw [hp]; rfl⟩
  · intro s d c v u tracks j hreset hpoint hd hstate
    refine ⟨_, exec_samplePoint_of_clear s hreset hpoint hd hstate, ?_⟩
    show (let g := u.raisePoints u.runningPosition; g.SettledAs (g.settle)) ∧ _
    have hsettled := (u.raisePoints u.runningPosition).settle_settledAs
    refine ⟨hsettled, fun hc hmode hopen hroom hone hmore => ?_⟩
    change State.SettledAs _ (State.settle (u.raisePoints u.runningPosition)) at hsettled
    have hsingle := State.raisePoints_single hc hmode hopen hroom hone hmore
    have hreached : c.reached u.runningPosition = j + 1 := congrArg (· + 1) hone
    change _ = _ ∧ _
    generalize State.settle (u.raisePoints u.runningPosition) = t at hsettled ⊢
    rw [hsingle] at hsettled
    obtain ⟨hqueue, hisOpen, hhighWater, hpass, htimebase, haxes, hdirectory, hwitness, hcamera, hflag⟩ := hsettled
    have haxis (a : Nat) : t.axis a = if a ∈ tracks then (u.axis a).withoutMarkers else u.axis a := by
      rw [State.axis, haxes]
      exact State.captured_axis (u.pastPoints c _) c j false a
    have hline : (u.pastPoints c u.runningPosition).groupLine c j false 0 = u.groupLine c j false 0 := rfl
    refine ⟨?_, ?_, hisOpen.trans (by simpa [State.pastPoints] using hopen), ?_, fun a ha => ?_,
      fun a ha => (haxis a).trans (if_neg ha), hpass.trans (by simp [State.pastPoints]),
      hdirectory.trans (by simp [State.pastPoints]), hwitness.trans (by simp [State.pastPoints]),
      hcamera.trans (by simp [State.pastPoints]), fun ev hprotect hpartial => ?_⟩
    · rw [hqueue, State.captured_queue, hline]
      simp [State.groupLine, State.pastPoints, tracks]
    · rw [htimebase]
      simpa [State.pastPoints] using hreached
    · rw [hhighWater, State.captured_highWater]
      rfl
    · have hcleared := (haxis a).trans (if_pos ha)
      exact ⟨congrArg Axis.clampSince hcleared, congrArg Axis.satSince hcleared,
        (congrArg Axis.lastForwarded hcleared).trans rfl⟩
    · rw [hflag ev hprotect hpartial]
      exact State.flag_congr (by simp [State.pastPoints]) ev
  · intro s c p last hc hmode hlast tracks j n room captured line overruns fills t ends
    have hn : n = c.reached p - j := rfl
    refine ⟨fun hzero => ?_, fun hpos hclosed => ?_, fun hpos hopen hj => ?_⟩
    · exact State.raisePoints_of_reached hc hmode (by omega)
    · have ht : t = _ := State.raisePoints_of_new hc hmode (by omega)
      rw [ht, State.captureGroup_of_closed _ _ _ (s.pastPoints c p) _ _ hclosed, State.pastPoints,
        show c.reached p = j + n by omega]
    · have hgroup : s.GroupCaptured c p n j last false t := State.raisePoints_captured hc hmode hlast (by omega) hopen hj
      have hline : s.groupLine c j false = line := by
        funext i
        simp [State.groupLine, line, j, tracks]
      have hover : t.flag .overrun = (s.flag .overrun || decide overruns) := by
        rw [Bool.eq_iff_iff, hgroup.overrun]
        simp [overruns, State.groupOverruns, room, j]
      refine ⟨?_, hline ▸ hgroup.queue, hover, hgroup.overruns, hgroup.fills, hgroup.goesOn, fun a => hgroup.axis a,
        fun hcaptured => ?_, State.raisePoints_directory hc hmode, by simp [t], by simp [t],
        fun ev hne hpass => s.flag_raisePoints hpass hne p⟩
      · have hnext := State.raisePoints_nextPoint (p := p) hc hmode
        show (s.raisePoints p).timebase.nextPoint = _
        omega
      · rw [hgroup.highWater, if_neg (show ¬ s.groupSize n j last = 0 from Nat.ne_of_gt hcaptured)]
        rfl
  · intro s kind order c p cause hcause g t hc hmode hstate hp hbelow
    have ht : t = _ := s.makeBoundary_of_below kind order cause hstate
      (by rw [State.openFrame_atTimelineLimit kind hcause hc hp, decide_eq_false (by omega)])
    have hadvanced := State.openFrame_advance_capturedAs kind hcause hc hp
    have hmade : s.Capturing (p + c.pace * 16) (s.openFrame kind cause).advance := .inl hadvanced
    have hrecords : (s.openFrame kind cause).advance.mode = some .record := by
      rw [State.mode_of_context (hadvanced.context.trans hc), hmode]
    have hoffset (g u : State) (hu : g.CapturedAs (p + c.pace * 16) u) : g.CapturedAs (p + c.pace * 16) u.updateOffset :=
      hu.congr (by simp) (by simp) (by simp) (by simp) (fun hraised => hraised.updateOffset) (by simp)
    have hfirst : capturesFirst order = true → (s.raisePoints (p + c.pace * 16)).CapturedAs (p + c.pace * 16)
        ((s.openFrame kind cause).advance.capturedFirst order) := fun hfirst => by
      rw [State.capturedFirst, hrecords, hfirst]
      exact hmade.raiseToS hc hmode
    have hcaptures : s.Capturing (p + c.pace * 16) ((s.openFrame kind cause).advance.capturedFirst order) := by
      cases horder : capturesFirst order with
      | true => exact .inr (hfirst horder)
      | false =>
        rw [State.capturedFirst, horder, Bool.and_false]
        exact hmade
    rw [ht]
    exact State.Capturing.handOver (hcaptures.imp (hoffset _ _) (hoffset _ _)) hc hmode order _
      (fun horder => hoffset _ _ (hfirst horder)) rfl

end Sys2Proof.Machine
end

section
/-! Proofs about the camera line receiver, the select line, and the begin and the end of a hardware reset (R74, R75, R188,
R198 to R200, R206). -/

namespace Sys2Proof.Machine

/-! ## The camera line (R74, R75) -/

theorem parityGood_iff (data : Byte) (parity : Bool) : parityGood data parity = true
    ↔ ((List.range 8).countP (fun i => data.getLsbD i) + parity.toNat) % 2 = 0 := by
  simp [parityGood]

/-- Settles O23: each row by the receiver's state. -/
theorem statusLineReceiver : Obligations.StatusLineReceiver := by
  constructor
  · intro s after u hreset
    have hstart (low : Bool) : exec (.statusStartEdge after low) s = .next
        (if u.camera.receiver = .hunting ∧ low then { u with camera := { u.camera with receiver := .receiving 0 } } else u) :=
      congrArg Host.Outcome.next (if_neg (by simp [u, hreset]))
    have hreturn : exec (.statusLineReturnHigh after) s = .next
        (if u.camera.receiver = .waitingHigh then { u with camera := { u.camera with receiver := .hunting } } else u) :=
      congrArg Host.Outcome.next (if_neg (by simp [u, hreset]))
    refine ⟨fun h => ?_, ?_, fun h low => ?_, fun h => ?_, fun h => ?_⟩
    · rw [hstart, if_pos ⟨h, rfl⟩]
    · rw [hstart, if_neg (by simp)]
    · rw [hstart, if_neg (by simp [h])]
    · rw [hreturn, if_pos h]
    · rw [hreturn, if_neg h]
  · intro s after k data parity stop u ones hreset hreceiving
    have hrow : exec (.statusCharacter after data parity stop) s
        = .next { u with camera := u.camera.character data parity stop } := by
      show Host.Outcome.next (if u.resetControl.inForce = true then u else _) = _
      rw [if_neg (by simp [hreset])]
      show Host.Outcome.next (match u.camera.receiver with
        | .receiving _ => _
        | _ => _) = _
      rw [hreceiving]
    have hgood : (stop && parityGood data parity) = true ↔ stop = true ∧ ones % 2 = 0 := by
      rw [Bool.and_eq_true, parityGood_iff]
    rw [hrow, Camera.character]
    by_cases h : stop = true ∧ ones % 2 = 0
    · obtain ⟨hstop, -⟩ := id h
      rw [if_pos (hgood.mpr h), if_pos h, if_pos hstop]
      rfl
    · rw [if_neg (mt hgood.mp h), if_neg h]
      rfl

/-! ## The begin of a reset (R148, R198, R200) -/

theorem State.takeRequest_of_inForce (s : State) (hreset : s.resetControl.inForce = true) : s.takeRequest = none := by
  rw [State.takeRequest, if_pos hreset]

/-- While a reset is in force only a waiting pass-through transaction is served, unchecked (R148). -/
theorem State.arbitrate_of_inForce (s : State) (hreset : s.resetControl.inForce = true) :
    s.arbitrate = s ∨ ∃ t, s.arbitrate = (s.setUrgentRun 0).startPassThrough t false := by
  have hgrant (t : UpstreamTxn) : (s.setUrgentRun 0).grantPassThrough t = (s.setUrgentRun 0).startPassThrough t false := by
    have hdecision : (s.setUrgentRun 0).grantDecision t = .forward false := by
      rw [State.grantDecision, if_pos]
      simp [State.setUrgentRun, hreset]
    rw [State.grantPassThrough, hdecision]
  unfold State.arbitrate
  rw [s.takeRequest_of_inForce hreset]
  split
  · exact .inl rfl
  · split
    next h _ => exact .inl rfl
    next h => cases h
    next t _ _ => exact .inr ⟨t, hgrant t⟩
    next h => cases h

/-- What the begin of a reset abandons and drops, before the port serves the held transaction. -/
def State.abandoned (s : State) : State :=
  { s with
    resetControl := { s.resetControl with inForce := true },
    memory := { s.memory with upstream := s.memory.upstream.map UpstreamTxn.atReset,
                              downstream := s.memory.downstream.filter fun d => d.owner == .passThrough },
    recording := State.resetRecording, lineQueue := State.emptyLineQueue,
    interpolator := { s.interpolator with inFlight := none }, writeInProcessing := none, due := [],
    port := { s.port with phase := .ignored, incoming := [], resetPending := false } }

theorem State.beginReset_of_clear (s : State) (hreset : s.resetControl.inForce = false) :
    s.beginReset = s.abandoned.arbitrate := by
  rw [State.beginReset, if_neg (by simp [hreset])]
  rfl

/-- A reset in force as it has begun: everything under way but a pass-through transaction is abandoned. -/
structure State.InReset (s t : State) : Prop where
  control : t.resetControl = { s.resetControl with inForce := true }
  port : t.port = { s.port with phase := .ignored, incoming := [], resetPending := false }
  recording : t.recording = State.resetRecording
  lineQueue : t.lineQueue = State.emptyLineQueue
  interpolation : t.interpolator.inFlight = none
  write : t.writeInProcessing = none
  downstream : ∀ d, t.memory.downstream = some d → d.owner = .passThrough
  orders : t.openOrders = s.openOrders

theorem State.beginReset_inReset (s : State) (hreset : s.resetControl.inForce = false) : s.InReset s.beginReset := by
  have hkept (d : DownstreamTxn) (h : s.abandoned.memory.downstream = some d) : d.owner = .passThrough := by
    have hmem := (Option.filter_eq_some_iff.mp h).2
    simpa using hmem
  rw [s.beginReset_of_clear hreset]
  rcases s.abandoned.arbitrate_of_inForce rfl with h | ⟨t, h⟩
  · rw [h]
    exact ⟨rfl, rfl, rfl, rfl, rfl, rfl, hkept, rfl⟩
  · rw [h]
    refine ⟨rfl, rfl, rfl, rfl, rfl, rfl, fun d hd => ?_, rfl⟩
    cases hd
    rfl

/-! ## The select line (R188, R190, R199) -/

/-- The frame ends, after the bytes of its response that the sender still clocks (R188, R190). -/
def State.frameEnded (s : State) (clocked : Nat) : State :=
  let v := if s.port.phase = .response then s.shiftOut clocked else s
  { v with port := { v.port.endFrame with selectHigh := true, resetPending := false } }

theorem State.frameEnded_eq (s : State) (clocked : Nat) :
    s.frameEnded clocked = { s with port := (s.frameEnded clocked).port }
      ∧ (s.frameEnded clocked).port.selectHigh = true ∧ (s.frameEnded clocked).port.phase = .idle
      ∧ (s.frameEnded clocked).port.resetPending = false
      ∧ (s.frameEnded clocked).port.flags = s.port.flags ∧ (s.frameEnded clocked).port.mask = s.port.mask := by
  unfold State.frameEnded Port.endFrame
  dsimp only
  (repeat' split) <;> exact ⟨rfl, rfl, rfl, rfl, rfl, rfl⟩

/-- The reset of a RESET PART is named and its span noted (R199, R206). -/
def State.commandsReset (s : State) : State :=
  { s with resetControl := { s.resetControl with spanLeft := max s.resetControl.spanLeft 1000, byCommand := true } }

theorem exec_selectRise_of_low (s : State) (after clocked : Nat) (hreset : (s.elapse after).resetControl.inForce = false)
    (hlow : (s.elapse after).port.selectHigh = false) : exec (.selectRise after clocked) s =
      .next (if (s.elapse after).port.resetPending then ((s.elapse after).frameEnded clocked).commandsReset.beginReset
        else (s.elapse after).frameEnded clocked) := by
  have hpending (u : State) : (if u.port.phase = .response then u.shiftOut clocked else u).port.resetPending
      = u.port.resetPending := by
    split <;> rfl
  show Host.Outcome.next (if (s.elapse after).port.selectHigh = true then s.elapse after
    else if (s.elapse after).resetControl.inForce = true then _ else _) = _
  rw [if_neg (by simp [hlow]), if_neg (by simp [hreset])]
  dsimp only
  rw [hpending]
  rfl

/-- Settles O9: the fall begins a frame, the rise ends it, and a pending RESET PART begins its reset. -/
theorem selectLineFrames : Obligations.SelectLineFrames := by
  intro s after clocked early u hreset
  refine ⟨fun hhigh => ?_, fun hlow hpending => ?_, fun hlow hpending => ?_⟩
  · show Host.Outcome.next (if (!u.port.selectHigh) = true then u else if u.resetControl.inForce = true then _ else _) = _
    rw [if_neg (by simp [hhigh]), if_neg (by simp [hreset])]
  · obtain ⟨hother, hhigh, hidle, -, hflags, hmask⟩ := u.frameEnded_eq clocked
    refine ⟨u.frameEnded clocked, ?_, hhigh, hidle, hother, hflags, hmask⟩
    rw [exec_selectRise_of_low s after clocked hreset hlow, if_neg (by simpa [u] using hpending)]
  · obtain ⟨hother, hhigh, -⟩ := u.frameEnded_eq clocked
    have hclear : (u.frameEnded clocked).commandsReset.resetControl.inForce = false := by
      rw [hother]
      exact hreset
    have hbegun := (u.frameEnded clocked).commandsReset.beginReset_inReset hclear
    refine ⟨(u.frameEnded clocked).commandsReset.beginReset, ?_, ?_, ?_, ?_, ?_⟩
    · rw [exec_selectRise_of_low s after clocked hreset hlow, if_pos hpending]
    · rw [hbegun.port]
      exact hhigh
    · rw [hbegun.port]
    · rw [hbegun.control]
    · rw [hbegun.control]
      rfl

/-! ## POWER_ON and RESET_PIN (R198, R206) -/

/-- What the begin of a reset leaves of the port, the take engine and the blocks. -/
theorem State.InReset.outcome {s t : State} (h : s.InReset t) :
    t.resetControl.inForce = true ∧ t.port.phase = .ignored ∧ t.port.resetPending = false ∧ t.dataOutByte = 0xFF
      ∧ t.alert = false ∧ t.takeRequest = none ∧ t.port.flags = s.port.flags := by
  have hin : t.resetControl.inForce = true := by rw [h.control]
  refine ⟨hin, by rw [h.port], by rw [h.port], ?_, ?_, t.takeRequest_of_inForce hin, by rw [h.port]⟩
  · rw [State.dataOutByte, if_pos (by simp [hin])]
  · simp [State.alert, hin]

/-- Settles O5: either event is `State.beginReset` on the state that notes its source. -/
theorem powerOnAndPinBeginReset : Obligations.PowerOnAndPinBeginReset := by
  constructor
  · intro s after u
    exact ⟨fun hheld => congrArg Host.Outcome.next (if_pos hheld),
      fun hheld => congrArg Host.Outcome.next (if_neg (by simp [u, hheld]))⟩
  · intro s after settling hreset c hc
    simp only [List.mem_cons, List.not_mem_nil, or_false] at hc
    rcases hc with rfl | rfl
    · have hbegun := State.beginReset_inReset { s.elapse after with resetControl :=
        { ((s.elapse after).resetControl.atLeast (settling + Config.powerSpan)) with byPower := true } } hreset
      obtain ⟨hin, hphase, hpending, hout, halert, hrequest, hflags⟩ := hbegun.outcome
      refine ⟨_, rfl, hin, ?_, ?_, ?_, hphase, hpending, hout, halert, hbegun.interpolation, hbegun.write, hrequest,
        hbegun.recording, hbegun.lineQueue, hbegun.downstream, hflags, hbegun.orders⟩
      · rw [hbegun.control]
        simp
      · rw [hbegun.control]
        simp [ResetControl.atLeast]
      · rw [hbegun.control]
        simp [ResetControl.atLeast, Config.powerSpan]
    · have hbegun := State.beginReset_inReset { s.elapse after with resetControl :=
        { (s.elapse after).resetControl with byPin := true, pinHeld := true } } hreset
      obtain ⟨hin, hphase, hpending, hout, halert, hrequest, hflags⟩ := hbegun.outcome
      refine ⟨_, rfl, hin, ?_, ?_, ?_, hphase, hpending, hout, halert, hbegun.interpolation, hbegun.write, hrequest,
        hbegun.recording, hbegun.lineQueue, hbegun.downstream, hflags, hbegun.orders⟩
      · rw [hbegun.control]
        simp
      · rw [hbegun.control]
        simp
      · rw [hbegun.control]
        simp

/-! ## The end of a reset (R198) -/

theorem State.endReset_axis (s : State) (a : Nat) : s.endReset.axis a = State.resetAxis :=
  List.getElem?_getD_replicate_default_eq _ 16 a

theorem State.endReset_witnessAxis (s : State) (a : Nat) : s.endReset.witnessAxis a = State.resetWitnessAxis :=
  List.getElem?_getD_replicate_default_eq _ 16 a

theorem State.endReset_entry (s : State) (n : Nat) : s.endReset.entry n = none := by
  show (if n = 0 then none else ((List.replicate 32 none)[n - 1]?).join) = none
  split
  · rfl
  · rw [List.getElem?_replicate]
    split <;> rfl

/-- Settles O4: the row ends the reset after the counts left of its span, with `State.endReset`'s values. -/
theorem resetEndLeavesResetValues : Obligations.ResetEndLeavesResetValues := by
  intro s hreset hpin
  have hrow : exec .resetEnd s = .next (s.count s.resetControl.spanLeft).endReset :=
    congrArg Host.Outcome.next (if_pos ⟨hreset, by simp [hpin]⟩)
  have hcount : s.count s.resetControl.spanLeft = { s with
      resetControl := { s.resetControl with spanLeft := s.resetControl.spanLeft - s.resetControl.spanLeft } } :=
    if_pos hreset
  refine ⟨_, hrow, ?_⟩
  have haxis := (s.count s.resetControl.spanLeft).endReset_axis
  have hwitness := (s.count s.resetControl.spanLeft).endReset_witnessAxis
  have hentry := (s.count s.resetControl.spanLeft).endReset_entry
  rw [hcount] at haxis hwitness hentry ⊢
  simp only [haxis, hwitness, hentry]
  simp [State.endReset, State.reset, State.resetTimebase, State.resetDirectory, State.resetPass, State.resetCamera,
    State.resetRecording, State.emptyLineQueue, State.resetMemory, State.resetWitness, State.resetAxis,
    State.resetWitnessAxis, State.resetFlags, ResetControl.cause]

end Sys2Proof.Machine
end

section
/-! Proofs that management commands and their request frames agree (R189, R191, R202). -/

namespace Sys2Proof.Machine

/-- A code that names no command is read as UNKNOWN_OR_LENGTH. -/
theorem commandOf_of_unlisted (code : Byte) (args : List Byte) (h : argCount code = none) :
    commandOf ⟨code, args⟩ = .unknownOrLength code args := by
  obtain ⟨⟨n, hn⟩⟩ := code
  change n < 256 at hn
  interval_cases n <;> first | rfl | cases h

/-- A code byte is the literal its value is. -/
theorem byte_of_toNat {code : Byte} {n : Nat} (h : code.toNat = n) : code = BitVec.ofNat 8 n := by
  subst h
  simp

/-- A code that names a command, with another number of argument bytes, is read as UNKNOWN_OR_LENGTH. -/
theorem commandOf_of_length_ne {code : Byte} {args : List Byte} {n : Nat} (h : argCount code = some n)
    (hlen : args.length ≠ n) : commandOf ⟨code, args⟩ = .unknownOrLength code args := by
  unfold argCount at h
  split at h
  case h_40 => cases h
  all_goals
    cases h
    obtain rfl := byte_of_toNat (by assumption)
    repeat' first | rfl | exact absurd rfl hlen | rcases args with _ | ⟨_, args⟩

/-- The first byte of a field stands above the others. -/
theorem extract_append_first {m : Nat} (a : Byte) (v : BitVec m) : (a ++ v).extractLsb' m 8 = a := by
  apply BitVec.eq_of_getLsbD_eq
  intro i hi
  simp [BitVec.getLsbD_append, hi]

/-- The other bytes of a field stand where they do without the first. -/
theorem extract_append_rest {m : Nat} (a : Byte) (v : BitVec m) {k : Nat} (hk : k + 8 ≤ m) :
    (a ++ v).extractLsb' k 8 = v.extractLsb' k 8 := by
  apply BitVec.eq_of_getLsbD_eq
  intro i hi
  simp [BitVec.getLsbD_append, hi, show k + i < m by omega]

theorem bytes2_field2 (a b : Byte) : bytes2 (field2 a b) = [a, b] := by
  rw [bytes2, field2, extract_append_first, extract_append_rest a b (by omega), BitVec.extractLsb'_eq_self]

theorem bytes3_field3 (a b c : Byte) : bytes3 (field3 a b c) = [a, b, c] := by
  rw [bytes3, field3, extract_append_first, extract_append_rest a _ (by omega), extract_append_rest a _ (by omega)]
  exact congrArg (a :: ·) (bytes2_field2 b c)

theorem bytes4_field4 (a b c d : Byte) : bytes4 (field4 a b c d) = [a, b, c, d] := by
  rw [bytes4, field4, extract_append_first, extract_append_rest a _ (by omega), extract_append_rest a _ (by omega),
    extract_append_rest a _ (by omega)]
  exact congrArg (a :: ·) (bytes3_field3 b c d)

/-- A code that names a command, with its number of argument bytes, is read as a command of the list, whose frame it
is. -/
theorem frameOf_commandOf_of_passes {code : Byte} {args : List Byte} {n : Nat} (h : argCount code = some n)
    (hlen : args.length = n) :
    frameOf (commandOf ⟨code, args⟩) = some ⟨code, args⟩ ∧ (commandOf ⟨code, args⟩).wellFormed = true := by
  unfold argCount at h
  split at h
  case h_40 => cases h
  all_goals
    cases h
    obtain rfl := byte_of_toNat (by assumption)
    repeat' first | cases hlen; done | rcases args with _ | ⟨_, args⟩
  all_goals
    refine ⟨?_, rfl⟩
    conv_lhs => whnf
    exact congrArg (fun bytes => some (Frame.mk _ bytes))
      (by simp only [bytes2_field2, bytes3_field3, bytes4_field4, List.cons_append, List.nil_append])

/-- What a frame is read as: a command of the list when it passes the checks of R191, itself otherwise. -/
theorem commandOf_cases (fr : Frame) :
    fr.passes = true ∧ frameOf (commandOf fr) = some fr ∧ (commandOf fr).wellFormed = true
      ∨ fr.passes = false ∧ commandOf fr = .unknownOrLength fr.code fr.args := by
  obtain ⟨code, args⟩ := fr
  cases h : argCount code with
  | none => exact .inr ⟨by simp [Frame.passes, h], commandOf_of_unlisted code args h⟩
  | some n =>
    by_cases hlen : args.length = n
    · exact .inl ⟨by simp [Frame.passes, h, hlen], frameOf_commandOf_of_passes h hlen⟩
    · exact .inr ⟨by simp [Frame.passes, h, Ne.symm hlen], commandOf_of_length_ne h hlen⟩

/-- A well-formed command is the command its frame is read as. -/
theorem commandOf_frameOf {c : Instr} {fr : Frame} (hc : c.wellFormed = true) (h : frameOf c = some fr) :
    commandOf fr = c := by
  cases c
  case unknownOrLength code args =>
    cases h
    simp only [Instr.wellFormed, Bool.and_eq_true, decide_eq_true_eq, Bool.not_eq_true'] at hc
    obtain ⟨hpass, -, -⟩ | ⟨-, h⟩ := commandOf_cases ⟨code, args⟩
    · rw [hc.2] at hpass
      cases hpass
    · exact h
  all_goals cases h
  all_goals conv_lhs => whnf
  all_goals simp only [field2_bytes2, field3_bytes3, field4_bytes4]

/-- The length byte of a frame holds the argument count of every code. -/
theorem argCount_le {code : Byte} {n : Nat} (h : argCount code = some n) : n ≤ 255 := by
  unfold argCount at h
  split at h <;> first | (cases h; decide) | cases h

/-- The arguments of a well-formed command's frame fit the length byte. -/
theorem args_length_le {c : Instr} {fr : Frame} (hc : c.wellFormed = true) (h : frameOf c = some fr) :
    fr.args.length ≤ 255 := by
  have hread := commandOf_frameOf hc h
  obtain ⟨hpass, -, -⟩ | ⟨-, hbad⟩ := commandOf_cases fr
  · exact argCount_le (by simpa [Frame.passes] using hpass)
  · rw [← hread, hbad] at hc
    simp only [Instr.wellFormed, Bool.and_eq_true, decide_eq_true_eq] at hc
    exact hc.1

/-- Settles O6: both directions go through what a frame is read as, by its code and its argument count. -/
theorem commandsAndFramesAgree : Obligations.CommandsAndFramesAgree := by
  refine ⟨fun c fr hc h => ⟨commandOf_frameOf hc h, args_length_le hc h⟩, fun fr => ?_⟩
  obtain ⟨-, hframe, hwell⟩ | ⟨hbad, hread⟩ := commandOf_cases fr
  · exact ⟨hframe, fun _ => hwell⟩
  · rw [hread]
    exact ⟨rfl, fun hlen => by simp [Instr.wellFormed, hlen, hbad]⟩

end Sys2Proof.Machine
end

section
/-! Proofs about when a management command is taken (R188 to R191), what its reads answer, and the event flags with the
alert line (R195, R196, R199). -/

namespace Sys2Proof.Machine

/-! ## The phases of a frame (R188 to R190, R200) -/

/-- The boundaries of the instant leave what has been received of a request. -/
theorem State.agrees_takeBoundaries (s : State) (fr : Frame) :
    s.takeBoundaries.port.agrees fr = s.port.agrees fr := by
  simp [Port.agrees]

/-- A frame that agrees with what has been received is taken after the boundaries of the instant. -/
theorem State.takeCommand_takeBoundaries (s : State) (fr : Frame) (body : State → Answer)
    (h : s.port.agrees fr = true) : s.takeCommand fr body = s.takeBoundaries.takeCommand fr body := by
  rw [s.takeCommand_agrees fr body h, s.takeBoundaries.takeCommand_agrees fr body (by rw [s.agrees_takeBoundaries, h]),
    State.takeBoundaries_takeBoundaries]

/-- With no boundary on its way, a frame that agrees is taken as in phase CODE. -/
theorem State.takeCommand_asInCode (s : State) (fr : Frame) (body : State → Answer)
    (h : s.port.agrees fr = true) (hdue : s.due.any Delivery.isBoundary = false) :
    s.takeCommand fr body = ({ s with port := { s.port with phase := .code } } : State).takeCommand fr body := by
  rw [s.takeCommand_agrees fr body h, s.takeBoundaries_of_none hdue]
  exact (State.takeCommand_code { s with port := { s.port with phase := .code } } fr body ⟨rfl, hdue⟩).symm

/-- A row that agrees with what has been received is taken as in phase CODE, after the boundaries of the instant. -/
theorem exec_of_agrees {c : Instr} {fr : Frame} (hc : c.wellFormed = true) (hfr : frameOf c = some fr) {s : State}
    (h : s.port.agrees fr = true) :
    exec c s = exec c s.takeBoundaries
      ∧ (s.due.any Delivery.isBoundary = false → exec c s = exec c { s with port := { s.port with phase := .code } }) := by
  simp only [exec_of_wellFormed hc hfr, Host.Outcome.next.injEq]
  exact ⟨s.takeCommand_takeBoundaries fr _ h, s.takeCommand_asInCode fr _ h⟩

/-- A row that is not the request being received does nothing outside RESPONSE. -/
theorem exec_of_disagrees {c : Instr} {fr : Frame} (hc : c.wellFormed = true) (hfr : frameOf c = some fr) {s : State}
    (h : s.port.agrees fr = false) (hphase : s.port.phase ≠ .response) : exec c s = .next s := by
  rw [exec_of_wellFormed hc hfr, s.takeCommand_other fr _ h hphase]

/-- The bytes of a response are its status, its length and its result. -/
theorem State.shiftOut_eq (s : State) (n : Nat) :
    s.shiftOut n = { s with port := { s.port with
      response := s.port.response.map fun r => { r with shifted := min (2 + r.result.length) (r.shifted + n) } } } := by
  have hbytes (r : Response) : stopAt r.bytes.length (r.shifted + n) = min (2 + r.result.length) (r.shifted + n) := by
    simp only [stopAt, Response.bytes, List.length_cons]
    omega
  simp only [State.shiftOut, hbytes]

/-- Settles O8: whether the row agrees with what has been received, phase by phase. -/
theorem commandTakenAtItsLastByte : Obligations.CommandTakenAtItsLastByte := by
  unfold Obligations.CommandTakenAtItsLastByte
  refine ⟨fun c fr s hc hfr => ?_, fun s gap b rest hnext => ?_⟩
  · intro p asInCode
    have taken (h : p.agrees fr = true) : asInCode := exec_of_agrees hc hfr h
    have other (h : p.agrees fr = false) (hphase : p.phase ≠ .response) : exec c s = .next s :=
      exec_of_disagrees hc hfr h hphase
    refine ⟨fun hphase => ?_, fun hphase => ?_, fun hphase => taken (by simp [Port.agrees, hphase]), fun hphase => ?_,
      fun hphase => ?_⟩
    · rw [exec_of_wellFormed hc hfr, s.takeCommand_response fr _ hphase, s.shiftOut_eq]
    · obtain hphase | hphase := hphase <;> exact other (by simp [Port.agrees, hphase]) (by simp [hphase])
    · exact ⟨fun h => taken (by simp [Port.agrees, hphase, h]),
        fun h => other (by simp [Port.agrees, hphase, h]) (by simp [hphase])⟩
    · intro begins
      have hagrees : p.agrees fr = true ↔ begins := by simp [Port.agrees, hphase, begins, and_assoc]
      exact ⟨fun h => taken (hagrees.mpr h),
        fun h => other (Bool.eq_false_iff.mpr (mt hagrees.mp h)) (by simp [hphase])⟩
  · intro p
    have hbyte : s.nextByte = { s with port := p.clockByte b } := by simp [State.nextByte, hnext, p]
    refine ⟨fun hphase => ?_, fun hphase hb => ?_, fun n hphase hn hlast => ?_⟩
    · simp [hbyte, Port.clockByte, hphase]
    · simpa [hbyte, Port.clockByte, hphase] using fun h => absurd h hb
    · simp [hbyte, Port.clockByte, hphase, hn, hlast]

/-! ## Reads and rejected frames (R191) -/

/-- A body that reads answers with the reading and changes nothing. -/
theorem State.takeCommand_read {s : State} (fr : Frame) {read : State → List Byte} (hs : s.takesCommand)
    (hread : read (s.receive fr) = read s) : s.takeCommand fr (readBody read) = s.answered fr .ok (read s) :=
  State.takeCommand_eq_answered hs (by rw [readBody, hread])

/-- A read of an axis answers RANGE for an axis number above 15. -/
theorem State.takeCommand_readOfAxis {s : State} (fr : Frame) {read : State → Nat → List Byte} (hs : s.takesCommand)
    (n : Byte) (hread : read (s.receive fr) n.toNat = read s n.toNat) :
    s.takeCommand fr (·.readOfAxis n read) =
      if n.toNat ≤ 15 then s.answered fr .ok (read s n.toNat) else s.answered fr .range [] := by
  split
  next h =>
    exact State.takeCommand_eq_answered hs (by rw [State.readOfAxis, if_pos (by omega), readBody, hread])
  next h =>
    exact State.takeCommand_eq_answered hs (by rw [State.readOfAxis, if_neg (by omega)]; rfl)

/-- A read of a take answers NO_TAKE for a number outside 1 to 32. -/
theorem State.takeCommand_readTake {s : State} (hs : s.takesCommand) (n : Byte) :
    s.takeCommand ⟨0x27, [n]⟩ (·.readTake n) =
      if 1 ≤ n.toNat ∧ n.toNat ≤ 32 then s.answered ⟨0x27, [n]⟩ .ok (readTakeResult s n.toNat)
      else s.answered ⟨0x27, [n]⟩ .noTake [] := by
  have hrange : takeInRange n.toNat = true ↔ 1 ≤ n.toNat ∧ n.toNat ≤ 32 := by simp [takeInRange]
  split
  next h => exact State.takeCommand_eq_answered hs (by rw [State.readTake, if_pos (hrange.mpr h)]; rfl)
  next h => exact State.takeCommand_eq_answered hs (by rw [State.readTake, if_neg (mt hrange.mp h)]; rfl)

/-- Settles O11. -/
theorem readsAndRejectedFrames : Obligations.ReadsAndRejectedFrames := by
  refine ⟨fun s n hs => ?_, fun s code args hs hlen => ?_⟩
  · have read (fr : Frame) {reading : State → List Byte} (h : reading (s.receive fr) = reading s) :
        (.next (s.takeCommand fr (readBody reading)) : Result) = .next (s.answered fr .ok (reading s)) :=
      congrArg _ (State.takeCommand_read fr hs h)
    exact ⟨read _ rfl, read _ rfl, read _ rfl, read _ rfl, read _ rfl, read _ rfl, read _ rfl, read _ rfl,
      fun i => read _ rfl, read _ rfl, read _ rfl, congrArg _ (State.takeCommand_readTake hs n),
      congrArg _ (State.takeCommand_readOfAxis _ hs n rfl), congrArg _ (State.takeCommand_readOfAxis _ hs n rfl),
      congrArg _ (State.takeCommand_readOfAxis _ hs n rfl)⟩
  · have rejected (hbad : (Frame.mk code args).passes = false) :
        exec (.unknownOrLength code args) s = .next (s.answered ⟨code, args⟩ (Frame.mk code args).refusal []) := by
      rw [exec_of_wellFormed (fr := ⟨code, args⟩) (by simp [Instr.wellFormed, hlen, hbad]) rfl]
      exact congrArg _ (State.takeCommand_eq_answered hs rfl)
    refine ⟨fun h => ?_, fun n h hn => ?_⟩
    · rw [rejected (by simp [Frame.passes, h])]
      simp [Frame.refusal, h]
    · rw [rejected (by simp [Frame.passes, h, hn])]
      simp [Frame.refusal, h]

/-! ## Event flags and the alert line (R195, R196, R199) -/

theorem State.alert_iff (s : State) :
    s.alert = true ↔ s.resetControl.inForce = false
      ∧ ∃ ev : Event, s.flag ev = true ∧ s.port.mask.getLsbD ev.bit = true := by
  have hevents : ∀ i < 16, ∃ ev : Event, ev.bit = i := fun i hi =>
    ⟨[.lock, .camera, .pass, .slip, .starve, .tag, .clamp, .saturate, .protect, .partialWrite, .diverge, .devlog,
      .devlost, .verify, .reset, .overrun].getD i .lock, by interval_cases i <;> rfl⟩
  have hword : s.port.flags &&& s.port.mask ≠ 0 ↔
      ∃ ev : Event, s.flag ev = true ∧ s.port.mask.getLsbD ev.bit = true := by
    constructor
    · intro h
      obtain ⟨i, hi⟩ : ∃ i, (s.port.flags &&& s.port.mask).getLsbD i = true := by
        by_contra hnone
        refine h (BitVec.eq_of_getLsbD_eq fun i _ => ?_)
        exact (Bool.eq_false_iff.mpr fun h => hnone ⟨i, h⟩).trans (by simp)
      obtain ⟨ev, rfl⟩ := hevents i (BitVec.lt_of_getLsbD hi)
      exact ⟨ev, by simpa [State.flag] using hi⟩
    · rintro ⟨ev, hev⟩ h
      have hbit : (s.port.flags &&& s.port.mask).getLsbD ev.bit = true := by simpa [State.flag] using hev
      rw [h] at hbit
      simp at hbit
  rw [State.alert, Bool.and_eq_true, Bool.not_eq_true', bne_iff_ne, hword]

theorem State.flag_clearEvents (s : State) (v : BitVec 16) (ev : Event) (hev : ev ≠ .devlog) :
    (s.clearEvents v).flag ev = (s.flag ev && !v.getLsbD ev.bit) := by
  rw [State.clearEvents, State.flag_followLog, if_neg hev]
  simp [State.flag, ev.bit_lt]

theorem State.clearEvents_receive (s : State) (v : BitVec 16) (fr : Frame) :
    (s.receive fr).clearEvents v = (s.clearEvents v).receive fr :=
  State.followLog_receive (({ s with
    port := { s.port with flags := s.port.flags &&& ~~~ v, powerSeen := s.port.powerSeen && !v.getLsbD 14 }
    memory := { s.memory with blockedAddress := if v.getLsbD 8 then none else s.memory.blockedAddress } } : State)) fr

/-- Settles O10: the flag word is tested event by event, each bit of it being one event's. -/
theorem eventAndResetCommands : Obligations.EventAndResetCommands := by
  refine ⟨State.alert_iff, fun s v hs => ⟨⟨_, congrArg Host.Outcome.next (State.takeCommand_eq_answered hs
    (by rw [s.clearEvents_receive v])), fun ev hev => s.flag_clearEvents v ev hev,
    (State.flag_followLog _ .devlog).trans (if_pos rfl), ?_, ?_, ?_, ?_, rfl, ?_⟩,
    congrArg Host.Outcome.next (State.takeCommand_eq_answered hs rfl),
    congrArg Host.Outcome.next (State.takeCommand_eq_answered hs rfl)⟩⟩
  · simp [State.answered, State.clearEvents, Event.bit]
  · simp [State.answered, State.clearEvents, Event.bit]
  · simp [State.answered, State.clearEvents]
  · simp [State.answered, State.clearEvents]
  · rw [State.answered, State.clearEvents, State.followLog_eq]

/-! ## Refused commands (R192) -/

theorem Status.byte_injective : Function.Injective Status.byte := by
  intro a b h
  cases a <;> cases b <;> first | rfl | cases h

theorem okOr_accepted (adjusted : Bool) : (okOr adjusted).accepted = true := by cases adjusted <;> rfl

/-- The answer changes nothing where its status refuses. -/
def Answer.KeepsOnRefusal (a : Answer) (s : State) : Prop := a.status.accepted = false → a.state = s

theorem keepsOnRefusal_refuse (s : State) (st : Status) : (refuse s st).KeepsOnRefusal s := fun _ => rfl

theorem keepsOnRefusal_of_accepted {s : State} {a : Answer} (h : a.status.accepted = true) : a.KeepsOnRefusal s :=
  fun hrefused => absurd h (by simp [hrefused])

theorem keepsOnRefusal_accept (s t : State) : (accept t).KeepsOnRefusal s := keepsOnRefusal_of_accepted rfl

theorem State.readOfAxis_keepsOnRefusal (s : State) (axis : Byte) (read : State → Nat → List Byte) :
    (s.readOfAxis axis read).KeepsOnRefusal s := by
  unfold State.readOfAxis
  split
  · exact keepsOnRefusal_of_accepted rfl
  · exact keepsOnRefusal_refuse s _

theorem State.protectTake_keepsOnRefusal (s : State) (t : Nat) (g : Bool) : (s.protectTake t g).KeepsOnRefusal s := by
  unfold State.protectTake
  dsimp only
  split
  · exact keepsOnRefusal_refuse s _
  · exact keepsOnRefusal_of_accepted rfl

theorem State.readArm_keepsOnRefusal (s : State) (mode : PassMode) (t startFrame pace : Nat)
    (interp trigger requireLock : Byte) (preroll resumePreroll : Nat) (policy : Byte) :
    (s.readArm mode t startFrame pace interp trigger requireLock preroll resumePreroll policy).KeepsOnRefusal s := by
  unfold State.readArm
  dsimp only
  (repeat' split) <;> first | exact keepsOnRefusal_refuse s _ | exact keepsOnRefusal_of_accepted (okOr_accepted _)

/-- Every body that refuses leaves the state as it found it. -/
theorem commandBody_keepsOnRefusal (c : Instr) (s : State) : (commandBody c s).KeepsOnRefusal s := by
  cases c
  all_goals dsimp only [commandBody]
  case setTimebase =>
    unfold State.setTimebase
    split
    · exact keepsOnRefusal_refuse s _
    · exact keepsOnRefusal_of_accepted (okOr_accepted _)
  case setRegion =>
    unfold State.setRegion
    dsimp only
    split
    · exact fun _ => rfl
    · split
      · exact fun _ => rfl
      · exact keepsOnRefusal_of_accepted (okOr_accepted _)
  case declare =>
    unfold State.declareTake
    (repeat' split) <;> first | exact keepsOnRefusal_refuse s _ | exact keepsOnRefusal_accept s _
  case delete =>
    unfold State.deleteTake
    (repeat' split) <;> first | exact keepsOnRefusal_refuse s _ | exact keepsOnRefusal_accept s _
  case protect => exact s.protectTake_keepsOnRefusal _ _
  case unprotect => exact s.protectTake_keepsOnRefusal _ _
  case aliasTake =>
    unfold State.makeAlias
    (repeat' split) <;> first | exact keepsOnRefusal_refuse s _ | exact keepsOnRefusal_of_accepted rfl
  case readTake =>
    unfold State.readTake
    split
    · exact keepsOnRefusal_of_accepted rfl
    · exact keepsOnRefusal_refuse s _
  case recordArm =>
    unfold State.recordArm
    dsimp only
    (repeat' split) <;> first | exact keepsOnRefusal_refuse s _ | exact keepsOnRefusal_of_accepted (okOr_accepted _)
  case replayArm => exact s.readArm_keepsOnRefusal _ _ _ _ _ _ _ _ _ _
  case witnessArm => exact s.readArm_keepsOnRefusal _ _ _ _ _ _ _ _ _ _
  case resume => (repeat' split) <;> first | exact keepsOnRefusal_accept s _ | exact keepsOnRefusal_refuse s _
  case setCamera =>
    unfold State.setCamera
    split
    · exact keepsOnRefusal_refuse s _
    · exact keepsOnRefusal_of_accepted rfl
  case setAxis =>
    unfold State.setAxis
    dsimp only
    (repeat' split) <;> first | exact keepsOnRefusal_refuse s _ | exact keepsOnRefusal_of_accepted (okOr_accepted _)
  case getAxis => exact s.readOfAxis_keepsOnRefusal _ _
  case readAxis => exact s.readOfAxis_keepsOnRefusal _ _
  case readWitness => exact s.readOfAxis_keepsOnRefusal _ _
  case inject =>
    unfold State.setInject
    dsimp only
    split
    · exact keepsOnRefusal_refuse s _
    · split
      · exact keepsOnRefusal_of_accepted (okOr_accepted _)
      · split
        · exact keepsOnRefusal_of_accepted rfl
        · exact keepsOnRefusal_refuse s _
  case readDeviation =>
    unfold State.readDeviation
    split
    · exact keepsOnRefusal_accept s s
    · exact keepsOnRefusal_of_accepted rfl
  case unknownOrLength => exact keepsOnRefusal_refuse s _
  case stop => split <;> first | exact keepsOnRefusal_accept s _ | exact keepsOnRefusal_refuse s _
  case park => split <;> first | exact keepsOnRefusal_accept s _ | exact keepsOnRefusal_refuse s _
  case abort => split <;> first | exact keepsOnRefusal_accept s _ | exact keepsOnRefusal_refuse s _
  case clear => split <;> first | exact keepsOnRefusal_accept s _ | exact keepsOnRefusal_refuse s _
  all_goals exact keepsOnRefusal_of_accepted rfl

/-- Settles O7: the response names the status of the body, and a refusing body keeps the state. -/
theorem refusedCommandChangesNothing : Obligations.RefusedCommandChangesNothing := by
  intro c fr s t st result hfr hs hexec hresponse hrefused
  obtain rfl := eq_takeCommand_of_exec hfr hexec
  rw [s.takeCommand_code fr _ hs] at hresponse ⊢
  have hbody := commandBody_keepsOnRefusal c (s.receive fr)
  generalize commandBody c (s.receive fr) = a at hresponse hbody ⊢
  obtain ⟨u, ast, aresult⟩ := a
  simp only [State.respond, Option.some.injEq, Response.mk.injEq, and_true] at hresponse
  obtain ⟨hst, rfl⟩ := hresponse
  obtain rfl := Status.byte_injective hst
  obtain rfl := hbody hrefused
  exact s.respond_receive fr ast aresult

end Sys2Proof.Machine
end

section
/-! Proofs that a result has the same length in every state (R202 to R205). -/

namespace Sys2Proof.Machine

/-! ## Parts of a result -/

@[simp] theorem bytes2_length (v : BitVec 16) : (bytes2 v).length = 2 := rfl

@[simp] theorem wordBytes_length (w : Word) : (wordBytes w).length = 4 := rfl

@[simp] theorem flagBytes_length (v : BitVec 16) : (flagBytes v).length = 2 := rfl

@[simp] theorem wordFields_length (w : Byte) : (wordFields w).length = 3 := rfl

@[simp] theorem optBytes_beBytes_length (n : Nat) (o : Option Nat) : (optBytes n (beBytes n) o).length = n + 1 :=
  optBytes_length n _ o (beBytes_length n)

@[simp] theorem optBytes_signedBytes_length (n : Nat) (o : Option Int) : (optBytes n (signedBytes n) o).length = n + 1 :=
  optBytes_length n _ o (signedBytes_length n)

@[simp] theorem optBytes_wordBytes_length (o : Option Word) : (optBytes 4 wordBytes o).length = 5 :=
  optBytes_length 4 _ o wordBytes_length

@[simp] theorem slotBytes_length (o : Option Byte) : (slotBytes o).length = 2 := optBytes_length 1 _ o fun _ => rfl

@[simp] theorem injectBytes_length (o : Option Int) : (injectBytes o).length = 5 := optBytes_signedBytes_length 4 o

/-- Items of one width, one after another. -/
theorem flatMap_length_of_width {α : Type} {width : Nat} {f : α → List Byte} (hf : ∀ x, (f x).length = width)
    (xs : List α) : (xs.flatMap f).length = xs.length * width := by
  induction xs with
  | nil => simp
  | cons x xs ih => rw [List.flatMap_cons, List.length_append, hf, ih, List.length_cons, Nat.succ_mul, Nat.add_comm]

/-- A list that fits its places has the length of its places. -/
theorem listBytes_length {α : Type} (places : Nat) {width : Nat} {f : α → List Byte} (hf : ∀ x, (f x).length = width)
    {xs : List α} (h : xs.length ≤ places) : (listBytes places width f xs).length = places * width + 1 := by
  rw [listBytes, List.cons_append, List.length_cons, List.length_append, flatMap_length_of_width hf, List.length_replicate, ← Nat.add_mul,
    Nat.add_sub_cancel' h]

/-! ## Records within a result -/

@[simp] theorem TimebaseSettings.bytes_length (t : TimebaseSettings) : t.bytes.length = 6 := by
  simp [TimebaseSettings.bytes]

@[simp] theorem BoundaryRecord.bytes_length (r : BoundaryRecord) : r.bytes.length = 10 := by
  simp [BoundaryRecord.bytes]

@[simp] theorem RecordInfo.bytes_length (i : RecordInfo) : i.bytes.length = 11 := by simp [RecordInfo.bytes]

@[simp] theorem PassContext.bytes_length (c : PassContext) : c.bytes.length = 23 := by simp [PassContext.bytes]

@[simp] theorem Summary.bytes_length (m : Summary) : m.bytes.length = 40 := by simp [Summary.bytes]

@[simp] theorem WriterPosition.bytes_length (w : WriterPosition) : w.bytes.length = 2 := rfl

@[simp] theorem Assembly.bytes_length (a : Assembly) : a.bytes.length = 5 := by simp [Assembly.bytes]

@[simp] theorem ReadAt.bytes_length (r : ReadAt) : r.bytes.length = 6 := by cases r <;> simp [ReadAt.bytes]

@[simp] theorem SlotRecord.bytes_length (sl : SlotRecord) : sl.bytes.length = 6 := by simp [SlotRecord.bytes]

theorem EvalRecord.bytes_length (e : EvalRecord) (h : e.slots.length = 4) : e.bytes.length = 44 := by
  simp only [EvalRecord.bytes, List.length_append, flatMap_length_of_width SlotRecord.bytes_length, h]
  simp

@[simp] theorem UpstreamTxn.bytes_length (t : UpstreamTxn) : t.bytes.length = 14 := by simp [UpstreamTxn.bytes]

@[simp] theorem DownstreamTxn.bytes_length (d : DownstreamTxn) : d.bytes.length = 5 := by simp [DownstreamTxn.bytes]

@[simp] theorem Processing.bytes_length (p : Processing) : p.bytes.length = 17 := by simp [Processing.bytes]

@[simp] theorem AxisEntry.bytes_length (e : AxisEntry) : e.bytes.length = 25 := by simp [AxisEntry.bytes]

@[simp] theorem FrameStart.bytes_length (f : FrameStart) : f.bytes.length = 6 := by simp [FrameStart.bytes]

@[simp] theorem DeviationEntry.bytes_length (e : DeviationEntry) : e.bytes.length = 8 := by simp [DeviationEntry.bytes]

theorem DeviationRecord.bytes_length (r : DeviationRecord) : r.bytes.length = 7 + 8 * r.entries.length := by
  simp only [DeviationRecord.bytes, List.length_append, beBytes_length,
    flatMap_length_of_width DeviationEntry.bytes_length]
  omega

/-! ## Results -/

theorem readTakeResult_length (s : State) (t : Nat) : (readTakeResult s t).length = if s.entry t = none then 1 else 44 := by
  unfold readTakeResult
  split
  next h => simp [h]
  next e h => simp [h, takeBytes, optBytes_length 11 _ e.recordInfo RecordInfo.bytes_length]

theorem readPassResult_length (s : State) : (readPassResult s).length = 75 := by
  simp [readPassResult, optBytes_length 23 _ s.pass.context PassContext.bytes_length,
    optBytes_length 40 _ s.pass.summary Summary.bytes_length]

theorem readDeviation_result_length (s : State) {r : DeviationRecord} {rest : List DeviationRecord}
    (hlog : s.witness.log = r :: rest) : s.readDeviation.result.length = 8 + 8 * r.entries.length := by
  have hresult : s.readDeviation.result = r.bytes ++ beBytes 1 rest.length := by simp [State.readDeviation, hlog]
  rw [hresult, List.length_append, r.bytes_length, beBytes_length]
  omega

theorem readTimebaseResult_length (s : State) (h : s.timebase.history.length ≤ 8) :
    (readTimebaseResult s).length = 61 := by
  simp [readTimebaseResult, optBytes_length 6 _ s.timebase.pending TimebaseSettings.bytes_length,
    optBytes_length 10 _ s.timebase.record BoundaryRecord.bytes_length,
    listBytes_length 8 (f := fun m => [markByte m]) (fun _ => rfl) h]

theorem readCameraResult_length (s : State) (h : s.camera.ring.length ≤ 10) : (readCameraResult s).length = 31 := by
  simp [readCameraResult, listBytes_length 10 slotBytes_length h]

theorem readWitnessResult_length (s : State) (a : Nat) (h : (s.witnessAxis a).history.length ≤ 16) :
    (readWitnessResult s a).length = 42 := by
  simp [readWitnessResult, listBytes_length 16 (f := fun m => [markByte m]) (fun _ => rfl) h,
    optBytes_length 6 _ s.witness.frameStart FrameStart.bytes_length]

theorem readEvaluationResult_length (s : State) (h : ∀ e ∈ s.interpolator.lastEval, e.slots.length = 4) :
    (readEvaluationResult s).length = 45 := by
  unfold readEvaluationResult optBytes
  split
  next e he => simp [e.bytes_length (h e he)]
  · simp

theorem readLineQueueResult_length (s : State) : (readLineQueueResult s).length = 38 := by
  simp [readLineQueueResult, optBytes_length 5 _ s.lineQueue.assembly Assembly.bytes_length]

theorem readRecordResult_length (s : State) : (readRecordResult s).length = 17 := by
  simp [readRecordResult, optBytes_length 2 _ s.recording.writer WriterPosition.bytes_length]

theorem readPathResult_length (s : State) : (readPathResult s).length = 32 := by
  simp [readPathResult, optBytes_length 14 _ s.memory.upstream UpstreamTxn.bytes_length,
    optBytes_length 5 _ s.memory.downstream DownstreamTxn.bytes_length]

theorem getAxisResult_length (s : State) (a : Nat) : (getAxisResult s a).length = 43 := by
  simp [getAxisResult, optBytes_length 17 _ (s.axis a).pending Processing.bytes_length]

theorem CameraRule.capacity_le (r : CameraRule) : r.capacity ≤ 10 := by cases r <;> decide

/-- A witness axis outside the sixteen has no history. -/
theorem State.Inv.history_length_le {s : State} (h : s.Inv) (a : Nat) : (s.witnessAxis a).history.length ≤ 16 := by
  obtain ⟨-, -, -, hbounded⟩ := h.witness
  rw [State.witnessAxis, List.getD_eq_getElem?_getD]
  cases hget : s.witness.axes[a]? with
  | none => exact Nat.zero_le _
  | some w =>
    obtain ⟨hhistory, -⟩ := hbounded w (List.mem_of_getElem? hget)
    exact hhistory

/-- Settles O12. -/
theorem resultLengths : Obligations.ResultLengths :=
  ⟨readTakeResult_length, readPassResult_length, fun s _ _ => readDeviation_result_length s, fun s a h =>
    ⟨by simp [readStatusResult], by simp [readEventsResult],
      readTimebaseResult_length s (by obtain ⟨-, hhistory, -⟩ := h.timebase; exact hhistory),
      by simp [readRegionResult, State.regionBytes],
      readCameraResult_length s (h.camera.1.trans s.camera.rule.capacity_le), readRecordResult_length s,
      readLineQueueResult_length s, readEvaluationResult_length s h.interpolator.2, readPathResult_length s,
      getAxisResult_length s a, by simp [readAxisResult], readWitnessResult_length s a (h.history_length_le a)⟩⟩

end Sys2Proof.Machine
end

section
/-! Proofs about a step: the front command, or the part's own time (R1, R6, R9, R11, R12, R17, R198, R206). -/

namespace Sys2Proof.Machine

/-! ## The next event of the part's own -/

theorem sooner_of_due {a : Nat × OwnEvent} (h : a.1 = 0) (b : Option (Nat × OwnEvent)) : sooner a b = a := by
  cases b with
  | none => rfl
  | some b => exact if_neg (by omega)

theorem sooner_of_later_due {a : Nat × OwnEvent} (h : 0 < a.1) (ev : OwnEvent) : sooner a (some (0, ev)) = (0, ev) :=
  if_pos h

theorem sooner_pos {a : Nat × OwnEvent} (h : 0 < a.1) {b : Option (Nat × OwnEvent)} (hb : ∀ e ∈ b, 0 < e.1) :
    0 < (sooner a b).1 := by
  rcases sooner_cases a b with hab | hab
  · rwa [hab]
  · exact hb _ hab

/-- A boundary that is due, with no sample point due, comes first. -/
theorem State.boundaryOrPoint_of_boundary {s : State} (hin : s.boundaryIn = 0) (hpoint : s.pointIn ≠ some 0) :
    s.boundaryOrPoint = (0, s.timebase.boundaryEvent) := by
  rcases s.boundaryOrPoint_cases with h | ⟨p, hp, -⟩
  · rw [h, hin]
  · have hlater : 0 < p := Nat.pos_of_ne_zero fun h => hpoint (h ▸ hp)
    simp only [State.boundaryOrPoint, hp, hin]
    exact if_neg (by omega)

/-- A sample point that is due comes before a later boundary. -/
theorem State.boundaryOrPoint_of_point {s : State} (hin : 0 < s.boundaryIn) (hpoint : s.pointIn = some 0) :
    s.boundaryOrPoint = (0, .samplePoint) := by
  simp only [State.boundaryOrPoint, hpoint]
  exact if_pos (.inl hin)

theorem State.boundaryOrPoint_of_both {s : State} (hin : s.boundaryIn = 0) (hpoint : s.pointIn = some 0) :
    s.boundaryOrPoint = (0, .samplePoint) ∨ s.boundaryOrPoint = (0, s.timebase.boundaryEvent) := by
  rcases s.boundaryOrPoint_cases with h | ⟨p, hp, h⟩
  · exact .inr (by rw [h, hin])
  · obtain rfl : p = 0 := Option.some.inj (hp.symm.trans hpoint)
    exact .inl h

theorem State.boundaryOrPoint_pos {s : State} (hin : 0 < s.boundaryIn) (hpoint : s.pointIn ≠ some 0) :
    0 < s.boundaryOrPoint.1 := by
  rcases s.boundaryOrPoint_cases with h | ⟨p, hp, h⟩
  · rwa [h]
  · rw [h]
    exact Nat.pos_of_ne_zero fun h0 => hpoint (h0 ▸ hp)

/-! ## The step on an empty queue -/

theorem step_of_due {s : State} (hqueue : s.pending = []) {ev : OwnEvent} (h : s.nextOwn = some (0, ev)) :
    step s = .next (s.fireOwn ev) := by
  simp [step, hqueue, State.idle, h]

theorem step_of_quiet {s : State} (hqueue : s.pending = []) {d : Nat} {ev : OwnEvent} (h : s.nextOwn = some (d, ev))
    (hd : 0 < d) : step s = .next (s.count 1) := by
  obtain ⟨d, rfl⟩ := Nat.exists_eq_succ_of_ne_zero (by omega : d ≠ 0)
  simp [step, hqueue, State.idle, h]

theorem step_of_front {s : State} {c : Instr} {rest : List Instr} (h : s.pending = c :: rest) :
    step s = exec c { s with pending := rest } := by
  simp [step, h]

section
variable {s : State} (hqueue : s.pending = []) (hreset : s.resetControl.inForce = false) (hdue : s.due = [])
include hqueue hreset hdue

/-- The event that comes first is made. -/
theorem step_of_boundaryOrPoint {ev : OwnEvent} (h : s.boundaryOrPoint = (0, ev)) : step s = .next (s.fireOwn ev) :=
  step_of_due hqueue (by rw [s.nextOwn_of_clear hreset hdue, h, sooner_of_due (a := (0, ev)) rfl, sooner_of_due (a := (0, ev)) rfl])

theorem step_of_runReset (h : 0 < s.boundaryOrPoint.1) (hrun : s.runResetIn = some 0) :
    step s = .next (s.fireOwn .runReset) :=
  step_of_due hqueue (by
    rw [s.nextOwn_of_clear hreset hdue, hrun, Option.map_some, sooner_of_later_due h, sooner_of_due rfl])

theorem step_of_requestByte (h : 0 < s.boundaryOrPoint.1) (hrun : s.runResetIn ≠ some 0) {b : Byte}
    {rest : List (Nat × Byte)} (hbyte : s.port.incoming = (0, b) :: rest) : step s = .next (s.fireOwn .requestByte) := by
  refine step_of_due hqueue ?_
  rw [s.nextOwn_of_clear hreset hdue, hbyte, List.head?_cons, Option.map_some, sooner_of_later_due]
  refine sooner_pos h fun e he => ?_
  obtain ⟨r, hr, rfl⟩ := Option.map_eq_some_iff.mp he
  exact Nat.pos_of_ne_zero fun h0 => hrun (h0 ▸ hr)

theorem step_of_nothing (h : 0 < s.boundaryOrPoint.1) (hrun : s.runResetIn ≠ some 0)
    (hbyte : ∀ b rest, s.port.incoming ≠ (0, b) :: rest) : step s = .next (s.count 1) := by
  refine step_of_quiet hqueue (s.nextOwn_of_clear hreset hdue) (sooner_pos (sooner_pos h fun e he => ?_) fun e he => ?_)
  · obtain ⟨r, hr, rfl⟩ := Option.map_eq_some_iff.mp he
    exact Nat.pos_of_ne_zero fun h0 => hrun (h0 ▸ hr)
  · obtain ⟨⟨n, b⟩, hhead, rfl⟩ := Option.map_eq_some_iff.mp he
    obtain ⟨rest, hrest⟩ := List.head?_eq_some_iff.mp hhead
    exact Nat.pos_of_ne_zero fun h0 => hbyte b rest (by rw [hrest]; exact congrArg (· :: rest) (Prod.ext h0 rfl))

end

/-! ## The events of the part's own are rows -/

/-- The state an event of the part's own is made on. -/
def State.made (s : State) : State := { s with openOrders := s.openOrders + 1 }

section
variable {s : State} (hreset : s.resetControl.inForce = false) (hdue : s.due = [])
include hreset hdue

theorem exec_boundary_made (order : BoundaryOrder) (hin : s.boundaryIn = 0) :
    exec (if s.timebase.lock = .locked then .substitutedBoundary order else .flywheelBoundary order) s.made =
      .next (if s.timebase.lock = .locked then s.made.substituteNow order else s.made.flywheelNow order) := by
  have helapse : (s.made.elapse s.made.boundaryIn).takeBoundaries = s.made := by
    rw [show s.made.boundaryIn = 0 from hin, State.elapse_zero]
    exact s.made.takeBoundaries_of_none (by rw [show s.made.due = [] from hdue]; rfl)
  split
  next hlock => rw [exec_substitutedBoundary_of_clear s.made order hreset hlock, helapse]
  next hlock => rw [exec_flywheelBoundary_of_clear s.made order hreset hlock, helapse]

theorem fireOwn_boundary (hin : s.boundaryIn = 0) :
    Host.Outcome.next (s.fireOwn s.timebase.boundaryEvent) =
      exec (if s.timebase.lock = .locked then .substitutedBoundary s.freeOrder else .flywheelBoundary s.freeOrder)
        s.made := by
  rw [exec_boundary_made hreset hdue _ hin, Timebase.boundaryEvent]
  split
  · rfl
  · rfl

theorem fireOwn_samplePoint (hpoint : s.pointIn = some 0) :
    Host.Outcome.next (s.fireOwn .samplePoint) = exec .samplePoint s.made := by
  have htaken : s.made.takeBoundaries = s.made :=
    s.made.takeBoundaries_of_none (by rw [show s.made.due = [] from hdue]; rfl)
  show _ = Host.Outcome.next (if s.made.resetControl.inForce then s.made else _)
  rw [if_neg (by simp [State.made, hreset]), htaken]
  dsimp only
  rw [show s.made.pointIn = some 0 from hpoint]
  dsimp only
  rw [if_pos (Nat.zero_le _), State.elapse_zero]
  rfl

omit hdue in
theorem fireOwn_runReset (hrun : s.runResetIn = some 0) :
    Host.Outcome.next (s.fireOwn .runReset) = exec .holdoverRunReset s.made := by
  show _ = Host.Outcome.next (if s.made.resetControl.inForce then s.made else _)
  rw [if_neg (by simp [State.made, hreset]), show s.made.runResetIn = some 0 from hrun]
  dsimp only
  rw [State.elapse_zero]
  rfl

end

/-- The holdover run reset is due W after its boundary. -/
theorem State.runResetIn_eq_zero_iff (s : State) : s.runResetIn = some 0 ↔
    s.timebase.lock = .holdover ∧ s.timebase.watching = true ∧ s.timebase.pulseNear = false
      ∧ s.window ≤ s.timebase.flywheel := by
  unfold State.runResetIn
  split
  next h =>
    obtain ⟨hlock, hwatch, hnear⟩ := h
    simp only [hlock, hwatch, Bool.eq_false_iff.mpr hnear, Option.some.injEq, true_and]
    exact Nat.sub_eq_zero_iff_le
  next h =>
    refine ⟨nofun, fun ⟨hlock, hwatch, hnear, _⟩ => ?_⟩
    exact absurd ⟨hlock, hwatch, by simp [hnear]⟩ h

/-- One reference count passes. -/
theorem State.count_one (s : State) (hreset : s.resetControl.inForce = false) : s.count 1 = { s with
    timebase := { s.timebase with
      interval := s.timebase.interval.map fun i => min 4294967295 (i + 1)
      flywheel := min 4294967295 (s.timebase.flywheel + 1), refTime := (s.timebase.refTime + 1) % 4294967296 }
    camera := { s.camera with receiver := match s.camera.receiver with
      | .receiving n => .receiving (n + 1)
      | r => r }
    port := { s.port with incoming := match s.port.incoming with
      | (n, b) :: rest => (n - 1, b) :: rest
      | [] => [] } } := by
  rw [s.count_of_clear 1 hreset]
  have hcamera : (s.count 1).camera = { s.camera with receiver := match s.camera.receiver with
      | .receiving n => .receiving (n + 1)
      | r => r } := by
    simp only [State.count, hreset]
    rfl
  rw [hcamera]
  rcases hincoming : s.port.incoming with _ | ⟨⟨n, b⟩, rest⟩ <;> rfl

/-! ## While a reset is in force -/

theorem State.nextOwn_of_reset (s : State) (hreset : s.resetControl.inForce = true)
    (hpin : s.resetControl.pinHeld = false) {d : Nat} (hd : s.resetControl.spanLeft = d) :
    s.nextOwn = some (d, .resetEnd) := by
  simp [State.nextOwn, hreset, hpin, hd]

theorem fireOwn_resetEnd {s : State} (hreset : s.resetControl.inForce = true) (hpin : s.resetControl.pinHeld = false)
    (hover : s.resetControl.spanLeft = 0) : Host.Outcome.next (s.fireOwn .resetEnd) = exec .resetEnd s.made := by
  have hcount : s.made.count s.made.resetControl.spanLeft = s.made := by
    obtain ⟨h1, h2⟩ : s.made.resetControl.inForce = true ∧ s.made.resetControl.spanLeft = 0 := ⟨hreset, hover⟩
    rw [h2, State.count, if_pos h1]
    rfl
  show _ = Host.Outcome.next (if s.made.resetControl.inForce ∧ ¬ s.made.resetControl.pinHeld then
    (s.made.count s.made.resetControl.spanLeft).endReset else s.made)
  rw [if_pos ⟨hreset, by simp [State.made, hpin]⟩, hcount]
  rfl

/-- Settles O1: what is due first decides the step on an empty queue. -/
theorem stepRunsFrontCommand : Obligations.StepRunsFrontCommand := by
  refine ⟨fun s c rest h => step_of_front h, fun s hqueue hreset hdue => ?_, fun s hqueue hreset hpin => ?_⟩
  · intro t boundary made own pointDue resetDue
    have hin : s.boundaryIn = boundary - t.flywheel := rfl
    have hrun := s.runResetIn_eq_zero_iff
    refine ⟨fun hreached hpoint => ⟨s.freeOrder, ?_⟩, fun hreached hpoint => ?_, fun hbefore hpoint => ?_,
      fun hbefore hpoint hrunDue => ?_, fun hbefore hpoint hrunDue => ?_⟩
    · rw [step_of_boundaryOrPoint hqueue hreset hdue (s.boundaryOrPoint_of_boundary (by omega) hpoint)]
      exact fireOwn_boundary hreset hdue (by omega)
    · rcases s.boundaryOrPoint_of_both (by omega) hpoint with hfirst | hfirst
      · exact .inl ((step_of_boundaryOrPoint hqueue hreset hdue hfirst).trans (fireOwn_samplePoint hreset hdue hpoint))
      · exact .inr ⟨s.freeOrder, (step_of_boundaryOrPoint hqueue hreset hdue hfirst).trans
          (fireOwn_boundary hreset hdue (by omega))⟩
    · rw [step_of_boundaryOrPoint hqueue hreset hdue (s.boundaryOrPoint_of_point (by omega) hpoint)]
      exact fireOwn_samplePoint hreset hdue hpoint
    · rw [step_of_runReset hqueue hreset hdue (s.boundaryOrPoint_pos (by omega) hpoint) (hrun.mpr hrunDue)]
      exact fireOwn_runReset hreset (hrun.mpr hrunDue)
    · have hfirst := s.boundaryOrPoint_pos (by omega) hpoint
      have hnone : s.runResetIn ≠ some 0 := mt hrun.mp hrunDue
      refine ⟨fun b rest hbyte => step_of_requestByte hqueue hreset hdue hfirst hnone hbyte, fun hbyte => ?_⟩
      rw [step_of_nothing hqueue hreset hdue hfirst hnone hbyte]
      exact congrArg Host.Outcome.next (s.count_one hreset)
  · refine ⟨fun hover => ?_, fun hleft => ?_⟩
    · rw [step_of_due hqueue (s.nextOwn_of_reset hreset hpin (by rw [hover]))]
      exact fireOwn_resetEnd hreset hpin hover
    · rw [step_of_quiet hqueue (s.nextOwn_of_reset hreset hpin rfl) hleft]
      simp [State.count, hreset]

end Sys2Proof.Machine
end

section
/-! Proofs about DECLARE, DELETE, PROTECT, UNPROTECT and ALIAS (R35, R39, R42, R43, R45). -/

namespace Sys2Proof.Machine

/-! ## A command taken in phase CODE -/

/-- The row of a command taken in phase CODE is the answer of its body. -/
theorem State.takeCommand_of_body {s : State} (hs : s.takesCommand) (fr : Frame) {body : State → Answer} {a : Answer}
    (hbody : body (s.receive fr) = a) : s.takeCommand fr body = a.state.respond a.status a.result := by
  rw [s.takeCommand_code fr body hs, hbody]

theorem takeInRange_iff (t : Nat) : takeInRange t = true ↔ 1 ≤ t ∧ t ≤ 32 := by simp [takeInRange]

/-- A listed K is read as its value (R202). -/
theorem readK_of_listed {k : Byte} (h : k.toNat ∈ [1, 2, 4, 8, 16]) : readK k = some k.toNat := by
  refine if_pos ?_
  simp only [List.mem_cons, List.not_mem_nil, or_false] at h
  simp only [← BitVec.toNat_inj]
  exact h

/-! ## DECLARE (R39) -/

section
variable {s : State} {take base lines : Nat} {k : Byte} {tracks : AxisSet}

/-- A DECLARE that passes its checks writes its entry and joins the verify order. -/
theorem State.declareTake_of_granted (htake : 1 ≤ take ∧ take ≤ 32) (hregion : s.hasRegion = true)
    (hentry : s.entry take = none ∨ ∃ e, s.entry take = some e ∧ e.state = .rejected) (hbase : base % 4 = 0)
    (hlines : 1 ≤ lines ∧ lines ≤ 1048576) (htracks : tracks ≠ 0) (hk : k.toNat ∈ [1, 2, 4, 8, 16])
    (hextent : s.extentCheck take base lines (trackCount tracks) = none) :
    s.declareTake take base lines k tracks =
      accept ((s.setEntry take (some (declaredEntry (s.entry take) base lines k.toNat tracks))).verifyAppend take).settle := by
  have hmay : mayDeclare (s.entry take) = true := by
    obtain h | ⟨e, h, hstate⟩ := hentry
    · rw [h, mayDeclare]
    · rw [h, mayDeclare, hstate]
      rfl
  unfold State.declareTake
  rw [if_neg (by simp [takeInRange_iff, htake]), if_neg (by simp [hregion]), if_neg (by simp [hmay]),
    if_neg (by simp [hbase, show ¬ tracks = 0#16 from htracks, show lines ≠ 0 by omega, show ¬ 1048576 < lines by omega]), readK_of_listed hk]
  dsimp only
  rw [hextent]

end

/-- An entry is a fact of the entries alone. -/
theorem State.entry_congr_entries {s t : State} (h : t.directory.entries = s.directory.entries) (n : Nat) :
    t.entry n = s.entry n := by
  simp only [State.entry, Directory.entry, h]


/-- What an accepted DECLARE or DELETE leaves of the other blocks: the directory apart, all that the arbiter's decision
leaves. -/
structure State.EntryWritten (s t : State) (take : Nat) (e : Option TakeEntry) (order : List Nat) : Prop where
  entry_self : t.entry take = e
  entry_ne : ∀ n, n ≠ take → t.entry n = s.entry n
  order : t.directory.verifyOrder = order
  pass : t.pass = s.pass
  axes : t.axes = s.axes
  timebase : t.timebase = s.timebase
  witness : t.witness = s.witness
  flag : ∀ ev : Event, ev ≠ .protect → ev ≠ .partialWrite → t.flag ev = s.flag ev
  recordQueue : t.recording.queue = s.recording.queue
  lines : t.lineQueue.lines = s.lineQueue.lines

theorem State.entryWritten_declare (s : State) (take : Nat) (e : Option TakeEntry) (hpos : 1 ≤ take)
    (hle : take ≤ s.directory.entries.length) :
    s.EntryWritten ((s.setEntry take e).verifyAppend take).settle take e (s.directory.verifyOrder ++ [take]) where
  entry_self := (State.entry_congr_entries (by simp) take).trans (s.entry_setEntry_self take e hpos hle)
  entry_ne n hn := (State.entry_congr_entries (by simp) n).trans (s.entry_setEntry_ne take n e hn)
  order := by simp [State.verifyAppend]
  pass := by simp
  axes := by simp
  timebase := by simp
  witness := by simp
  flag ev h1 h2 := by rw [State.flag_settle _ h1 h2]; exact State.flag_congr (by simp) ev
  recordQueue := by simp
  lines := by simp

/-- Settles O27: the entry and the verify order are written, and the arbiter's decision leaves them. -/
theorem declareStartsVerifying : Obligations.DeclareStartsVerifying := by
  intro s take k base lines tracks hs hentries hpos hle hregion hentry hbase hlines hlines' htracks hk hextent
  have hbody := State.declareTake_of_granted (s := s.receive ⟨0x22, [take] ++ bytes3 base ++ bytes3 lines ++ [k]
    ++ bytes2 tracks⟩) ⟨hpos, hle⟩ hregion hentry hbase ⟨hlines, hlines'⟩ htracks hk hextent
  refine ⟨_, congrArg Host.Outcome.next (State.takeCommand_of_body hs _ hbody), rfl, ?_⟩
  have hwritten := State.entryWritten_declare (s.receive ⟨0x22, [take] ++ bytes3 base ++ bytes3 lines ++ [k]
    ++ bytes2 tracks⟩) take.toNat (some (declaredEntry (s.entry take.toNat) base.toNat lines.toNat k.toNat tracks)) hpos
    (hle.trans (Nat.le_of_eq hentries.symm))
  exact ⟨fun hfree => hwritten.entry_self.trans (by rw [hfree]; rfl),
    fun e he => hwritten.entry_self.trans (by rw [he]; rfl), hwritten.entry_ne, hwritten.order, hwritten.pass,
    hwritten.axes, hwritten.timebase, hwritten.witness, hwritten.flag, hwritten.recordQueue, hwritten.lines⟩

/-! ## DELETE (R42, R45) -/

theorem State.deleteTake_of_noTake {s : State} {take : Nat} (h : take = 0 ∨ 32 < take ∨ s.entry take = none) :
    s.deleteTake take = refuse s .noTake := by
  have hnone : (if takeInRange take then s.entry take else none) = none := by
    split
    next hrange =>
      rw [takeInRange_iff] at hrange
      exact (h.resolve_left (by omega)).resolve_left (by omega)
    · rfl
  rw [State.deleteTake, hnone]

section
variable {s : State} {take : Nat} {e : TakeEntry} (hpos : 1 ≤ take) (hle : take ≤ 32) (he : s.entry take = some e)
include hpos hle he

theorem State.deleteTake_of_inUse (h : s.passHolds take = true ∨ s.directory.namedByAlias take = true) :
    s.deleteTake take = refuse s .inUse := by
  rw [State.deleteTake, if_pos ((takeInRange_iff take).mpr ⟨hpos, hle⟩), he]
  exact if_pos (by simpa using h)

theorem State.deleteTake_of_free (h : s.passHolds take = false) (h' : s.directory.namedByAlias take = false) :
    s.deleteTake take = accept ((if e.state = .verifying then (s.setEntry take none).verifyRemove take
      else s.setEntry take none).settle) := by
  rw [State.deleteTake, if_pos ((takeInRange_iff take).mpr ⟨hpos, hle⟩), he]
  exact if_neg (by simp [h, h'])

end

theorem State.verifyRemove_order (s : State) (take : Nat) :
    (s.verifyRemove take).directory.verifyOrder = s.directory.verifyOrder.erase take := by
  unfold State.verifyRemove
  dsimp only
  split
  · rw [State.dropDownstream]
  · rfl

theorem State.entryWritten_delete (s : State) (take : Nat) (verifying : Prop) [Decidable verifying] (hpos : 1 ≤ take)
    (hle : take ≤ s.directory.entries.length) :
    s.EntryWritten ((if verifying then (s.setEntry take none).verifyRemove take else s.setEntry take none).settle) take none
      (if verifying then s.directory.verifyOrder.erase take else s.directory.verifyOrder) := by
  split
  all_goals exact {
    entry_self := (State.entry_congr_entries (by simp) take).trans (s.entry_setEntry_self take none hpos hle)
    entry_ne n hn := (State.entry_congr_entries (by simp) n).trans (s.entry_setEntry_ne take n none hn)
    order := by simp [State.verifyRemove_order]
    pass := by simp
    axes := by simp
    timebase := by simp
    witness := by simp
    flag ev h1 h2 := by rw [State.flag_settle _ h1 h2]; exact State.flag_congr (by simp) ev
    recordQueue := by simp
    lines := by simp }

/-- Settles O28. -/
theorem deleteFreesEntry : Obligations.DeleteFreesEntry := by
  refine fun s take hs => ⟨fun h => ?_, fun e hpos hle he => ⟨fun h => ?_, fun h h' => ?_⟩⟩
  · exact congrArg Host.Outcome.next (State.takeCommand_eq_answered hs (State.deleteTake_of_noTake (s := s.receive ⟨0x23, [take]⟩) h))
  · exact congrArg Host.Outcome.next
      (State.takeCommand_eq_answered hs (State.deleteTake_of_inUse (s := s.receive ⟨0x23, [take]⟩) hpos hle he h))
  · have hwritten := State.entryWritten_delete (s.receive ⟨0x23, [take]⟩) take.toNat (e.state = .verifying) hpos
      (s.entry_range take.toNat e he).2
    exact ⟨_, congrArg Host.Outcome.next
      (State.takeCommand_of_body hs ⟨0x23, [take]⟩ (State.deleteTake_of_free hpos hle he h h')), rfl,
      hwritten.entry_self, hwritten.entry_ne, hwritten.order, hwritten.pass, hwritten.axes, hwritten.timebase,
      hwritten.flag⟩

/-! ## PROTECT and UNPROTECT (R35) -/

theorem State.protectTake_of_noTake {s : State} {take : Nat} (h : take = 0 ∨ 32 < take ∨ s.entry take = none)
    (g : Bool) : s.protectTake take g = refuse s .noTake := by
  have hnone : (if takeInRange take then s.entry take else none) = none := by
    split
    next hrange =>
      rw [takeInRange_iff] at hrange
      exact (h.resolve_left (by omega)).resolve_left (by omega)
    · rfl
  rw [State.protectTake, hnone]

/-- The root of a take takes the field. -/
theorem State.protectTake_of_root {s : State} {take : Nat} {e r : TakeEntry} (hpos : 1 ≤ take) (hle : take ≤ 32)
    (he : s.entry take = some e) (hr : s.entry (e.root take) = some r) {base : Nat} {old : Bool}
    (hkind : r.kind = .storage base old) (g : Bool) :
    s.protectTake take g =
      ⟨s.setEntry (e.root take) (some { r with kind := .storage base g }), .ok, [codeByte (e.root take), boolByte g]⟩ := by
  rw [State.protectTake, if_pos ((takeInRange_iff take).mpr ⟨hpos, hle⟩), he]
  dsimp only
  rw [State.onEntry, hr, Option.map_some, TakeEntry.setGuarded, hkind]

/-- Settles O29. -/
theorem protectWritesRoot : Obligations.ProtectWritesRoot := by
  refine fun s take hs => ⟨fun h => ⟨?_, ?_⟩, fun e root r b g hpos hle he hroot hr hkind => ?_⟩
  · exact congrArg Host.Outcome.next
      (State.takeCommand_eq_answered hs (State.protectTake_of_noTake (s := s.receive ⟨0x24, [take]⟩) h true))
  · exact congrArg Host.Outcome.next
      (State.takeCommand_eq_answered hs (State.protectTake_of_noTake (s := s.receive ⟨0x25, [take]⟩) h false))
  · have heq : root = e.root take.toNat := hroot
    subst heq
    exact ⟨congrArg Host.Outcome.next (State.takeCommand_eq_answered hs
        (State.protectTake_of_root (s := s.receive ⟨0x24, [take]⟩) hpos hle he hr hkind true)),
      congrArg Host.Outcome.next (State.takeCommand_eq_answered hs
        (State.protectTake_of_root (s := s.receive ⟨0x25, [take]⟩) hpos hle he hr hkind false))⟩

/-! ## ALIAS (R43) -/

section
variable {s : State} {take parent offset length root off : Nat} {p r : TakeEntry} (htake : 1 ≤ take ∧ take ≤ 32)
  (hparent : 1 ≤ parent ∧ parent ≤ 32) (hfree : s.entry take = none) (hp : s.entry parent = some p)
  (hready : p.state = .ready) (hr : s.entry root = some r)
  (hroot : root = p.root parent) (hoff : off = p.aliasOffset + offset)
include htake hparent hfree hp hready hr hroot hoff

/-- An ALIAS of a READY parent is decided by its place within the root. -/
theorem State.makeAlias_of_parent :
    s.makeAlias take parent offset length =
      if length = 0 ∨ r.lines < off + length then refuse s .range
      else ⟨s.setEntry take (some
        { state := .ready, kind := .aliasOf root off, lines := length, k := r.k, tracks := r.tracks,
          truncated := false, recordInfo := none, passCount := 0, failLine := none, written := 0 }),
        .ok, beBytes 1 root ++ beBytes 3 off ++ beBytes 3 length⟩ := by
  have hresolved : s.resolveAlias parent offset p = some (root, r, off) := by
    rw [State.resolveAlias, ← hroot, hr, ← hoff, Option.map_some]
  rw [State.makeAlias, if_neg (by simp [takeInRange_iff, htake, hparent]), hp]
  dsimp only
  rw [hfree, if_neg (by simp), if_neg (by simp [hready]), hresolved]

end

/-- Settles O30. -/
theorem aliasNamesRoot : Obligations.AliasNamesRoot := by
  intro s take parent offset length p r root off hs htake htake' hparent hparent' hfree hp hready hr hplace fr
  have hwhere : root = p.root parent.toNat ∧ off = p.aliasOffset + offset.toNat := by
    cases hkind : p.kind <;> simpa [TakeEntry.root, TakeEntry.aliasOffset, hkind] using hplace
  obtain ⟨hroot, hoff⟩ := hwhere
  have hbody := State.makeAlias_of_parent (s := s.receive fr) (length := length.toNat) ⟨htake, htake'⟩
    ⟨hparent, hparent'⟩ hfree hp hready hr hroot hoff
  exact ⟨fun hlen hfits => congrArg Host.Outcome.next
      (State.takeCommand_eq_answered hs (hbody.trans (if_neg (by omega)))),
    fun hout => congrArg Host.Outcome.next (State.takeCommand_eq_answered hs (hbody.trans (if_pos hout)))⟩

end Sys2Proof.Machine
end

section
/-! Proofs about SET AXIS and CLEAR AXIS FLAGS (R152, R154, R168), about the arms (R36, R49, R51 to R54, R83, R100, R128,
R180, R184) and about STOP, PARK and RESUME (R61 to R63). -/

namespace Sys2Proof.Machine

/-! ## Argument fields (R202) -/

theorem readYesNo_of_le {b : Byte} (h : b.toNat ≤ 1) : readYesNo b = some (decide (b = 1)) := by
  have hcases : b = 0 ∨ b = 1 := by
    simp only [← BitVec.toNat_inj]
    exact (by omega : b.toNat = 0 ∨ b.toNat = 1)
  obtain rfl | rfl := hcases <;> rfl

theorem readTrigger_codeByte (t : Trigger) : readTrigger (codeByte t.codeNat) = some t := by cases t <;> rfl

theorem readInterp_codeByte (i : Interp) : readInterp (codeByte i.codeNat) = some i := by cases i <;> rfl

theorem readPolicy_codeByte (p : Policy) : readPolicy (codeByte p.codeNat) = some p := by cases p <;> rfl

theorem readSource_codeByte (s : Source) : readSource (codeByte s.codeNat) = some s := by cases s <;> rfl

theorem okOr_byte {adjusted : Bool} {p : Prop} [Decidable p] (h : adjusted = false ↔ p) :
    (okOr adjusted).byte = if p then 0 else 1 := by
  cases adjusted with
  | false => rw [if_pos (h.mp rfl)]; rfl
  | true => rw [if_neg fun hp => by cases h.mpr hp]; rfl

/-! ## STOP, PARK and RESUME (R61 to R63) -/

theorem State.enterPreroll_of_parked {s : State} (h : s.pass.state = .parked) (n : Nat) :
    s.emptySlot.enterPreroll n .resume = { s with
      pass := { s.pass with state := .preroll, pending := none, preroll := some ⟨n, .resume⟩ }
      port := { s.port with flags := s.port.flags ||| 4 } } := by
  unfold State.enterPreroll State.setPass
  rw [if_neg (by simp [State.emptySlot, h])]
  rfl

/-- Settles O45. -/
theorem stopParkResume : Obligations.StopParkResume := by
  intro s hs withRequest
  refine ⟨congrArg Host.Outcome.next ?_, congrArg Host.Outcome.next ?_, fun hstate => congrArg Host.Outcome.next ?_,
    fun c hstate hc => ⟨fun hzero => congrArg Host.Outcome.next ?_, fun hpos => congrArg Host.Outcome.next ?_⟩⟩
  · split
    next h => exact State.takeCommand_eq_answered hs (if_pos (by simpa [State.runningOrParked] using h))
    next h => exact State.takeCommand_eq_answered hs (if_neg (by simpa [State.runningOrParked] using h))
  · split
    next h => exact State.takeCommand_eq_answered hs (if_pos h)
    next h => exact State.takeCommand_eq_answered hs (if_neg h)
  · exact State.takeCommand_eq_answered hs (if_neg hstate)
  · refine State.takeCommand_eq_answered hs ((if_pos hstate).trans ?_)
    rw [show (s.receive ⟨0x35, []⟩).pass.context = some c from hc]
    simp only [Option.map_some, Option.getD_some, hzero]
    rfl
  · refine State.takeCommand_eq_answered hs ((if_pos hstate).trans ?_)
    rw [show (s.receive ⟨0x35, []⟩).pass.context = some c from hc]
    obtain ⟨n, hn⟩ := Nat.exists_eq_succ_of_ne_zero (by omega : c.resumePreroll ≠ 0)
    simp only [Option.map_some, Option.getD_some, hn]
    rw [State.enterPreroll_of_parked (s := s.receive ⟨0x35, []⟩) hstate]
    rfl

/-! ## SET AXIS and CLEAR AXIS FLAGS (R152, R154, R168) -/

theorem State.settingsPend_iff (s : State) :
    s.settingsPend = true ↔ s.pass.state = .preroll ∨ s.pass.state = .running ∨ s.pass.state = .parked := by
  simp [State.settingsPend, or_assoc]

theorem State.addressesFixed_iff (s : State) : s.addressesFixed = true ↔ s.pass.state = .armed ∨ s.settingsPend = true := by
  simp [State.addressesFixed, State.settingsPend, or_assoc]

theorem AxisEntry.sameAddresses_iff (a b : AxisEntry) : a.sameAddresses b = true
    ↔ a.enabled = b.enabled ∧ a.targetAddr = b.targetAddr ∧ a.feedbackAddr = b.feedbackAddr := by
  simp [AxisEntry.sameAddresses, and_assoc]

theorem Axis.set_at_once (ax : Axis) (e : AxisEntry) : ax.set e false = { ax with
    entry := e, pending := none
    lastForwarded := if ax.entry.targetAddr ≠ e.targetAddr ∨ (ax.entry.enabled = false ∧ e.enabled = true) then none
      else ax.lastForwarded
    lastFeedback := if ax.entry.feedbackAddr = e.feedbackAddr then ax.lastFeedback else none } := by
  simp [Axis.set]

/-- A SET AXIS that passes its checks sets the axis. -/
theorem State.setAxis_of_granted {s : State} {a enabled present source : Byte}
    {target feedback mn mx step offset : BitVec 24} {tol scale : BitVec 16} {src : Source} {e : AxisEntry}
    (ha : a.toNat < 16) (henabled : enabled.toNat ≤ 1) (hpresent : present.toNat ≤ 1) (hsource : source = codeByte src.codeNat)
    (htarget : target.toNat % 4 = 0) (hfeedback : present = 1 → feedback.toNat % 4 = 0) (hmin : mn.toInt ≤ mx.toInt)
    (he : e = ⟨enabled = 1, target.toNat, if present = 1 then some feedback.toNat else none,
      ⟨mn.toInt, mx.toInt, clampNat 0 8388607 step.toNat, tol.toNat, src, scale.toInt, offset.toInt⟩⟩)
    (hfixed : s.addressesFixed = true → (s.axis a.toNat).entry.sameAddresses e = true)
    (hconflict : e.enabled = true → s.addressConflict a.toNat e = false) :
    s.setAxis a enabled target present feedback mn mx step tol source scale offset =
      ⟨s.onAxis a.toNat fun ax => ax.set e s.settingsPend, okOr (clampNat 0 8388607 step.toNat != step.toNat),
        [a, unlisted (if s.settingsPend then .copyPending else .copyActive)] ++ e.bytes⟩ := by
  subst he hsource
  unfold State.setAxis
  dsimp only
  rw [if_neg (by omega), readYesNo_of_le henabled, readYesNo_of_le hpresent, readSource_codeByte]
  simp only [decide_eq_true_eq]
  rw [if_neg (by simpa [aligned, htarget] using hfeedback), if_neg ?_, if_neg (by omega), if_neg ?_]
  · simpa using hconflict
  · simpa using hfixed

theorem State.clearAxisFlags_axis (s : State) (axes : AxisSet) {a : Nat} (ha : a < s.axes.length) :
    (s.clearAxisFlags axes).axis a = if axes.getLsbD a then
      { s.axis a with sat := false, clamp := false, stepped := false } else s.axis a := by
  simp [State.axis, State.clearAxisFlags, List.getD, ha]

/-- Settles O42. -/
theorem axisCommandsWriteAxes : Obligations.AxisCommandsWriteAxes := by
  unfold Obligations.AxisCommandsWriteAxes
  refine ⟨fun s a enabled present source target feedback mn mx step offset tol scale src hs haxes ha henabled hpresent
    hsource htarget hfeedback hmin => ?_, fun s axes hs haxes => ?_⟩
  · intro p e old pends hfixed hconflict
    have hclamp : clampNat 0 8388607 step.toNat = min step.toNat 8388607 := Nat.max_eq_right (Nat.zero_le _)
    have he : e = ⟨enabled = 1, target.toNat, if present = 1 then some feedback.toNat else none,
        ⟨mn.toInt, mx.toInt, clampNat 0 8388607 step.toNat, tol.toNat, src, scale.toInt, offset.toInt⟩⟩ := by
      simp only [e, p, hclamp, Nat.cast_min, Nat.cast_ofNat]
    have hsame : s.addressesFixed = true → old.entry.sameAddresses e = true := fun h =>
      (AxisEntry.sameAddresses_iff old.entry e).mpr (hfixed (by rwa [s.addressesFixed_iff, s.settingsPend_iff] at h))
    let fr : Frame := ⟨0x70, [a] ++ [enabled] ++ bytes3 target ++ [present] ++ bytes3 feedback ++ bytes3 mn ++ bytes3 mx
      ++ bytes3 step ++ bytes2 tol ++ [source] ++ bytes2 scale ++ bytes3 offset⟩
    have hbody := State.setAxis_of_granted (s := s.receive fr) (e := e) ha henabled hpresent hsource htarget hfeedback hmin
      he hsame hconflict
    have hself : (s.onAxis a.toNat fun ax => ax.set e s.settingsPend).axis a.toNat = old.set e s.settingsPend :=
      s.axis_onAxis_self a.toNat _ (by omega)
    refine ⟨_, congrArg Host.Outcome.next (State.takeCommand_eq_answered (t := s.onAxis a.toNat fun ax =>
      ax.set e s.settingsPend) hs hbody), ?_, fun hpends => ?_, fun hnot => ?_, fun n hn => s.axis_onAxis_ne a.toNat n _ hn,
      rfl, rfl⟩
    · exact congrArg some (okOr_byte (by rw [bne_eq_false_iff_eq]; omega))
    · exact hself.trans (by rw [s.settingsPend_iff.mpr hpends]; rfl)
    · have hset := (hself.trans (congrArg (old.set e)
        (Bool.eq_false_iff.mpr (mt s.settingsPend_iff.mp hnot)))).trans (old.set_at_once e)
      exact ⟨congrArg (·.entry) hset, congrArg (·.pending) hset, congrArg (·.lastForwarded) hset,
        congrArg (·.lastFeedback) hset⟩
  · exact ⟨_, congrArg Host.Outcome.next (State.takeCommand_eq_answered (t := s.clearAxisFlags axes) hs rfl), rfl,
      fun a ha => s.clearAxisFlags_axis axes (by omega), rfl, rfl⟩

/-! ## The arms (R49, R51 to R54) -/

/-- What an arm from IDLE leaves: the context, a new summary, the position at the start frame, the counts at 0 and PASS
raised. -/
def State.armedWith (s : State) (c : PassContext) : State := { s with
  pass := { s.pass with state := .armed, context := some c, pending := none, preroll := none, hasRun := false,
                        summary := some (newSummary c.mode c.take c.startFrame) }
  timebase := { s.timebase with position := some (c.startFrame * 65536), nextPoint := 0, passPulses := 0, advances := 0,
                                frameOffset := 0, slips := 0 }
  port := { s.port with flags := s.port.flags ||| Event.pass.mask } }

theorem State.arm_of_idle {s : State} (h : s.pass.state = .idle) (c : PassContext) : s.arm c = s.armedWith c := by
  unfold State.arm State.setPass
  rw [if_neg (by simp [h])]
  rfl

theorem State.flag_armedWith (s : State) (c : PassContext) : (s.armedWith c).flag .pass = true := by
  simp [State.flag, State.armedWith, Event.getLsbD_mask]

theorem State.openRecording_recording (s : State) : s.openRecording.recording = ⟨true, [], none, 0⟩ := by
  simp [State.openRecording]

theorem State.openRecording_axis (s : State) {a : Nat} (ha : a < 16) :
    s.openRecording.axis a = (s.axis a).withoutMarkers := by
  rw [State.openRecording, State.clearMarkers_axis, if_pos (List.mem_range.mpr ha)]
  rfl

section
variable {s : State} {take base maxLines preroll pace length : Nat} {k trigger lock : Byte} {tracks : AxisSet}
  {trig : Trigger}

/-- The context of an accepted RECORD ARM (R49, R51). -/
def recordContext (take base lines : Nat) (k : Nat) (tracks : AxisSet) (trig : Trigger) (lock : Bool)
    (preroll pace length : Nat) : PassContext :=
  { mode := .record, take := take, startFrame := 0, pace := pace, interp := none, trigger := trig, requireLock := lock,
    preroll := preroll, resumePreroll := 0, policy := none, length := some length, maxLines := some lines, k := k,
    tracks := tracks, base := some base }

/-- A RECORD ARM that passes its checks. -/
theorem State.recordArm_of_granted (hidle : s.pass.state = .idle) (htake : 1 ≤ take ∧ take ≤ 32)
    (hfree : s.entry take = none) (hk : k.toNat ∈ [1, 2, 4, 8, 16]) (htrig : trigger = codeByte trig.codeNat)
    (hlock : lock.toNat ≤ 1) (hbase : base % 4 = 0) (htracks : tracks ≠ 0) (henabled : s.tracksEnabled tracks = true)
    (hextent : s.extentCheck take base (clampNat 1 1048576 maxLines) (trackCount tracks) = none) :
    let lines := clampNat 1 1048576 maxLines
    let pace' := clampNat 1 16384 pace
    s.recordArm take base maxLines k tracks trigger lock preroll pace length =
      ⟨((s.setEntry take (some (recordingEntry base lines k.toNat tracks))).armedWith
          (recordContext take base lines k.toNat tracks trig (lock = 1) preroll pace' length)).openRecording,
        okOr (lines != maxLines || pace' != pace), beBytes 3 lines ++ beBytes 2 pace'⟩ := by
  subst htrig
  intro lines pace'
  unfold State.recordArm
  rw [if_neg (by simp [hidle]), if_neg (by simp [takeInRange_iff, htake]), if_neg (by simp [hfree]), readK_of_listed hk,
    readTrigger_codeByte, readYesNo_of_le hlock]
  dsimp only
  rw [if_neg (by simp [hbase, show ¬ tracks = 0#16 from htracks]), if_neg (by simp [henabled]), hextent]
  dsimp only
  rw [State.arm_of_idle (by exact hidle)]
  rfl

end

/-- Settles O43: the entry is written, the arm starts from IDLE, and opening the recording clears the markers. -/
theorem recordArmStartsPass : Obligations.RecordArmStartsPass := by
  intro s take k trigger lock preroll base maxLines tracks pace length trig hs hentries hidle hpos hle hfree hk htrig hlock
    hbase htracks henabled lines pace' hextent
  let fr : Frame := ⟨0x30, [take] ++ bytes3 base ++ bytes3 maxLines ++ [k] ++ bytes2 tracks ++ [trigger] ++ [lock]
    ++ [preroll] ++ bytes2 pace ++ bytes2 length⟩
  let u : State := s.receive fr
  let written : State := u.setEntry take.toNat (some (recordingEntry base.toNat lines k.toNat tracks))
  let armed : State := written.armedWith
    (recordContext take.toNat base.toNat lines k.toNat tracks trig (lock = 1) preroll.toNat pace' length.toNat)
  have hbody : u.recordArm take.toNat base.toNat maxLines.toNat k tracks trigger lock preroll.toNat pace.toNat length.toNat
      = ⟨armed.openRecording, okOr (lines != maxLines.toNat || pace' != pace.toNat), beBytes 3 lines ++ beBytes 2 pace'⟩ :=
    State.recordArm_of_granted hidle ⟨hpos, hle⟩ hfree hk htrig hlock hbase htracks henabled hextent
  clear_value lines pace'
  have hentry (n : Nat) : armed.openRecording.entry n = written.entry n := State.entry_congr (by simp [armed]; rfl) n
  have hpass : armed.openRecording.pass = armed.pass := by simp
  have htimebase : armed.openRecording.timebase = { s.timebase with
      position := some 0, nextPoint := 0, passPulses := 0, advances := 0, frameOffset := 0, slips := 0 } := by
    rw [show armed.openRecording.timebase = armed.timebase by simp]
    simp only [armed, State.armedWith, recordContext, Nat.zero_mul]
    rfl
  have hwitness : armed.openRecording.witness = armed.witness := by simp
  have hflag : armed.openRecording.flag .pass = armed.flag .pass := State.flag_congr (by simp) _
  have haxis (a : Nat) (ha : a < 16) : armed.openRecording.axis a = (s.axis a).withoutMarkers :=
    armed.openRecording_axis ha
  have hrecording := armed.openRecording_recording
  generalize armed.openRecording = opened at hbody hentry hpass htimebase hwitness hflag haxis hrecording
  refine ⟨_, congrArg Host.Outcome.next (State.takeCommand_of_body hs fr hbody), ?_⟩
  refine ⟨?_, ?_, fun n hn => ?_, ?_, ?_, ?_, ?_, ?_, ?_, ?_, ?_, ?_, fun a ha => ?_⟩
  · exact congrArg (fun b => some (Response.mk b _ 0))
      (okOr_byte (by rw [Bool.or_eq_false_iff, bne_eq_false_iff_eq, bne_eq_false_iff_eq]))
  · exact (hentry _).trans (u.entry_setEntry_self take.toNat _ hpos (hle.trans (Nat.le_of_eq hentries.symm)))
  · exact (hentry n).trans (u.entry_setEntry_ne take.toNat n _ hn)
  · exact congrArg (·.state) hpass
  · exact congrArg (·.pending) hpass
  · exact congrArg (·.hasRun) hpass
  · exact congrArg (·.context) hpass
  · exact congrArg (·.summary) hpass
  · exact htimebase
  · exact hrecording
  · exact hflag.trans (State.flag_armedWith _ _)
  · exact hwitness
  · exact ⟨congrArg (·.clampSince) (haxis a ha), congrArg (·.satSince) (haxis a ha),
      congrArg (·.entry) (haxis a ha)⟩

/-! ## REPLAY ARM and WITNESS ARM (R53, R54, R100, R128, R180, R184) -/

theorem State.forgetResults_axis (s : State) (a : Nat) :
    s.forgetResults.axis a = { s.axis a with previousResult := none } := by
  simp only [State.axis, State.forgetResults, List.getD_eq_getElem?_getD, List.getElem?_map]
  cases s.axes[a]? <;> rfl

theorem State.uncheckSources_witnessAxis (s : State) {a : Nat} (ha : a < s.witness.axes.length) :
    s.uncheckSources.witnessAxis a =
      if (s.axis a).entry.processing.source = .none then s.witnessAxis a else (s.witnessAxis a).uncheck := by
  simp [State.witnessAxis, State.uncheckSources, List.getD, ha]

theorem State.startQueue_lineQueue (s : State) (g : Geometry) (s0 : Nat) : (s.startQueue g s0).lineQueue =
    { State.emptyLineQueue with geometry := some g, nextFetch := some (s0 - 1), currentLine := some s0 } := rfl

theorem State.emptyLog_log (s : State) : s.emptyLog.witness.log = [] := by
  simp [State.emptyLog]

theorem State.flag_emptyLog (s : State) (ev : Event) : s.emptyLog.flag ev = if ev = .devlog then false else s.flag ev :=
  State.flag_followLog _ ev

/-- The context of an accepted REPLAY or WITNESS ARM (R49, R53). -/
def readContext (mode : PassMode) (take startFrame pace : Nat) (interp : Interp) (trig : Trigger) (lock : Bool)
    (preroll resumePreroll : Nat) (policy : Policy) (e : TakeEntry) : PassContext :=
  { mode := mode, take := take, startFrame := startFrame, pace := pace, interp := some interp, trigger := trig,
    requireLock := lock, preroll := preroll, resumePreroll := resumePreroll, policy := some policy, length := none,
    maxLines := none, k := e.k, tracks := e.tracks, base := none }

/-- The part as an accepted REPLAY or WITNESS ARM leaves it, before the fetcher starts. -/
def State.readArmed (s : State) (c : PassContext) (g : Geometry) (s0 : Nat) : State :=
  (((s.armedWith c).startQueue g s0).uncheckSources.forgetResults).emptyLog

/-- A REPLAY or WITNESS ARM that passes its checks. -/
theorem State.readArm_of_granted {s : State} {mode : PassMode} {take startFrame pace preroll resumePreroll : Nat}
    {interp trigger lock policy : Byte} {e : TakeEntry} {i : Interp} {trig : Trigger} {pol : Policy}
    (hidle : s.pass.state = .idle) (htake : 1 ≤ take ∧ take ≤ 32) (he : s.entry take = some e) (hready : e.state = .ready)
    (hinterp : interp = codeByte i.codeNat) (htrig : trigger = codeByte trig.codeNat) (hlock : lock.toNat ≤ 1)
    (hpolicy : policy = codeByte pol.codeNat) (henabled : s.tracksEnabled e.tracks = true)
    (hstart : startFrame * e.k < e.lines) {pace' : Nat} (hpace : pace' = clampNat 1 16384 pace) :
    s.readArm mode take startFrame pace interp trigger lock preroll resumePreroll policy =
      ⟨(s.readArmed (readContext mode take startFrame pace' i trig (lock = 1) preroll resumePreroll pol e)
          (s.captureGeometry take e) (startFrame * e.k)).settle,
        okOr (pace' != pace), beBytes 2 pace' ++ beBytes 3 (startFrame * e.k)⟩ := by
  subst hinterp htrig hpolicy hpace
  unfold State.readArm
  rw [if_neg (by simp [hidle]), if_pos ((takeInRange_iff take).mpr htake), he]
  dsimp only
  rw [if_neg (by simp [hready]), readInterp_codeByte, readTrigger_codeByte, readYesNo_of_le hlock, readPolicy_codeByte]
  dsimp only
  rw [if_neg (by simp [henabled]), if_neg (by omega), State.arm_of_idle hidle]
  rfl

/-- What an accepted REPLAY or WITNESS ARM leaves. -/
structure State.ReadArmed (s : State) (c : PassContext) (g : Geometry) (s0 : Nat) (t : State) : Prop where
  pass : t.pass = { s.pass with state := .armed, context := some c, pending := none, preroll := none, hasRun := false,
                                summary := some (newSummary c.mode c.take c.startFrame) }
  timebase : t.timebase = { s.timebase with position := some (c.startFrame * 65536), nextPoint := 0, passPulses := 0,
                                            advances := 0, frameOffset := 0, slips := 0 }
  geometry : t.lineQueue.geometry = some g
  lines : t.lineQueue.lines = []
  currentLine : t.lineQueue.currentLine = some s0
  fetch : s.resetControl.inForce = false → (c.mode = .replay ∨ c.mode = .witness) → s0 - 1 < g.lines →
    t.lineQueue.assembled = some (s0 - 1, []) ∧ t.lineQueue.nextFetch = some (s0 - 1 + 1)
  axis : ∀ a, t.axis a = { s.axis a with previousResult := none }
  log : t.witness.log = []
  devlog : t.flag .devlog = false
  flagPass : t.flag .pass = true
  directory : t.directory = s.directory
  recordQueue : t.recording.queue = s.recording.queue
  witnessAxis : ∀ a, a < s.witness.axes.length → t.witnessAxis a =
    if (s.axis a).entry.processing.source = .none then s.witnessAxis a else (s.witnessAxis a).uncheck

theorem State.axis_congr {s t : State} (h : t.axes = s.axes) (a : Nat) : t.axis a = s.axis a := by
  simp only [State.axis, h]

theorem State.witnessAxis_congr {s t : State} (h : t.witness.axes = s.witness.axes) (a : Nat) :
    t.witnessAxis a = s.witnessAxis a := by
  simp only [State.witnessAxis, h]

theorem State.readArmed_settle (s : State) (c : PassContext) (g : Geometry) (s0 : Nat) :
    s.ReadArmed c g s0 (s.readArmed c g s0).settle where
  pass := by simp [State.readArmed]; rfl
  timebase := by simp [State.readArmed]; rfl
  geometry := by simp [State.readArmed, State.startQueue_lineQueue]
  lines := by simp [State.readArmed, State.startQueue_lineQueue, State.emptyLineQueue]
  currentLine := by simp [State.readArmed, State.startQueue_lineQueue]
  fetch hreset hmode hline := by
    have hpass : (s.readArmed c g s0).pass = (s.armedWith c).pass := by simp [State.readArmed]
    have hqueue : (s.readArmed c g s0).lineQueue =
        { State.emptyLineQueue with geometry := some g, nextFetch := some (s0 - 1), currentLine := some s0 } := by
      simp [State.readArmed, State.startQueue_lineQueue]
    have hforce : (s.readArmed c g s0).resetControl.inForce = false := by
      simpa [State.readArmed, State.armedWith] using hreset
    have hactive : (s.readArmed c g s0).queueActive = true := by
      simp only [State.queueActive, State.readsTake, State.mode, hpass]
      obtain hmode | hmode := hmode <;> simp [State.armedWith, hmode]
    rw [← State.settleAt_false]
    exact State.settleAt_of_mayFetch false (by rw [hqueue]) (by rw [hqueue]) (by rw [hqueue]; rfl)
      ⟨hforce, hactive, by simp [hpass, State.armedWith], by simp [hqueue, State.emptyLineQueue], hline⟩
  axis a := by
    rw [State.axis_congr (s := (((s.armedWith c).startQueue g s0).uncheckSources.forgetResults)) (by simp [State.readArmed]),
      State.forgetResults_axis, State.axis_congr (s := s) (by simp [State.uncheckSources]; rfl)]
  log := by simp [State.readArmed, State.emptyLog_log]
  devlog := by
    rw [State.flag_settle _ (by decide) (by decide), State.readArmed, State.flag_emptyLog, if_pos rfl]
  flagPass := by
    rw [State.flag_settle _ (by decide) (by decide), State.readArmed, State.flag_emptyLog, if_neg (by decide),
      State.flag_congr (s := s.armedWith c) (by simp [State.forgetResults, State.uncheckSources]), s.flag_armedWith c]
  directory := by simp [State.readArmed]; rfl
  recordQueue := by simp [State.readArmed]; rfl
  witnessAxis a ha := by
    have hwitness : ((s.armedWith c).startQueue g s0).witness = s.witness := by simp; rfl
    have haxes : ((s.armedWith c).startQueue g s0).axes = s.axes := by simp; rfl
    rw [State.witnessAxis_congr (s := ((s.armedWith c).startQueue g s0).uncheckSources)
        (by simp [State.readArmed, State.forgetResults]), State.uncheckSources_witnessAxis _ (by rwa [hwitness]),
      State.axis_congr haxes, State.witnessAxis_congr (congrArg (·.axes) hwitness)]

theorem State.captureGeometry_of_storage (s : State) {take : Nat} {e : TakeEntry} (he : s.entry take = some e) {b : Nat}
    {g : Bool} (hkind : e.kind = .storage b g) :
    s.captureGeometry take e = ⟨take, e.lines, take, b, trackCount e.tracks, 0⟩ := by
  simp [State.captureGeometry, TakeEntry.root, TakeEntry.aliasOffset, TakeEntry.base, hkind, he]

theorem State.captureGeometry_of_alias (s : State) (take : Nat) {e r : TakeEntry} {root off b : Nat} {g : Bool}
    (hkind : e.kind = .aliasOf root off) (hr : s.entry root = some r) (hroot : r.kind = .storage b g) :
    s.captureGeometry take e = ⟨take, e.lines, root, b, trackCount e.tracks, off⟩ := by
  simp [State.captureGeometry, TakeEntry.root, TakeEntry.aliasOffset, TakeEntry.base, hkind, hr, hroot]

/-- Settles O44: the arm from IDLE, the new line queue, the witness unit unchecked and the log emptied, before the fetcher
starts its first line. -/
theorem readArmsStartPass : Obligations.ReadArmsStartPass := by
  intro s take interp trigger lock preroll resume policy startFrame pace e i trig pol hs hidle hpos hle he hready hinterp
    htrig hlock hpolicy henabled hstart c hc pace'
  obtain ⟨hmode, fr, hrow⟩ : (c.1 = .replay ∨ c.1 = .witness) ∧ ∃ fr, exec c.2 s = .next (s.takeCommand fr fun s =>
      s.readArm c.1 take.toNat startFrame.toNat pace.toNat interp trigger lock preroll.toNat resume.toNat policy) := by
    rw [List.mem_pair] at hc
    obtain rfl | rfl := hc
    · exact ⟨.inl rfl, _, rfl⟩
    · exact ⟨.inr rfl, _, rfl⟩
  have hbody := State.readArm_of_granted (s := s.receive fr) (mode := c.1) (preroll := preroll.toNat)
    (resumePreroll := resume.toNat) (pace := pace.toNat) (pace' := pace') hidle ⟨hpos, hle⟩ he hready hinterp htrig hlock
    hpolicy henabled hstart rfl
  have harmed := (s.receive fr).readArmed_settle
    (readContext c.1 take.toNat startFrame.toNat pace' i trig (lock = 1) preroll.toNat resume.toNat pol e)
    ((s.receive fr).captureGeometry take.toNat e) (startFrame.toNat * e.k)
  generalize State.settle _ = armed at hbody harmed
  refine ⟨_, hrow.trans (congrArg Host.Outcome.next (State.takeCommand_of_body hs fr hbody)), ?_⟩
  clear_value pace'
  have hcontext := congrArg (·.context) harmed.pass
  have hsummary := congrArg (·.summary) harmed.pass
  refine ⟨?_, congrArg (·.state) harmed.pass, congrArg (·.pending) harmed.pass, congrArg (·.hasRun) harmed.pass,
    congrArg (Option.map _) hcontext, congrArg (Option.map _) hcontext, congrArg (Option.map _) hcontext,
    congrArg (Option.map _) hcontext, fun b g hkind => ?_, fun root off r b g hkind hr hroot => ?_,
    fun hreset => harmed.fetch hreset hmode (show _ < e.lines by omega), harmed.axis,
    congrArg (Option.map _) hsummary, harmed.timebase, harmed.lines, harmed.currentLine, harmed.log,
    harmed.devlog, harmed.flagPass, harmed.directory, harmed.recordQueue, fun a ha => ?_⟩
  · exact congrArg (fun b => some (Response.mk b _ 0)) (okOr_byte (by rw [bne_eq_false_iff_eq]))
  · exact harmed.geometry.trans (congrArg some ((s.receive fr).captureGeometry_of_storage he hkind))
  · exact harmed.geometry.trans (congrArg some ((s.receive fr).captureGeometry_of_alias _ hkind hr hroot))
  · have hwitness := harmed.witnessAxis a ha
    refine ⟨(congrArg (·.inject) hwitness).trans ?_, fun hsource => ?_, fun hnone => hwitness.trans (if_pos hnone)⟩
    · split
      · rfl
      · rfl
    · have hunchecked := hwitness.trans (if_neg hsource)
      exact ⟨congrArg (·.state) hunchecked, congrArg (·.history) hunchecked⟩

end Sys2Proof.Machine
end

section
/-! Proofs about the hand-back (R161 to R163), and about ABORT, CLEAR and PASS RESET (R38, R69 to R71, R95, R114, R142, R151,
R166, R186). -/

namespace Sys2Proof.Machine

/-! ## The hand-back of a target write (R161 to R163) -/

/-- An axis whose write is forwarded: the value is the last forwarded one, and the bounds that changed it are marked. -/
def Axis.forwarded (ax : Axis) (b : Bounded) : Axis :=
  { ax with lastForwarded := some b.value, clamp := ax.clamp || b.clamped, stepped := ax.stepped || b.stepped,
            clampSince := ax.clampSince || (b.clamped || b.stepped) }

/-- The bounds of a candidate for an axis, with the limits and the last forwarded value as they stand. -/
def State.bounds (s : State) (a : Nat) (c : Int) : Machine.Bounded :=
  applyBounds (s.axis a).entry.processing (s.axis a).lastForwarded c

theorem State.handBack_eq (s : State) (a : Nat) (c : Int) : s.handBack a c =
    let u := s.onAxis a fun ax => ax.forwarded (s.bounds a c)
    (if ((s.bounds a c).clamped || (s.bounds a c).stepped) = true then (u.raise .clamp).reportClamp else u).fixForward
      (s.bounds a c).value := rfl

theorem State.handBack_axes (s : State) (a : Nat) (c : Int) :
    (s.handBack a c).axes = (s.onAxis a fun ax => ax.forwarded (s.bounds a c)).axes := by
  rw [State.handBack_eq]
  dsimp only
  split <;> simp [State.fixForward]

theorem State.handBack_axis_ne (s : State) (a n : Nat) (c : Int) (h : n ≠ a) : (s.handBack a c).axis n = s.axis n := by
  rw [State.axis_congr (s.handBack_axes a c), s.axis_onAxis_ne a n _ h]

theorem State.handBack_axis_self (s : State) (a : Nat) (c : Int) (h : a < s.axes.length) :
    (s.handBack a c).axis a = (s.axis a).forwarded (s.bounds a c) := by
  rw [State.axis_congr (s.handBack_axes a c), s.axis_onAxis_self a _ h]

/-- The hand-back leaves the entry and the pending copy of every axis. -/
theorem State.handBack_axis_entry (s : State) (a n : Nat) (c : Int) :
    ((s.handBack a c).axis n).entry = (s.axis n).entry ∧ ((s.handBack a c).axis n).pending = (s.axis n).pending := by
  by_cases hn : n = a
  · subst hn
    rcases Nat.lt_or_ge n s.axes.length with hlt | hge
    · rw [s.handBack_axis_self n c hlt]
      exact ⟨rfl, rfl⟩
    · have hout : (s.handBack n c).axis n = s.axis n := by
        rw [State.axis_congr (s.handBack_axes n c)]
        simp [State.axis, List.getD, hge]
      rw [hout]
      exact ⟨rfl, rfl⟩
  · rw [s.handBack_axis_ne a n c hn]
    exact ⟨rfl, rfl⟩

theorem State.reportClamp_of_idle {s : State} (h : s.pass.state = .idle) : s.reportClamp = s := by
  simp [State.reportClamp, State.report, h]

/-- In IDLE nothing is reported to a pass. -/
theorem State.handBack_of_idle {s : State} (h : s.pass.state = .idle) (a : Nat) (c : Int) :
    (s.handBack a c).pass = s.pass ∧ (s.handBack a c).directory = s.directory := by
  rw [State.handBack_eq]
  dsimp only
  split
  · rw [State.reportClamp_of_idle (s := (s.onAxis a fun ax => ax.forwarded (s.bounds a c)).raise .clamp) h]
    exact ⟨rfl, rfl⟩
  · exact ⟨rfl, rfl⟩

theorem State.Raised.handBack {s : State} {ev : Event} (h : s.Raised ev) (a : Nat) (c : Int) :
    (s.handBack a c).Raised ev := by
  rw [State.handBack_eq]
  dsimp only
  split
  · have hraised : ((s.onAxis a fun ax => ax.forwarded (s.bounds a c)).raise .clamp).Raised ev :=
      State.Raised.raise (h.congr rfl) .clamp
    exact hraised.congr (by simp [State.fixForward])
  · exact h.congr rfl

/-! ## The end of a held write (R166) -/

theorem State.finishHeldWrite_cases (s : State) : (s.writeInProcessing = none ∧ s.finishHeldWrite = s)
    ∨ ∃ w, s.writeInProcessing = some w ∧ s.finishHeldWrite =
        ({ s with writeInProcessing := none, interpolator := { s.interpolator with inFlight := none } } : State).handBack
          w.axis w.value := by
  unfold State.finishHeldWrite
  split
  next w hw => exact .inr ⟨w, hw, rfl⟩
  next hnone => exact .inl ⟨hnone, rfl⟩

theorem State.finishHeldWrite_writeInProcessing (s : State) : s.finishHeldWrite.writeInProcessing = none := by
  rcases s.finishHeldWrite_cases with ⟨hnone, h⟩ | ⟨w, -, h⟩
  · rw [h, hnone]
  · simp [h]

theorem State.finishHeldWrite_of_idle {s : State} (hidle : s.pass.state = .idle) :
    s.finishHeldWrite.pass = s.pass ∧ s.finishHeldWrite.directory = s.directory := by
  rcases s.finishHeldWrite_cases with ⟨-, h⟩ | ⟨w, -, h⟩
  · rw [h]
    exact ⟨rfl, rfl⟩
  · rw [h]
    exact State.handBack_of_idle (by exact hidle) w.axis w.value

theorem State.finishHeldWrite_axis_entry (s : State) (n : Nat) :
    (s.finishHeldWrite.axis n).entry = (s.axis n).entry ∧ (s.finishHeldWrite.axis n).pending = (s.axis n).pending := by
  rcases s.finishHeldWrite_cases with ⟨-, h⟩ | ⟨w, -, h⟩
  · rw [h]
    exact ⟨rfl, rfl⟩
  · rw [h]
    exact State.handBack_axis_entry _ w.axis n w.value

theorem State.Raised.finishHeldWrite {s : State} {ev : Event} (h : s.Raised ev) : s.finishHeldWrite.Raised ev := by
  rcases s.finishHeldWrite_cases with ⟨-, hfinish⟩ | ⟨w, -, hfinish⟩
  · rwa [hfinish]
  · rw [hfinish]
    refine State.Raised.handBack ?_ w.axis w.value
    exact h.congr rfl

/-! ## The line queue of a pass in IDLE -/

/-- With no line in assembly and the pass in IDLE the end of a row leaves the line queue. -/
theorem State.settle_lineQueue_of_idle {s : State} (hidle : s.pass.state = .idle) (hnone : s.lineQueue.assembly = none) :
    s.settle.lineQueue = s.lineQueue := by
  have hstays : s.settleFetch = s := by
    rw [State.settleFetch, s.startFetch_of_inactive (by simp [State.queueActive, hidle]), ite_self]
  obtain ⟨hassembled, hnext⟩ := s.settleAt_fetcher false
  rw [hstays, State.settleAt_false] at hassembled hnext
  have hassembly : s.settle.lineQueue.assembly = none :=
    (LineQueue.assembled_eq_none_iff _).mp (hassembled.trans ((LineQueue.assembled_eq_none_iff _).mpr hnone))
  calc s.settle.lineQueue
      = ⟨s.settle.lineQueue.geometry, s.settle.lineQueue.lines, s.settle.lineQueue.assembly, s.settle.lineQueue.nextFetch,
          s.settle.lineQueue.currentLine⟩ := rfl
    _ = ⟨s.lineQueue.geometry, s.lineQueue.lines, s.lineQueue.assembly, s.lineQueue.nextFetch,
          s.lineQueue.currentLine⟩ := by rw [hassembly, hnext, hnone]; simp
    _ = s.lineQueue := rfl

/-! ## ABORT (R38, R70) -/

theorem State.updateOffset_summary (s : State) : ∃ f, s.updateOffset.pass.summary = s.pass.summary.map f := by
  unfold State.updateOffset
  dsimp only
  split
  · exact ⟨id, by simp⟩
  · unfold State.report
    split
    · exact ⟨id, by simp⟩
    · exact ⟨_, rfl⟩

/-- The pass at an abort: IDLE, with the outcome ABORTED. -/
def State.aborted (s : State) : State := (s.updateOffset.setOutcome .aborted).toIdle

/-- The recording at an abort is discarded and its take leaves RECORDING. -/
def State.abortedRecording (s : State) : State :=
  ((s.aborted.clearLineQueue.discardRecording).finishRecording true).endFrame

theorem State.abortPass_eq (s : State) : s.abortPass = s.abortedRecording.finishHeldWrite := rfl

theorem State.toIdle_pass (s : State) :
    s.toIdle.pass = { s.pass with state := .idle, pending := none, preroll := none } := by
  unfold State.toIdle State.setPass
  split
  next h =>
    have hidle : s.pass.state = .idle := h
    simp only [hidle]
  · rfl

theorem State.updateOffset_pass (s : State) :
    s.updateOffset.pass = { s.pass with summary := s.updateOffset.pass.summary } := by
  unfold State.updateOffset
  dsimp only
  split
  · rfl
  · unfold State.report
    split
    · rfl
    · rfl

theorem State.aborted_pass (s : State) : s.aborted.pass = { s.pass with
    state := .idle, pending := none, preroll := none
    summary := s.updateOffset.pass.summary.map fun m => { m with outcome := some .aborted } } := by
  rw [State.aborted, State.toIdle_pass, State.setOutcome, State.onSummary, State.updateOffset_pass]

theorem State.Raised.aborted {s : State} (h : s.pass.state ≠ .idle) : s.aborted.Raised .pass := by
  unfold State.aborted State.toIdle State.Raised
  rw [State.flag_setPass]
  simp [h]

theorem State.abortedRecording_pass (s : State) : s.abortedRecording.pass = s.aborted.pass := by
  simp [State.abortedRecording]

theorem State.abortPass_pass (s : State) : s.abortPass.pass = s.aborted.pass := by
  have hidle : s.abortedRecording.pass.state = .idle := by rw [s.abortedRecording_pass, s.aborted_pass]
  rw [s.abortPass_eq, (State.finishHeldWrite_of_idle hidle).1, s.abortedRecording_pass]

theorem State.abortPass_directory (s : State) : s.abortPass.directory = s.abortedRecording.directory := by
  have hidle : s.abortedRecording.pass.state = .idle := by rw [s.abortedRecording_pass, s.aborted_pass]
  rw [s.abortPass_eq, (State.finishHeldWrite_of_idle hidle).2]

/-- The end of a recording acts on the entry of the pass's take alone. -/
theorem State.entry_finishRecording {s : State} {c : PassContext} {e : TakeEntry} (hc : s.pass.context = some c)
    (he : s.entry c.take = some e) (truncated : Bool) : (s.finishRecording truncated).entry c.take =
      if e.state = .recording then e.leaveRecording truncated else some e := by
  obtain ⟨hpos, hle⟩ := s.entry_range c.take e he
  simp only [State.finishRecording, hc, he]
  split
  · exact s.entry_setEntry_self c.take _ hpos hle
  · exact he

theorem TakeEntry.leaveRecording_of_storage {e : TakeEntry} {b : Nat} {g : Bool} (h : e.kind = .storage b g)
    (truncated : Bool) : e.leaveRecording truncated = if e.written = 0 then none else some
      { e with state := .ready, kind := .storage b true, lines := e.written, truncated := truncated, written := 0 } := by
  rw [TakeEntry.leaveRecording, TakeEntry.setGuarded, h]

theorem State.abortPass_lineQueue (s : State) : s.abortPass.lineQueue = State.emptyLineQueue := by
  simp [State.abortPass_eq, State.abortedRecording]
  rfl

theorem State.Raised.abortPass {s : State} (h : s.pass.state ≠ .idle) : s.abortPass.Raised .pass := by
  rw [s.abortPass_eq]
  exact State.Raised.finishHeldWrite ((State.Raised.aborted h).congr (by simp [State.abortedRecording]))

/-- What an ABORT leaves once the free slot is decided (R70). -/
structure State.AbortedTo (s t : State) : Prop where
  pass : t.pass = s.aborted.pass
  position : t.timebase.position = none
  lock : t.timebase.lock = s.timebase.lock
  record : t.timebase.record = s.timebase.record
  lineQueue : t.lineQueue = State.emptyLineQueue
  closed : t.recording.isOpen = false
  queue : t.recording.queue = []
  held : t.writeInProcessing = none
  frameStart : t.witness.frameStart = none
  log : t.witness.log = s.witness.log
  order : t.directory.verifyOrder = s.directory.verifyOrder
  entry : ∀ n, t.entry n = s.abortedRecording.entry n

theorem State.abortPass_settle (s : State) : s.AbortedTo s.abortPass.settle where
  pass := by simp [s.abortPass_pass]
  position := by simp [State.abortPass_eq, State.abortedRecording, State.aborted, State.toIdle]
  lock := by simp
  record := by simp
  lineQueue := by
    rw [State.settle_lineQueue_of_idle (by rw [s.abortPass_pass, s.aborted_pass]) (by rw [s.abortPass_lineQueue]; rfl),
      s.abortPass_lineQueue]
  closed := by simp [State.abortPass_eq, State.abortedRecording, State.discardRecording]
  queue := by simp [State.abortPass_eq, State.abortedRecording, State.discardRecording]
  held := by simp [State.abortPass_eq, State.finishHeldWrite_writeInProcessing]
  frameStart := by simp [State.abortPass_eq, State.abortedRecording, State.endFrame]
  log := by simp
  order := by simp
  entry := State.entry_congr (by simp [s.abortPass_directory])

theorem State.AbortedTo.outcome {s t : State} (h : s.AbortedTo t) :
    t.pass.summary.map (·.outcome) = s.pass.summary.map fun _ => some PassOutcome.aborted := by
  obtain ⟨f, hf⟩ := s.updateOffset_summary
  rw [h.pass, s.aborted_pass, hf]
  simp [Function.comp_def]

/-- The entry of the pass's take after an abort (R38). -/
theorem State.entry_abortedRecording {s : State} {c : PassContext} {e : TakeEntry} (hc : s.pass.context = some c)
    (he : s.entry c.take = some e) : s.abortedRecording.entry c.take =
      if e.state = .recording then e.leaveRecording true else some e := by
  have hbefore : (s.aborted.clearLineQueue.discardRecording).directory = s.directory := by simp [State.aborted]
  have hcontext : (s.aborted.clearLineQueue.discardRecording).pass.context = some c := by simp [State.aborted, hc]
  rw [State.abortedRecording, State.entry_congr (s := (s.aborted.clearLineQueue.discardRecording).finishRecording true)
    (by simp)]
  exact State.entry_finishRecording hcontext ((State.entry_congr hbefore _).trans he) true

/-! ## CLEAR (R69, R95, R166) -/

/-- What a CLEAR does before the free slot is decided. -/
def State.cleared (s : State) : State := s.toIdle.clearLineQueue.closeRecording.endFrame.finishHeldWrite

theorem State.cleared_idle (s : State) : (s.toIdle.clearLineQueue.closeRecording.endFrame).pass.state = .idle := by
  simp [State.toIdle_pass]

theorem State.cleared_pass (s : State) :
    s.cleared.pass = { s.pass with state := .idle, pending := none, preroll := none } := by
  rw [State.cleared, (State.finishHeldWrite_of_idle s.cleared_idle).1]
  simp [State.toIdle_pass]

theorem State.cleared_directory (s : State) : s.cleared.directory = s.directory := by
  rw [State.cleared, (State.finishHeldWrite_of_idle s.cleared_idle).2]
  simp

theorem State.cleared_lineQueue (s : State) : s.cleared.lineQueue = State.emptyLineQueue := by
  simp [State.cleared]
  rfl

theorem State.Raised.cleared {s : State} (h : s.pass.state ≠ .idle) : s.cleared.Raised .pass := by
  refine State.Raised.finishHeldWrite ?_
  have hidle : s.toIdle.Raised .pass := by
    unfold State.toIdle State.Raised
    rw [State.flag_setPass]
    simp [h]
  exact hidle.congr (by simp)

/-- What a CLEAR leaves once the free slot is decided. -/
structure State.ClearedTo (s t : State) : Prop where
  pass : t.pass = { s.pass with state := .idle, pending := none, preroll := none }
  position : t.timebase.position = none
  lineQueue : t.lineQueue = State.emptyLineQueue
  closed : t.recording.isOpen = false
  held : t.writeInProcessing = none
  directory : t.directory = s.directory
  log : t.witness.log = s.witness.log

theorem State.clear_settle (s : State) : s.ClearedTo s.cleared.settle where
  pass := by simp [s.cleared_pass]
  position := by simp [State.cleared, State.toIdle]
  lineQueue := by
    rw [State.settle_lineQueue_of_idle (by rw [s.cleared_pass]) (by rw [s.cleared_lineQueue]; rfl), s.cleared_lineQueue]
  closed := by simp [State.cleared, State.closeRecording]
  held := by simp [State.cleared, State.finishHeldWrite_writeInProcessing]
  directory := by simp [s.cleared_directory]
  log := by simp [State.cleared]

/-- Settles O49. -/
theorem passReturnsToIdle : Obligations.PassReturnsToIdle := by
  refine fun s hs => ⟨fun hidle => congrArg Host.Outcome.next ?_, fun hstate => ?_,
    fun hstate => congrArg Host.Outcome.next ?_, fun hstate => ?_⟩
  · exact State.takeCommand_eq_answered hs (if_pos hidle)
  · have hrow : exec .abort s = .next (s.takeCommand ⟨0x36, []⟩ (commandBody .abort)) := rfl
    have hbody : commandBody .abort (s.receive ⟨0x36, []⟩) = accept (s.receive ⟨0x36, []⟩).abortPass.settle := if_neg hstate
    have habort := (s.receive ⟨0x36, []⟩).abortPass_settle
    have hflag : (s.receive ⟨0x36, []⟩).abortPass.settle.flag .pass = true := (State.Raised.abortPass (by exact hstate)).settle
    generalize (s.receive ⟨0x36, []⟩).abortPass.settle = t at hbody habort hflag
    have hpass := habort.pass.trans (State.aborted_pass _)
    refine ⟨_, hrow.trans (congrArg Host.Outcome.next (State.takeCommand_of_body hs ⟨0x36, []⟩ hbody)), rfl,
      congrArg (·.state) hpass, congrArg (·.pending) hpass, congrArg (·.preroll) hpass, congrArg (·.context) hpass,
      habort.outcome, habort.position, habort.lock, habort.record, habort.lineQueue, habort.closed, habort.queue,
      habort.held, habort.frameStart, habort.log, habort.order, hflag, fun c e b g _ hc he hkind => ?_⟩
    have hentry := (habort.entry c.take).trans (State.entry_abortedRecording (s := s.receive ⟨0x36, []⟩) hc he)
    exact ⟨fun hrecording => hentry.trans ((if_pos hrecording).trans (TakeEntry.leaveRecording_of_storage hkind true)),
      fun hrecording => hentry.trans (if_neg hrecording)⟩
  · exact State.takeCommand_eq_answered hs (if_neg hstate)
  · have hrow : exec .clear s = .next (s.takeCommand ⟨0x37, []⟩ (commandBody .clear)) := rfl
    have hbody : commandBody .clear (s.receive ⟨0x37, []⟩) = accept (s.receive ⟨0x37, []⟩).cleared.settle := if_pos hstate
    have hclear := (s.receive ⟨0x37, []⟩).clear_settle
    have hflag : (s.receive ⟨0x37, []⟩).cleared.settle.flag .pass = true :=
      (State.Raised.cleared (s := s.receive ⟨0x37, []⟩) (show s.pass.state ≠ .idle by simp [hstate])).settle
    generalize (s.receive ⟨0x37, []⟩).cleared.settle = t at hbody hclear hflag
    exact ⟨_, hrow.trans (congrArg Host.Outcome.next (State.takeCommand_of_body hs ⟨0x37, []⟩ hbody)), rfl,
      congrArg (·.state) hclear.pass, congrArg (·.context) hclear.pass, congrArg (·.hasRun) hclear.pass,
      congrArg (·.summary) hclear.pass, hclear.position, hclear.lineQueue, hclear.closed, hclear.held, hclear.directory,
      hclear.log, hflag⟩

/-! ## PASS RESET (R71, R142, R151, R186) -/

theorem State.flag_handBack (s : State) (a : Nat) (c : Int) {ev : Event} (h : ev ≠ .clamp) :
    (s.handBack a c).flag ev = s.flag ev := by
  rw [State.handBack_eq]
  dsimp only
  split
  · have hraised : ((s.onAxis a fun ax => ax.forwarded (s.bounds a c)).raise .clamp).flag ev = s.flag ev := by
      rw [State.flag_raise, decide_eq_false h, Bool.or_false]
      rfl
    exact (State.flag_congr (by simp [State.fixForward]) ev).trans hraised
  · rfl

theorem State.flag_finishHeldWrite (s : State) {ev : Event} (h : ev ≠ .clamp) : s.finishHeldWrite.flag ev = s.flag ev := by
  rcases s.finishHeldWrite_cases with ⟨-, hfinish⟩ | ⟨w, -, hfinish⟩
  · rw [hfinish]
  · rw [hfinish, State.flag_handBack _ _ _ h]
    rfl

/-- An abort raises SLIP, PASS and CLAMP at most. -/
theorem State.flag_abortPass (s : State) {ev : Event} (hslip : ev ≠ .slip) (hpass : ev ≠ .pass) (hclamp : ev ≠ .clamp) :
    s.abortPass.flag ev = s.flag ev := by
  have haborted : s.aborted.flag ev = s.updateOffset.flag ev :=
    (State.flag_setPass_of_ne _ hpass _).trans (State.flag_congr (by simp) ev)
  rw [s.abortPass_eq, State.flag_finishHeldWrite _ hclamp, State.flag_congr (s := s.aborted) (by simp [State.abortedRecording]),
    haborted, State.flag_updateOffset _ hslip]

theorem State.activatePending_axis (s : State) (a : Nat) : s.activatePending.axis a = (s.axis a).activate := by
  simp only [State.axis, State.activatePending, List.getD_eq_getElem?_getD, List.getElem?_map]
  cases s.axes[a]? <;> rfl

/-- An axis after its pending copy has become active. -/
theorem Axis.activate_eq (ax : Axis) : ax.activate.pending = none ∧ ax.activate.entry.enabled = ax.entry.enabled
    ∧ ax.activate.entry.targetAddr = ax.entry.targetAddr
    ∧ ax.activate.entry.processing = ax.pending.getD ax.entry.processing := by
  unfold Axis.activate
  split
  next p hp => simp [hp]
  next hp => simp [hp]

theorem State.passResetRest_witnessAxis (s : State) (a : Nat) : s.passResetRest.witnessAxis a = State.resetWitnessAxis := by
  simp only [State.witnessAxis, State.passResetRest, List.getD_eq_getElem?_getD, List.getElem?_map]
  cases s.emptyLog.endFrame.activatePending.witness.axes[a]? <;> rfl

theorem State.passResetRest_axis (s : State) (a : Nat) : s.passResetRest.axis a = (s.axis a).activate := by
  rw [State.axis_congr (s := s.emptyLog.endFrame.activatePending) (t := s.passResetRest) rfl, State.activatePending_axis,
    State.axis_congr (s := s) (by simp)]

theorem State.flag_passResetRest (s : State) (ev : Event) :
    s.passResetRest.flag ev = (decide (ev = .reset) && s.flag .reset) := by
  have hmasked : s.passResetRest.flag ev = (s.emptyLog.endFrame.activatePending.flag ev && Event.reset.mask.getLsbD ev.bit) := by
    simp [State.flag, State.passResetRest]
  have hbefore : s.emptyLog.endFrame.activatePending.flag ev = s.emptyLog.flag ev := State.flag_congr (by simp) ev
  rw [hmasked, hbefore, Event.getLsbD_mask, State.flag_emptyLog]
  by_cases h : ev = .reset
  · subst h
    simp
  · simp [h]

/-- The part as PASS RESET finds it after the abort (R71). -/
def State.resetAborted (s : State) : State := if s.pass.state = .idle then s else s.abortPass.settle

theorem State.resetAborted_cases {P : State → Prop} (s : State) (hidle : s.pass.state = .idle → P s)
    (habort : s.pass.state ≠ .idle → P s.abortPass.settle) : P s.resetAborted := by
  unfold State.resetAborted
  split
  next h => exact hidle h
  next h => exact habort h

/-- What the abort of a PASS RESET leaves, where there is one. -/
structure State.ResetAborted (s t : State) : Prop where
  idle : t.pass.state = .idle
  entry : ∀ a, (t.axis a).entry = (s.axis a).entry ∧ (t.axis a).pending = (s.axis a).pending
  flag : t.flag .reset = s.flag .reset
  active : t.timebase.active = s.timebase.active
  pending : t.timebase.pending = s.timebase.pending
  lock : t.timebase.lock = s.timebase.lock
  regionBase : t.directory.regionBase = s.directory.regionBase
  regionSize : t.directory.regionSize = s.directory.regionSize
  order : t.directory.verifyOrder = s.directory.verifyOrder
  mask : t.port.mask = s.port.mask
  directory : s.pass.state = .idle → t.directory = s.directory

theorem State.resetAborted_spec (s : State) : s.ResetAborted s.resetAborted := by
  refine s.resetAborted_cases (fun hidle => ?_) fun hstate => ?_
  · exact ⟨hidle, fun _ => ⟨rfl, rfl⟩, rfl, rfl, rfl, rfl, rfl, rfl, rfl, rfl, fun _ => rfl⟩
  · exact {
      idle := by rw [(s.abortPass_settle).pass, s.aborted_pass]
      entry a := by
        rw [State.axis_congr (s := s.abortPass) (by simp), s.abortPass_eq]
        obtain ⟨hentry, hpending⟩ := s.abortedRecording.finishHeldWrite_axis_entry a
        rw [hentry, hpending, State.axis_congr (s := s) (by simp [State.abortedRecording, State.aborted])]
        exact ⟨rfl, rfl⟩
      flag := by
        rw [State.flag_settle _ (by decide) (by decide), s.flag_abortPass (by decide) (by decide) (by decide)]
      active := by simp
      pending := by simp
      lock := by simp
      regionBase := by simp
      regionSize := by simp
      order := by simp
      mask := by simp
      directory := fun h => absurd h hstate }

/-- Settles O50. -/
theorem passResetClearsPass : Obligations.PassResetClearsPass := by
  intro s hs
  have hrow : exec .passReset s = .next (s.takeCommand ⟨0x38, []⟩ (commandBody .passReset)) := rfl
  have hbody : commandBody .passReset (s.receive ⟨0x38, []⟩) = accept (s.receive ⟨0x38, []⟩).resetAborted.passResetRest := rfl
  have habort := (s.receive ⟨0x38, []⟩).resetAborted_spec
  generalize (s.receive ⟨0x38, []⟩).resetAborted = u at hbody habort
  have haxis (a : Nat) : (u.passResetRest.axis a).pending = none
      ∧ (u.passResetRest.axis a).entry.enabled = (s.axis a).entry.enabled
      ∧ (u.passResetRest.axis a).entry.targetAddr = (s.axis a).entry.targetAddr
      ∧ (u.passResetRest.axis a).entry.processing = (s.axis a).pending.getD (s.axis a).entry.processing := by
    obtain ⟨hentry, hpending⟩ := habort.entry a
    obtain ⟨hnone, henabled, htarget, hprocessing⟩ := (u.axis a).activate_eq
    rw [u.passResetRest_axis, hnone, henabled, htarget, hprocessing, hentry, hpending]
    exact ⟨rfl, rfl, rfl, rfl⟩
  have hflag (ev : Event) : u.passResetRest.flag ev = (decide (ev = .reset) && s.flag .reset) := by
    rw [u.flag_passResetRest, habort.flag]
    rfl
  have hpass : u.passResetRest.pass = { u.pass with summary := none, context := none, hasRun := false } := by
    simp [State.passResetRest]
  refine ⟨_, hrow.trans (congrArg Host.Outcome.next (State.takeCommand_of_body hs ⟨0x38, []⟩ hbody)), rfl,
    (congrArg (·.state) hpass).trans habort.idle, congrArg (·.context) hpass, congrArg (·.summary) hpass,
    congrArg (·.hasRun) hpass, ?_, rfl, u.passResetRest_witnessAxis, haxis, rfl, rfl, rfl, rfl, hflag, rfl, ?_⟩
  · show u.passResetRest.witness.log = []
    simp [State.passResetRest, State.emptyLog_log]
  · have hdirectory : u.passResetRest.directory = u.directory := by simp
    have hframe : u.passResetRest.timebase.active = u.timebase.active ∧ u.passResetRest.timebase.pending = u.timebase.pending
        ∧ u.passResetRest.timebase.lock = u.timebase.lock ∧ u.passResetRest.port.mask = u.port.mask := by simp
    obtain ⟨hactive, hpending, hlock, hmask⟩ := hframe
    exact ⟨hactive.trans habort.active, hpending.trans habort.pending, hlock.trans habort.lock,
      (congrArg (·.regionBase) hdirectory).trans habort.regionBase,
      (congrArg (·.regionSize) hdirectory).trans habort.regionSize,
      (congrArg (·.verifyOrder) hdirectory).trans habort.order, hmask.trans habort.mask,
      fun hidle => hdirectory.trans (habort.directory hidle)⟩

end Sys2Proof.Machine
end

section
/-! Proofs about the three bounds of a forwarded value (R161, R162). -/

namespace Sys2Proof.Machine

section
variable {p : Processing} {last : Option Int} {c : Int}

/-- The three values of R161, with what each bound changed. -/
theorem applyBounds_eq (p : Processing) (last : Option Int) (c : Int) :
    let soft := clampInt p.min p.max
    let near := stepLimit p.step last
    applyBounds p last c = ⟨soft (near (soft c)), soft c != c || soft (near (soft c)) != near (soft c),
      near (soft c) != soft c⟩ := rfl

theorem stepLimit_of_free (h : p.step = 0 ∨ last = none) : stepLimit p.step last c = c := by
  obtain h | rfl := h
  · cases last with
    | none => rfl
    | some l => exact if_pos h
  · rfl

theorem stepLimit_of_last (h : p.step ≠ 0) {l : Int} : stepLimit p.step (some l) c = clampInt (l - p.step) (l + p.step) c :=
  if_neg h

theorem clampInt_of_lt {lo hi v : Int} (h : v < lo) : clampInt lo hi v = lo := if_pos h

theorem clampInt_of_gt {lo hi v : Int} (hv : hi < v) (h : lo ≤ v) : clampInt lo hi v = hi := by
  rw [clampInt, if_neg (by omega), if_pos hv]

/-- A candidate for which neither the first bound nor the step limit changes anything is forwarded. -/
theorem applyBounds_unchanged (hmin : p.min ≤ c) (hmax : c ≤ p.max) (hnear : stepLimit p.step last c = c) :
    applyBounds p last c = ⟨c, false, false⟩ := by
  simp [applyBounds_eq, clampInt_of_mem p.min p.max c hmin hmax, hnear]

/-- A candidate outside the soft limits with no step limit is forwarded as the limit. -/
theorem applyBounds_soft {limit : Int} (hfree : p.step = 0 ∨ last = none) (hlimits : p.min ≤ limit ∧ limit ≤ p.max)
    (hclamp : clampInt p.min p.max c = limit) (hc : limit ≠ c) : applyBounds p last c = ⟨limit, true, false⟩ := by
  simp [applyBounds_eq, hclamp, stepLimit_of_free hfree, clampInt_of_mem _ _ _ hlimits.1 hlimits.2, hc]

/-- A candidate within the soft limits that the step limit changes. -/
theorem applyBounds_stepped {limit : Int} (hmin : p.min ≤ c) (hmax : c ≤ p.max) (hnear : stepLimit p.step last c = limit)
    (hc : limit ≠ c) :
    applyBounds p last c = ⟨clampInt p.min p.max limit, clampInt p.min p.max limit != limit, true⟩ := by
  simp [applyBounds_eq, clampInt_of_mem p.min p.max c hmin hmax, hnear, hc]

/-- From a last forwarded value within the soft limits the value goes at most one step. -/
theorem applyBounds_value_near {l : Int} (hstep : 0 < p.step) (hmin : p.min ≤ l) (hmax : l ≤ p.max) :
    l - p.step ≤ (applyBounds p (some l) c).value ∧ (applyBounds p (some l) c).value ≤ l + p.step := by
  rw [applyBounds_eq]
  dsimp only
  rw [stepLimit_of_last (by omega)]
  obtain ⟨hlow, hhigh⟩ := clampInt_bounds (l - p.step) (l + p.step) (clampInt p.min p.max c) (by omega)
  generalize clampInt (l - p.step) (l + p.step) (clampInt p.min p.max c) = x at hlow hhigh ⊢
  unfold clampInt
  split
  · omega
  · split <;> omega

end

/-- Settles O39: the value by R161's three steps, then each way the bounds can act. -/
theorem boundsKeepSoftLimits : Obligations.BoundsKeepSoftLimits := by
  intro p last c hlimits b soft near
  refine ⟨fun _ => ⟨rfl, ?_, ?_⟩, applyBounds_value_bounds p last c hlimits, fun hmin hmax hnear => ?_,
    fun l hstep hlast hmin hmax => ?_, fun hfree => ⟨fun hc => ?_, fun hc => ?_⟩, fun l hstep hlast hmin hmax => ?_⟩
  · show (soft c != c || soft (near (soft c)) != near (soft c)) = true ↔ _
    rw [Bool.or_eq_true, bne_iff_ne, bne_iff_ne]
  · show (near (soft c) != soft c) = true ↔ _
    rw [bne_iff_ne]
  · refine applyBounds_unchanged hmin hmax ?_
    by_cases hfree : p.step = 0 ∨ last = none
    · exact stepLimit_of_free hfree
    · obtain ⟨hstep, hsome⟩ := not_or.mp hfree
      obtain ⟨l, rfl⟩ := Option.ne_none_iff_exists'.mp hsome
      obtain ⟨hlow, hhigh⟩ := hnear l hstep rfl
      rw [stepLimit_of_last hstep, clampInt_of_mem _ _ _ hlow hhigh]
  · subst hlast
    exact applyBounds_value_near hstep hmin hmax
  · exact applyBounds_soft hfree ⟨Int.le_refl _, hlimits⟩ (clampInt_of_lt hc) (by omega)
  · exact applyBounds_soft hfree ⟨hlimits, Int.le_refl _⟩ (clampInt_of_gt hc (by omega)) (by omega)
  · subst hlast
    have hnear (x : Int) : stepLimit p.step (some l) x = clampInt (l - p.step) (l + p.step) x := stepLimit_of_last (by omega)
    have habove (hc : l + p.step < c) : stepLimit p.step (some l) c = l + p.step :=
      (hnear c).trans (clampInt_of_gt hc (by omega))
    have hbelow (hc : c < l - p.step) : stepLimit p.step (some l) c = l - p.step := (hnear c).trans (clampInt_of_lt hc)
    refine ⟨fun hc hlow => ?_, fun hc hhigh => ?_, fun hlow => ?_, fun hhigh => ?_⟩
    · rw [show b = _ from applyBounds_stepped hmin hmax (habove hc) (by omega), clampInt_of_mem _ _ _ hlow (by omega)]
      simp
    · rw [show b = _ from applyBounds_stepped hmin hmax (hbelow hc) (by omega), clampInt_of_mem _ _ _ (by omega) hhigh]
      simp
    · rw [show b = _ from applyBounds_stepped hmin hmax (habove (by omega)) (by omega), clampInt_of_lt hlow,
        bne_iff_ne.mpr (by omega)]
    · rw [show b = _ from applyBounds_stepped hmin hmax (hbelow (by omega)) (by omega), clampInt_of_gt hhigh (by omega),
        bne_iff_ne.mpr (by omega)]

end Sys2Proof.Machine
end

section
/-! Proofs about the taking of a transaction and the arbiter of the downstream port (R34, R93, R107, R131 to R146). -/

namespace Sys2Proof.Machine

/-! ## The classes of an address (R133) -/

section
variable {s : State} (hreset : s.resetControl.inForce = false) {addr : Nat}
include hreset

theorem State.classify_of_target {a : Nat} (h : s.targetAxis addr = some a) : s.classify addr = (.target, some a) := by
  simp [State.classify, hreset, h]

theorem State.classify_of_no_target (h : s.targetAxis addr = none) :
    (s.classify addr).1 ≠ .target ∧ ((s.classify addr).1 = .region → s.inRegion addr = true) := by
  simp only [State.classify, hreset, Bool.false_eq_true, if_false, h]
  split
  · exact ⟨by simp, by simp⟩
  · split
    next hin => exact ⟨by simp, fun _ => hin⟩
    · exact ⟨by simp, by simp⟩

end

/-! ## The checks at the grant (R140, R141, R143) -/

/-- The write addresses an enabled target word without being the TARGET write the axis unit processed (R143). -/
def State.offCheck (s : State) (t : UpstreamTxn) : Prop := t.cls ≠ .target ∧ (s.targetAxis t.address).isSome = true

/-- The write addresses a protected word of the region (R140). -/
def State.guardedWrite (s : State) (t : UpstreamTxn) : Prop :=
  (t.cls = .region ∨ s.inRegion t.address = true) ∧ s.directory.wordProtected t.address = true

section
variable {s : State} {t : UpstreamTxn}

theorem State.grantDecision_of_read (h : t.write = false) : s.grantDecision t = .forward false := by
  simp [State.grantDecision, h]

theorem State.grantDecision_of_offCheck (hreset : s.resetControl.inForce = false) (hwrite : t.write = true)
    (h : s.offCheck t) : s.grantDecision t = .blockPartial := by
  rw [State.grantDecision, if_neg (by simp [hreset, hwrite]), if_pos (by simpa [State.offCheck] using h)]

theorem State.grantDecision_of_guarded (hreset : s.resetControl.inForce = false) (hwrite : t.write = true)
    (hoff : ¬ s.offCheck t) (h : s.guardedWrite t) : s.grantDecision t = .blockProtected := by
  rw [State.grantDecision, if_neg (by simp [hreset, hwrite]), if_neg (by simpa [State.offCheck] using hoff)]
  exact if_pos (by simpa [State.guardedWrite] using h)

theorem State.grantDecision_of_unchecked (hreset : s.resetControl.inForce = false) (hwrite : t.write = true)
    (hoff : ¬ s.offCheck t) (h : ¬ s.guardedWrite t) :
    s.grantDecision t = .forward (t.cls == .region || s.inRegion t.address) := by
  rw [State.grantDecision, if_neg (by simp [hreset, hwrite]), if_neg (by simpa [State.offCheck] using hoff)]
  exact if_neg (by simpa [State.guardedWrite] using h)

/-- A forwarded write passed both checks. -/
theorem State.checks_of_forward (hreset : s.resetControl.inForce = false) (hwrite : t.write = true) {notice : Bool}
    (h : s.grantDecision t = .forward notice) : ¬ s.offCheck t ∧ ¬ s.guardedWrite t := by
  by_cases hoff : s.offCheck t
  · rw [State.grantDecision_of_offCheck hreset hwrite hoff] at h
    cases h
  · by_cases hguarded : s.guardedWrite t
    · rw [State.grantDecision_of_guarded hreset hwrite hoff hguarded] at h
      cases h
    · exact ⟨hoff, hguarded⟩

theorem State.grantPassThrough_of_forward {notice : Bool} (h : s.grantDecision t = .forward notice) :
    s.grantPassThrough t = s.startPassThrough t notice := by
  rw [State.grantPassThrough, h]

theorem State.grantPassThrough_of_blockPartial (h : s.grantDecision t = .blockPartial) :
    s.grantPassThrough t = s.countPartial.completeUpstream 0 := by
  rw [State.grantPassThrough, h]

theorem State.grantPassThrough_of_blockProtected (h : s.grantDecision t = .blockProtected) :
    s.grantPassThrough t = (s.countProtect t.address).completeUpstream 0 := by
  rw [State.grantPassThrough, h]

end

theorem State.grantDecision_congr {s u : State} (hreset : u.resetControl.inForce = s.resetControl.inForce)
    (haxes : u.axes = s.axes) (hdirectory : u.directory = s.directory) (t : UpstreamTxn) :
    u.grantDecision t = s.grantDecision t := by
  have htarget : u.targetAxis t.address = s.targetAxis t.address := by simp only [State.targetAxis, haxes]
  have hregion : u.inRegion t.address = s.inRegion t.address := by simp only [State.inRegion, hdirectory]
  simp only [State.grantDecision, hreset, htarget, hregion, hdirectory]

theorem State.completeUpstream_of_some {s : State} {t : UpstreamTxn} (h : s.memory.upstream = some t) (data : Word) :
    s.completeUpstream data = { s with
      memory := { s.memory with upstream := none }
      lastUpstream := some ⟨t.address, t.write, if t.write then t.data else data⟩ } := by
  simp only [State.completeUpstream, h]

/-! ## The take engine's requests (R92, R93, R101, R107, R144, R146) -/

theorem State.takeUrgent_congr {s u : State} (hreset : u.resetControl = s.resetControl) (hrecording : u.recording = s.recording)
    (hqueue : u.lineQueue = s.lineQueue) (hpass : u.pass = s.pass) : u.takeUrgent = s.takeUrgent := by
  simp only [State.takeUrgent, State.passWork, State.lineUrgent, State.readsTake, State.mode, hreset, hrecording, hqueue,
    hpass]

/-- The take engine never requests for the pass-through port, and a verify read only without pass work. -/
theorem State.takeRequest_owner {s : State} {r : DownstreamTxn} (h : s.takeRequest = some r) :
    r.owner ≠ .passThrough ∧ (r.owner = .verifyRead → s.passWork = false) := by
  unfold State.takeRequest at h
  split at h
  · cases h
  next hreset =>
    split at h
    next wp hwriter =>
      split at h
      · cases h
      · obtain ⟨⟨addr, data⟩, -, rfl⟩ := Option.map_eq_some_iff.mp h
        exact ⟨by simp, by simp⟩
    next hwriter =>
      split at h
      next g a hg ha =>
        split at h
        · cases h
        · cases h
          exact ⟨by simp, by simp⟩
      next hnone =>
        have hwork : s.passWork = false := by
          cases hg : s.lineQueue.geometry with
          | none => simp [State.passWork, hwriter, hg]
          | some g =>
            cases ha : s.lineQueue.assembly with
            | none => simp [State.passWork, hwriter, ha]
            | some a => exact absurd ha (hnone g a hg)
        split at h
        · split at h
          · cases h
          · obtain ⟨e, -, rfl⟩ := Option.map_eq_some_iff.mp h
            exact ⟨by simp, fun _ => hwork⟩
        · cases h

theorem State.takeUrgent_of_verifyRead {s : State} {r : DownstreamTxn} (h : s.takeRequest = some r)
    (howner : r.owner = .verifyRead) : s.takeUrgent = false := by
  rw [State.takeUrgent, (State.takeRequest_owner h).2 howner, Bool.false_and]

/-! ## One decision (R144, R145) -/

@[simp] theorem State.grantTake_downstream (s : State) (r : DownstreamTxn) : (s.grantTake r).memory.downstream = some r := by
  unfold State.grantTake State.startTake
  dsimp only
  split <;> rfl

@[simp] theorem State.grantTake_urgentRun (s : State) (r : DownstreamTxn) :
    (s.grantTake r).memory.urgentRun = if s.takeUrgent = true then min 4 (s.memory.urgentRun + 1) else 0 := by
  unfold State.grantTake State.startTake
  dsimp only
  split <;> rfl

section
variable {s : State} (hfree : s.memory.downstream = none)
include hfree

/-- The take engine is granted the slot: alone, or urgent below a run of 4. -/
theorem State.arbitrate_of_take {r : DownstreamTxn} (hr : s.takeRequest = some r)
    (h : s.waitingUpstream = none ∨ (s.takeUrgent = true ∧ s.memory.urgentRun < 4)) : s.arbitrate = s.grantTake r := by
  rw [State.arbitrate, if_neg (by simp [hfree]), hr]
  cases ht : s.waitingUpstream with
  | none => rfl
  | some t => exact if_pos (by simpa using h.resolve_left (by simp [ht]))

/-- Pass-through wins the slot: alone, or over a take engine that is not urgent or has had its four. -/
theorem State.arbitrate_of_passThrough {t : UpstreamTxn} (ht : s.waitingUpstream = some t)
    (h : s.takeRequest = none ∨ s.takeUrgent = false ∨ 4 ≤ s.memory.urgentRun) :
    s.arbitrate =
      let u := (s.setUrgentRun 0).grantPassThrough t
      match s.takeRequest with
      | none => u
      | some r => if u.memory.downstream.isSome then u else u.grantTake r := by
  rw [State.arbitrate, if_neg (by simp [hfree]), ht]
  cases hr : s.takeRequest with
  | none => rfl
  | some r =>
    refine if_neg ?_
    obtain h | h := h.resolve_left (by simp [hr]) <;> simp [h]

/-- A forwarded pass-through transaction takes the slot. -/
theorem State.arbitrate_of_forward {t : UpstreamTxn} (ht : s.waitingUpstream = some t) {notice : Bool}
    (hdecision : s.grantDecision t = .forward notice)
    (h : s.takeRequest = none ∨ s.takeUrgent = false ∨ 4 ≤ s.memory.urgentRun) :
    s.arbitrate = (s.setUrgentRun 0).startPassThrough t notice := by
  have hgrant : (s.setUrgentRun 0).grantPassThrough t = (s.setUrgentRun 0).startPassThrough t notice :=
    State.grantPassThrough_of_forward hdecision
  rw [State.arbitrate_of_passThrough hfree ht h, hgrant]
  cases s.takeRequest <;> rfl

end

/-- A blocked write leaves the slot free and its port empty. -/
structure State.Blocked (s u : State) : Prop where
  upstream : u.memory.upstream = none
  downstream : u.memory.downstream = s.memory.downstream
  urgentRun : u.memory.urgentRun = s.memory.urgentRun
  recording : u.recording = s.recording
  lineQueue : u.lineQueue = s.lineQueue
  pass : u.pass = s.pass
  reset : u.resetControl = s.resetControl

theorem State.grantPassThrough_blocked {s : State} {t : UpstreamTxn} (ht : s.memory.upstream = some t)
    (h : s.grantDecision t = .blockPartial ∨ s.grantDecision t = .blockProtected) : s.Blocked (s.grantPassThrough t) := by
  obtain h | h := h
  · rw [State.grantPassThrough_of_blockPartial h, State.completeUpstream_of_some (s := s.countPartial) ht]
    exact ⟨rfl, rfl, rfl, rfl, rfl, rfl, rfl⟩
  · rw [State.grantPassThrough_of_blockProtected h,
      State.completeUpstream_of_some (s := s.countProtect t.address) ht]
    exact ⟨rfl, rfl, rfl, rfl, rfl, rfl, rfl⟩

theorem State.upstream_of_waiting {s : State} {t : UpstreamTxn} (h : s.waitingUpstream = some t) :
    s.memory.upstream = some t ∧ t.phase = .waiting := by
  unfold State.waitingUpstream at h
  obtain ⟨hsome, hphase⟩ := Option.filter_eq_some_iff.mp h
  exact ⟨hsome, by simpa using hphase⟩

/-- A slot whose pass-through write is blocked is decided again for the take engine, from an urgent run of 0. -/
theorem State.arbitrate_of_blocked {s : State} (hfree : s.memory.downstream = none) {t : UpstreamTxn} {r : DownstreamTxn}
    (ht : s.waitingUpstream = some t) (hr : s.takeRequest = some r) (hrun : s.takeUrgent = false ∨ 4 ≤ s.memory.urgentRun)
    (h : s.grantDecision t = .blockPartial ∨ s.grantDecision t = .blockProtected) :
    s.arbitrate = ((s.setUrgentRun 0).grantPassThrough t).grantTake r := by
  obtain ⟨hupstream, -⟩ := State.upstream_of_waiting ht
  have hblocked := State.grantPassThrough_blocked (s := s.setUrgentRun 0) (t := t) hupstream h
  have hnone : ((s.setUrgentRun 0).grantPassThrough t).memory.downstream = none := hblocked.downstream.trans hfree
  rw [State.arbitrate_of_passThrough hfree ht (.inr hrun), hr]
  exact if_neg (by simp [hnone])

/-- A pass-through transaction that starts at a decision is the waiting one, forwarded by its checks. -/
theorem State.arbitrate_started {s : State} (hfree : s.memory.downstream = none) {d : DownstreamTxn}
    (hd : s.arbitrate.memory.downstream = some d) (howner : d.owner = .passThrough) :
    ∃ t notice, s.waitingUpstream = some t ∧ s.grantDecision t = .forward notice
      ∧ d = ⟨.passThrough, t.address, t.write, t.lanes, t.forwardData.getD t.data, false, notice⟩ := by
  have htake {u : State} {r : DownstreamTxn} (hr : s.takeRequest = some r)
      (h : (u.grantTake r).memory.downstream = some d) : False := by
    rw [State.grantTake_downstream, Option.some.injEq] at h
    exact (State.takeRequest_owner hr).1 (h ▸ howner)
  cases ht : s.waitingUpstream with
  | none =>
    exfalso
    cases hr : s.takeRequest with
    | none =>
      rw [s.arbitrate_of_none ht hr, hfree] at hd
      cases hd
    | some r =>
      rw [State.arbitrate_of_take hfree hr (.inl ht)] at hd
      exact htake hr hd
  | some t =>
    by_cases hurgent : s.takeRequest ≠ none ∧ s.takeUrgent = true ∧ s.memory.urgentRun < 4
    · obtain ⟨hsome, hurgent⟩ := hurgent
      obtain ⟨r, hr⟩ := Option.ne_none_iff_exists'.mp hsome
      rw [State.arbitrate_of_take hfree hr (.inr hurgent)] at hd
      exact (htake hr hd).elim
    · have hwins : s.takeRequest = none ∨ s.takeUrgent = false ∨ 4 ≤ s.memory.urgentRun := by
        by_contra hnot
        obtain ⟨h1, h2, h3⟩ : s.takeRequest ≠ none ∧ s.takeUrgent ≠ false ∧ ¬ 4 ≤ s.memory.urgentRun := by
          simpa only [not_or] using hnot
        exact hurgent ⟨h1, by simpa using h2, by omega⟩
      have hblocked (h : s.grantDecision t = .blockPartial ∨ s.grantDecision t = .blockProtected) : False := by
        have hnone := (State.grantPassThrough_blocked (s := s.setUrgentRun 0) (State.upstream_of_waiting ht).1 h).downstream
        rw [State.arbitrate_of_passThrough hfree ht hwins] at hd
        cases hr : s.takeRequest with
        | none =>
          rw [hr] at hd
          cases hd.symm.trans (hnone.trans hfree)
        | some r =>
          simp only [hr, hnone.trans hfree, Option.isSome_none, Bool.false_eq_true, if_false] at hd
          exact htake hr hd
      cases hdecision : s.grantDecision t with
      | blockPartial => exact (hblocked (.inl hdecision)).elim
      | blockProtected => exact (hblocked (.inr hdecision)).elim
      | forward notice =>
        rw [State.arbitrate_of_forward hfree ht hdecision hwins] at hd
        exact ⟨t, notice, rfl, hdecision, (Option.some.inj hd).symm⟩

/-- Settles O35. -/
theorem arbiterStartsNoForbiddenWrite : Obligations.ArbiterStartsNoForbiddenWrite := by
  intro s d hreset hfree hd howner hwrite
  have hsettle : s.settle = s.startFetch.arbitrate := if_neg (by simp [hreset])
  rw [hsettle] at hd
  obtain ⟨t, notice, ht, hdecision, rfl⟩ := State.arbitrate_started (s := s.startFetch) (by simpa using hfree) hd howner
  obtain ⟨hoff, hguarded⟩ := State.checks_of_forward (by simpa using hreset) hwrite hdecision
  have hupstream : s.memory.upstream = some t := by simpa using (State.upstream_of_waiting ht).1
  have hregion : s.startFetch.inRegion t.address = s.inRegion t.address := by simp [State.inRegion]
  have htarget : s.startFetch.targetAxis t.address = s.targetAxis t.address := by simp [State.targetAxis]
  refine ⟨fun hin => ?_, fun hsome => ?_⟩
  · by_contra hprotected
    exact hguarded ⟨.inr (hregion.trans hin), by simpa using hprotected⟩
  · rw [hupstream]
    by_contra hcls
    exact hoff ⟨fun h => hcls (congrArg some h), by rwa [htarget]⟩

/-! ## The taking of a transaction (R131 to R141) -/

/-- A transaction as it is taken, before its class is looked at. -/
theorem State.newUpstream_eq (s : State) (write : Bool) (addr : Nat) (lanes : BitVec 4) (data : Word) :
    s.newUpstream write addr lanes data =
      { address := addr, write := write, lanes := lanes, data := data, cls := (s.classify addr).1,
        axis := (s.classify addr).2, forwardData := if write then some data else none, phase := .waiting,
        throughReset := false } := rfl

theorem exec_upstreamTransactionTaken_of_free {s : State} {presented : Presentation} {write : Bool} {address : BitVec 22}
    {lanes : BitVec 4} {data : Word} (h : (s.elapse presented.after).memory.upstream = none) :
    let u := s.elapse presented.after
    exec (.upstreamTransactionTaken presented write address lanes data) s =
      .next (u.takeUpstream (u.newUpstream write (address.toNat * 4) lanes data) presented.slotLate) := by
  simp [exec, execUpstreamTransactionTaken, h]

/-- A transaction that is no TARGET write waits for the port. -/
theorem State.takeUpstream_of_waiting (s : State) {t : UpstreamTxn} (h : t.write = true → t.cls ≠ .target)
    (slotLate : Bool) : s.takeUpstream t slotLate =
      ({ s with memory := { s.memory with upstream := some t } } : State).settleAt slotLate := by
  unfold State.takeUpstream
  split
  next hcls _ hwrite => exact absurd hcls (h hwrite)
  · rfl

/-- A partial TARGET write is blocked. -/
theorem State.takeUpstream_of_partial (s : State) {t : UpstreamTxn} {a : Nat} (hcls : t.cls = .target)
    (haxis : t.axis = some a) (hwrite : t.write = true) (hlanes : t.lanes ≠ 0xF) (slotLate : Bool) :
    s.takeUpstream t slotLate =
      (({ s with memory := { s.memory with upstream := some t } } : State).countPartial).completeUpstream 0 := by
  simp only [State.takeUpstream, hcls, haxis, hwrite, fullWord]
  exact if_neg (by simpa using hlanes)

/-- Settles O32. -/
theorem partialTargetWriteIsBlocked : Obligations.PartialTargetWriteIsBlocked := by
  intro s after a slotLate address lanes data u hup hreset htarget hlanes
  have hclass := State.classify_of_target hreset htarget
  rw [exec_upstreamTransactionTaken_of_free (presented := ⟨after, slotLate⟩) hup, Host.Outcome.next.injEq,
    State.takeUpstream_of_partial u (a := a) (congrArg Prod.fst hclass) (congrArg Prod.snd hclass) rfl hlanes,
    State.completeUpstream_of_some (t := u.newUpstream true (address.toNat * 4) lanes data) rfl]
  have hflags : Event.partialWrite.mask = 0x0200 := by decide
  simp only [State.countPartial, State.raise, hflags, State.newUpstream_eq, stopAt]
  rw [← hup]
  rfl

section
variable {s : State} (hreset : s.resetControl.inForce = false) (hinactive : s.queueActive = false)
include hreset hinactive

/-- Without a pass that reads a take the end of a row is the arbiter's decision. -/
theorem State.settle_of_inactive : s.settle = s.arbitrate := by
  rw [State.settle, if_neg (by simp [hreset]), s.startFetch_of_inactive hinactive]

end

/-- A transaction that is neither a TARGET write nor a write to a protected word passes the checks at its grant. -/
theorem State.grantDecision_newUpstream {s : State} (hreset : s.resetControl.inForce = false) {write : Bool} {addr : Nat}
    (htarget : write = true → s.targetAxis addr = none)
    (hchecks : write = true → s.inRegion addr = true → s.directory.wordProtected addr = false) (lanes : BitVec 4)
    (data : Word) : s.grantDecision (s.newUpstream write addr lanes data) = .forward (write && s.inRegion addr) := by
  cases write with
  | false => exact State.grantDecision_of_read rfl
  | true =>
    obtain ⟨-, hregion⟩ := State.classify_of_no_target hreset (htarget rfl)
    have hoff : ¬ s.offCheck (s.newUpstream true addr lanes data) := fun h => by
      have hsome : (s.targetAxis addr).isSome = true := h.2
      rw [htarget rfl] at hsome
      cases hsome
    have hguarded : ¬ s.guardedWrite (s.newUpstream true addr lanes data) := fun h => by
      obtain ⟨hin, hprotected⟩ := h
      have hnot := hchecks rfl (hin.elim hregion id)
      rw [show s.directory.wordProtected addr = true from hprotected] at hnot
      cases hnot
    rw [State.grantDecision_of_unchecked hreset rfl hoff hguarded, GrantDecision.forward.injEq, Bool.true_and]
    show ((s.classify addr).1 == .region || s.inRegion addr) = s.inRegion addr
    by_cases hcls : (s.classify addr).1 = .region
    · simp [hregion hcls]
    · simp [hcls]

/-- A transaction taken that is no TARGET write waits for the port. -/
theorem exec_upstreamTransactionTaken_of_waiting {s u : State} {after : Nat} {slotLate write : Bool} {address : BitVec 22}
    {lanes : BitVec 4} {data : Word} (hu : s.elapse after = u) (hup : u.memory.upstream = none)
    (hreset : u.resetControl.inForce = false) (htarget : write = true → u.targetAxis (address.toNat * 4) = none) :
    exec (.upstreamTransactionTaken ⟨after, slotLate⟩ write address lanes data) s = .next (({ u with
      memory := { u.memory with upstream := some (u.newUpstream write (address.toNat * 4) lanes data) } } :
        State).settleAt slotLate) := by
  subst hu
  rw [exec_upstreamTransactionTaken_of_free (presented := ⟨after, slotLate⟩) hup]
  exact congrArg Host.Outcome.next
    (State.takeUpstream_of_waiting _ (fun hwrite => (State.classify_of_no_target hreset (htarget hwrite)).1) slotLate)

/-- Settles O33. -/
theorem uncheckedTransactionGoesDownstream : Obligations.UncheckedTransactionGoesDownstream := by
  intro s after write address lanes data u addr hup hdown hreset hinactive htarget
  have hrow (slotLate : Bool) := exec_upstreamTransactionTaken_of_waiting (slotLate := slotLate) (lanes := lanes)
    (data := data) (show s.elapse after = u from rfl) hup hreset htarget
  let w : State := { u with memory := { u.memory with upstream := some (u.newUpstream write addr lanes data) } }
  clear_value u
  refine ⟨fun hrequest hchecks => ?_, ?_⟩
  · have hgrant : w.settleAt false =
        (w.setUrgentRun 0).startPassThrough (u.newUpstream write addr lanes data) (write && u.inRegion addr) := by
      rw [State.settleAt_false, State.settle_of_inactive (s := w) hreset hinactive]
      exact State.arbitrate_of_forward (s := w) hdown rfl (State.grantDecision_newUpstream hreset htarget hchecks lanes data)
        (.inl hrequest)
    have hdata : (if write then some data else none).getD data = data := by cases write <;> rfl
    exact ⟨_, (hrow false).trans (congrArg Host.Outcome.next hgrant),
      congrArg (fun v => some (DownstreamTxn.mk .passThrough addr write lanes v false _)) hdata, rfl, rfl, rfl⟩
  · have hlate : w.settleAt true = w.deliverLater .slot := by
      rw [w.settleAt_late hreset hdown, w.startFetch_of_inactive hinactive]
    exact ⟨_, (hrow true).trans (congrArg Host.Outcome.next hlate), rfl, rfl⟩

/-- Settles O34. -/
theorem protectedWriteIsBlocked : Obligations.ProtectedWriteIsBlocked := by
  intro s after address lanes data u addr hup hdown hreset hrequest hinactive htarget hin hprotected
  have hrow := exec_upstreamTransactionTaken_of_waiting (slotLate := false) (write := true) (lanes := lanes) (data := data)
    (show s.elapse after = u from rfl) hup hreset (fun _ => htarget)
  let t : UpstreamTxn := u.newUpstream true addr lanes data
  let w : State := { u with memory := { u.memory with upstream := some t } }
  have hdecision : (w.setUrgentRun 0).grantDecision t = .blockProtected :=
    State.grantDecision_of_guarded hreset rfl
      (fun h => by
        have hsome : (u.targetAxis addr).isSome = true := h.2
        rw [htarget] at hsome
        cases hsome)
      ⟨.inr hin, hprotected⟩
  have hgrant : w.settleAt false = ((w.setUrgentRun 0).countProtect addr).completeUpstream 0 := by
    rw [State.settleAt_false, State.settle_of_inactive (s := w) hreset hinactive,
      State.arbitrate_of_passThrough (s := w) hdown (t := t) rfl (.inl hrequest),
      State.grantPassThrough_of_blockProtected hdecision, show w.takeRequest = none from hrequest]
    rfl
  have hflags : Event.protect.mask = 0x0100 := by decide
  refine hrow.trans (congrArg Host.Outcome.next (hgrant.trans ?_))
  rw [State.completeUpstream_of_some (s := (w.setUrgentRun 0).countProtect addr) (t := t) rfl]
  simp only [State.countProtect, State.raise, hflags, stopAt]
  rw [← hup]
  rfl

/-! ## Urgency (R93, R107, R146) -/

theorem State.passWork_iff (s : State) : s.passWork = true ↔ s.resetControl.inForce = false ∧ (s.recording.writer ≠ none
    ∨ (s.lineQueue.geometry ≠ none ∧ ∃ a, s.lineQueue.assembly = some a ∧ a.inFlight = false)) := by
  simp only [State.passWork, Bool.and_eq_true, Bool.or_eq_true, Bool.not_eq_true', Option.isSome_iff_ne_none]
  cases s.lineQueue.assembly <;> simp

theorem LineQueue.lookahead_lt_iff (q : LineQueue) : q.lookahead < 4 ↔
    ∀ cur, q.currentLine = some cur → (q.lines.filter fun l => decide (cur + 2 < l.index)).length < 4 := by
  unfold LineQueue.lookahead
  split
  next cur hcur => simp [hcur, List.countP_eq_length_filter]
  next hnone => simp [hnone]

theorem LineQueue.unfetched_iff (q : LineQueue) : q.unfetched = true ↔
    q.assembly ≠ none ∨ ∃ g i, q.geometry = some g ∧ q.nextFetch = some i ∧ i < g.lines := by
  unfold LineQueue.unfetched
  rw [Bool.or_eq_true, Option.isSome_iff_ne_none]
  split
  next g i hg hi => simp [hg, hi]
  next hnone =>
    simp only [Bool.false_eq_true, or_false]
    exact ⟨.inl, fun h => h.resolve_right fun ⟨g, i, hg, hi, _⟩ => hnone g i hg hi⟩

theorem State.lineUrgent_iff (s : State) : s.lineUrgent = true ↔ (s.mode = some .replay ∨ s.mode = some .witness)
    ∧ s.pass.state ∈ [PassState.armed, .preroll, .running, .parked] ∧ s.lineQueue.lookahead < 4
    ∧ s.lineQueue.unfetched = true := by
  simp [State.lineUrgent, State.readsTake, and_assoc, or_assoc]

theorem State.takeUrgent_iff (s : State) : s.takeUrgent = true ↔ s.passWork = true
    ∧ (s.lineUrgent = true ∨ 12 ≤ s.recording.queue.length) := by
  simp [State.takeUrgent]

/-! ## A slot decided later in the instant (R144) -/

/-- The four conditions of R101 with the line they start. -/
def State.mayStart (s : State) : Prop := ∃ g i, s.lineQueue.geometry = some g ∧ s.lineQueue.nextFetch = some i
  ∧ s.lineQueue.assembly = none ∧ s.queueActive = true ∧ s.pass.state ≠ .ending
  ∧ s.lineQueue.lines.length < Config.lineQueueDepth ∧ i < g.lines

theorem State.startFetch_eq_self_iff (s : State) : s.startFetch = s ↔ ¬ s.mayStart := by
  constructor
  · rintro h ⟨g, i, hg, hi, ha, hmay⟩
    have hstart : s.startFetch.lineQueue.assembly = some ⟨i, [], false⟩ := by
      simp only [State.startFetch, hg, hi, ha, if_pos hmay]
    rw [h, ha] at hstart
    cases hstart
  · intro h
    unfold State.startFetch
    split
    next g i hg hi ha =>
      split
      next hmay => exact absurd ⟨g, i, hg, hi, ha, hmay⟩ h
      · rfl
    · rfl

/-- Where the fetcher has nothing to start, it has nothing to start with the same line queue and the same pass. -/
theorem State.startFetch_eq_self_of {s u : State} (hqueue : u.lineQueue = s.lineQueue) (hpass : u.pass = s.pass)
    (h : s.startFetch = s) : u.startFetch = u := by
  rw [State.startFetch_eq_self_iff] at h ⊢
  simpa only [State.mayStart, State.queueActive, State.readsTake, State.mode, hqueue, hpass] using h

/-- A completion whose slot is decided later leaves the port free and the decision waiting. -/
theorem State.settleAt_true_spec {s : State} (hreset : s.resetControl.inForce = false) (hfree : s.memory.downstream = none) :
    (s.settleAt true).memory.downstream = none ∧ (s.settleAt true).due = s.due ++ [.slot]
      ∧ (s.settleAt true).resetControl.inForce = false ∧ (s.settleAt true).startFetch = s.settleAt true := by
  rw [s.settleAt_late hreset hfree]
  refine ⟨?_, ?_, ?_, ?_⟩
  · simpa [State.deliverLater] using hfree
  · simp [State.deliverLater]
  · simpa [State.deliverLater] using hreset
  · exact State.startFetch_eq_self_of (s := s.startFetch) rfl rfl s.startFetch_startFetch

theorem State.completeDownstream_downstream (s : State) (d : DownstreamTxn) (data : Word) (late : Bool) :
    (s.completeDownstream d data late).memory.downstream = none := by
  unfold State.completeDownstream
  dsimp only
  split
  · rfl
  · split <;> simp

/-- What a blocked write leaves of the counts and the flags (R137, R141, R143). -/
theorem State.grantPassThrough_counts {s : State} (hreset : s.resetControl.inForce = false) {t : UpstreamTxn}
    (ht : s.memory.upstream = some t) (hwrite : t.write = true) (hblocked : s.offCheck t ∨ s.guardedWrite t) :
    let u := s.grantPassThrough t
    (s.grantDecision t = .blockPartial ∨ s.grantDecision t = .blockProtected)
      ∧ (s.offCheck t → u.memory.partialBlocks = min 65535 (s.memory.partialBlocks + 1)
        ∧ u.memory.protectBlocks = s.memory.protectBlocks ∧ u.flag .partialWrite = true)
      ∧ (¬ s.offCheck t → u.memory.protectBlocks = min 65535 (s.memory.protectBlocks + 1)
        ∧ u.memory.blockedAddress = some (s.memory.blockedAddress.getD t.address)
        ∧ u.memory.partialBlocks = s.memory.partialBlocks ∧ u.flag .protect = true) := by
  by_cases hoff : s.offCheck t
  · have hdecision := State.grantDecision_of_offCheck hreset hwrite hoff
    have hflag : s.countPartial.flag .partialWrite = true := by simp [State.countPartial]
    intro u
    have hu : u = s.countPartial.completeUpstream 0 := State.grantPassThrough_of_blockPartial hdecision
    rw [State.completeUpstream_of_some (s := s.countPartial) ht] at hu
    rw [hu]
    exact ⟨.inl hdecision, fun _ => ⟨Nat.min_comm _ _, rfl, hflag⟩, fun h => absurd hoff h⟩
  · have hdecision := State.grantDecision_of_guarded hreset hwrite hoff (hblocked.resolve_left hoff)
    have hflag : (s.countProtect t.address).flag .protect = true := by simp [State.countProtect]
    intro u
    have hu : u = (s.countProtect t.address).completeUpstream 0 := State.grantPassThrough_of_blockProtected hdecision
    rw [State.completeUpstream_of_some (s := s.countProtect t.address) ht] at hu
    rw [hu]
    exact ⟨.inr hdecision, fun h => absurd h hoff, fun _ => ⟨Nat.min_comm _ _, rfl, rfl, hflag⟩⟩

/-- A pass-through write that its checks block leaves the slot to the take engine. -/
theorem State.arbitrate_of_blocked_write {s : State} (hfree : s.memory.downstream = none)
    (hreset : s.resetControl.inForce = false) {t : UpstreamTxn} {r : DownstreamTxn}
    (ht : s.waitingUpstream = some t) (hr : s.takeRequest = some r) (hrun : s.takeUrgent = false ∨ 4 ≤ s.memory.urgentRun)
    (hwrite : t.write = true) (hblocked : s.offCheck t ∨ s.guardedWrite t) :
    s.arbitrate.memory.downstream = some r ∧ s.arbitrate.memory.upstream = none
      ∧ s.arbitrate.memory.urgentRun = (if s.takeUrgent = true then 1 else 0)
      ∧ (s.offCheck t → s.arbitrate.memory.partialBlocks = min 65535 (s.memory.partialBlocks + 1)
          ∧ s.arbitrate.memory.protectBlocks = s.memory.protectBlocks ∧ s.arbitrate.flag .partialWrite = true)
      ∧ (¬ s.offCheck t → s.arbitrate.memory.protectBlocks = min 65535 (s.memory.protectBlocks + 1)
          ∧ s.arbitrate.memory.blockedAddress = some (s.memory.blockedAddress.getD t.address)
          ∧ s.arbitrate.memory.partialBlocks = s.memory.partialBlocks ∧ s.arbitrate.flag .protect = true) := by
  obtain ⟨hup, -⟩ := State.upstream_of_waiting ht
  obtain ⟨hdecision, hpartial, hprotect⟩ :=
    State.grantPassThrough_counts (s := s.setUrgentRun 0) hreset hup hwrite hblocked
  have hleft := State.grantPassThrough_blocked (s := s.setUrgentRun 0) hup hdecision
  rw [State.arbitrate_of_blocked hfree ht hr hrun hdecision]
  generalize (s.setUrgentRun 0).grantPassThrough t = u at hpartial hprotect hleft ⊢
  have hurgent : u.takeUrgent = s.takeUrgent :=
    State.takeUrgent_congr hleft.reset hleft.recording hleft.lineQueue hleft.pass
  have hflag (ev : Event) : (u.grantTake r).flag ev = u.flag ev := State.flag_congr (by simp) ev
  refine ⟨u.grantTake_downstream r, by simpa using hleft.upstream, ?_, fun h => ?_, fun h => ?_⟩
  · rw [State.grantTake_urgentRun, hurgent, hleft.urgentRun]
    rfl
  · rw [hflag]
    simpa using hpartial h
  · rw [hflag]
    simpa using hprotect h

/-- A transaction presented while a decision waits is present at the decision (R144). -/
theorem presented_at_decision {t : State} (hfree : t.memory.downstream = none) (hreset : t.resetControl.inForce = false)
    (hfetched : t.startFetch = t) {write : Bool} {address : BitVec 22} (hup : t.memory.upstream = none)
    (htarget : write = true → t.targetAxis (address.toNat * 4) = none
      ∧ (t.inRegion (address.toNat * 4) = true → t.directory.wordProtected (address.toNat * 4) = false))
    (lanes : BitVec 4) (data : Word) :
    ∃ v, exec (.upstreamTransactionTaken ⟨0, false⟩ write address lanes data) t = .next v
      ∧ (t.takeRequest = none ∨ t.takeUrgent = false ∨ t.memory.urgentRun = 4 → v.memory.urgentRun = 0
          ∧ v.memory.downstream = some ⟨.passThrough, address.toNat * 4, write, lanes, data, false,
              write && t.inRegion (address.toNat * 4)⟩)
      ∧ (∀ r, t.takeRequest = some r → t.takeUrgent = true → t.memory.urgentRun < 4 →
          v.memory.downstream = some r ∧ v.memory.urgentRun = t.memory.urgentRun + 1
            ∧ v.memory.upstream.map (fun x => (x.address, x.phase)) = some (address.toNat * 4, .waiting)) := by
  let x : UpstreamTxn := t.newUpstream write (address.toNat * 4) lanes data
  let w : State := { t with memory := { t.memory with upstream := some x } }
  have hsettle : w.settleAt false = w.arbitrate := by
    rw [State.settleAt_false, State.settle, if_neg (by simpa using hreset),
      State.startFetch_eq_self_of (s := t) (u := w) rfl rfl hfetched]
  have hdecision : w.grantDecision x = .forward (write && t.inRegion (address.toNat * 4)) :=
    State.grantDecision_newUpstream hreset (fun h => (htarget h).1) (fun h => (htarget h).2) lanes data
  have hdata : (if write then some data else none).getD data = data := by cases write <;> rfl
  refine ⟨w.arbitrate, (exec_upstreamTransactionTaken_of_waiting t.elapse_zero hup hreset
    (fun h => (htarget h).1)).trans (congrArg Host.Outcome.next hsettle), fun h => ?_, fun r hr hurgent hrun => ?_⟩
  · rw [State.arbitrate_of_forward (s := w) hfree rfl hdecision (h.imp_right (.imp_right (·.ge)))]
    exact ⟨rfl, congrArg (fun v => some (DownstreamTxn.mk .passThrough _ write lanes v false _)) hdata⟩
  · rw [State.arbitrate_of_take (s := w) hfree hr (.inr ⟨hurgent, hrun⟩)]
    refine ⟨w.grantTake_downstream r, ?_, by simp [w, x, State.newUpstream_eq]⟩
    rw [State.grantTake_urgentRun, if_pos (by exact hurgent)]
    exact Nat.min_eq_right hrun

/-- Settles O36: the table decision by decision, urgency as R93 and R107 have it, and a slot that waits for a transaction
presented at its instant. -/
theorem arbiterTable : Obligations.ArbiterTable := by
  refine ⟨fun s hfree => ⟨fun r hr h => ?_, fun t notice ht hdecision h => ?_, fun r hr => State.takeUrgent_of_verifyRead hr,
    fun t r ht hr hrun => ?_⟩, fun s => ?_, fun s after late answer d => ?_⟩
  · rw [State.arbitrate_of_take hfree hr h]
    exact ⟨s.grantTake_downstream r, s.grantTake_urgentRun r⟩
  · rw [State.arbitrate_of_forward hfree ht hdecision (h.imp_right (.imp_right (·.ge)))]
    exact ⟨rfl, rfl⟩
  · intro offCheck guarded hwrite hblocked
    have hreset : s.resetControl.inForce = false := by
      by_contra hreset
      rw [s.takeRequest_of_inForce (by simpa using hreset)] at hr
      cases hr
    exact State.arbitrate_of_blocked_write hfree hreset ht hr (hrun.imp_right (·.ge)) hwrite hblocked
  · intro q work near unfetched byLines
    rw [s.takeUrgent_iff, s.passWork_iff, s.lineUrgent_iff, LineQueue.lookahead_lt_iff, LineQueue.unfetched_iff]
  · intro u hd hreset
    have hafter : (u.completeDownstream d answer late).resetControl.inForce = false := by simpa using hreset
    obtain ⟨hfree, hdue, hreset', hfetched⟩ :=
      State.settleAt_true_spec hafter (u.completeDownstream_downstream d answer late)
    refine ⟨_, exec_downstreamComplete_of_downstream s ⟨after, late, true⟩ answer hd, hfree, hdue, ?_⟩
    intro write address lanes data addr hup htarget
    exact presented_at_decision hfree hreset' hfetched hup htarget lanes data

end Sys2Proof.Machine
end

section
/-! Proofs about the completion of a forwarded transaction: the observation of feedback (R139, R165) and the coherence notice
(R110 to R113). -/

namespace Sys2Proof.Machine

/-! ## The end of a row with the port empty -/

/-- With no upstream transaction the decision of the slot blocks nothing: the port's flags and the last upstream stay. -/
structure State.PortKept (s t : State) : Prop where
  upstream : t.memory.upstream = none
  port : t.port = s.port
  lastUpstream : t.lastUpstream = s.lastUpstream

theorem State.startTake_port (s : State) (r : DownstreamTxn) : (s.startTake r).port = s.port := by
  unfold State.startTake
  dsimp only
  split <;> rfl

theorem State.arbitrate_portKept {s : State} (h : s.memory.upstream = none) : s.PortKept s.arbitrate := by
  have hwaiting : s.waitingUpstream = none := by rw [State.waitingUpstream, h, Option.filter_none]
  unfold State.arbitrate
  split
  · exact ⟨h, rfl, rfl⟩
  · rw [hwaiting]
    cases s.takeRequest with
    | none => exact ⟨h, rfl, rfl⟩
    | some r =>
      exact ⟨by simpa using h, State.startTake_port _ r, by simp⟩

theorem State.settleAt_portKept {s : State} (h : s.memory.upstream = none) (late : Bool) : s.PortKept (s.settleAt late) := by
  have hfetch : s.PortKept s.startFetch := ⟨by simpa using h, by simp, by simp⟩
  have hsettle : s.PortKept s.settle := by
    unfold State.settle
    split
    · exact State.arbitrate_portKept h
    · have harbitrate := State.arbitrate_portKept hfetch.upstream
      exact ⟨harbitrate.upstream, harbitrate.port.trans hfetch.port, harbitrate.lastUpstream.trans hfetch.lastUpstream⟩
  unfold State.settleAt
  split
  · exact ⟨hfetch.upstream, hfetch.port, hfetch.lastUpstream⟩
  · exact hsettle

/-! ## The completion (R131, R135) -/

/-- The transaction has ended upstream, with these data returned. -/
def State.returned (s : State) (r : UpstreamTxn) (data : Word) : State := { s with
  memory := { s.memory with downstream := none, upstream := none }
  lastUpstream := some ⟨r.address, r.write, if r.write then r.data else data⟩ }

section
variable {s : State} {d : DownstreamTxn} {r : UpstreamTxn} (howner : d.owner = .passThrough) (hdiscard : d.discard = false)
  (hr : s.memory.upstream = some r)
include howner hdiscard hr

/-- A pass-through completion is the return, the observation of a feedback read, and the notice. -/
theorem State.completeDownstream_passThrough (data : Word) (late : Bool) :
    s.completeDownstream d data late =
      let v := match r.cls, r.axis with
        | .feedback, some a => if !r.write && fullWord r.lanes && !r.throughReset then
            (s.returned r data).observeFeedback a data late else s.returned r data
        | _, _ => s.returned r data
      if d.notice then v.coherenceNotice d.address d.data d.lanes else v := by
  simp only [State.completeDownstream, hdiscard, howner, State.passThroughComplete, hr]
  rfl

/-- A transaction that is no full-word feedback read observes nothing. -/
theorem State.completeDownstream_unobserved (data : Word) (late : Bool) (hnotice : d.notice = false)
    (h : r.write = true ∨ r.cls ≠ .feedback ∨ r.lanes ≠ 0xF ∨ r.throughReset = true
      ∨ ∀ a, r.axis = some a → (s.axis a).entry.feedbackAddr = none) :
    s.completeDownstream d data late = s.returned r data := by
  rw [State.completeDownstream_passThrough howner hdiscard hr]
  simp only [hnotice, Bool.false_eq_true, if_false]
  split
  next a hcls haxis =>
    split
    next hobserved =>
      simp only [fullWord, Bool.and_eq_true, Bool.not_eq_true', beq_iff_eq] at hobserved
      obtain ⟨⟨hread, hlanes⟩, hnormal⟩ := hobserved
      have habsent : ((s.returned r data).axis a).entry.feedbackAddr = none := by
        obtain h | h | h | h | h := h
        · simp [hread] at h
        · exact absurd hcls h
        · exact absurd hlanes h
        · simp [hnormal] at h
        · exact h a haxis
      simp [State.observeFeedback, habsent]
    · rfl
  · rfl

/-- A full-word feedback read is observed. -/
theorem State.completeDownstream_observed (data : Word) (late : Bool) (hnotice : d.notice = false) {a : Nat}
    (hread : r.write = false) (hcls : r.cls = .feedback) (haxis : r.axis = some a) (hlanes : r.lanes = 0xF)
    (hnormal : r.throughReset = false) :
    s.completeDownstream d data late = (s.returned r data).observeFeedback a data late := by
  rw [State.completeDownstream_passThrough howner hdiscard hr]
  simp [hnotice, hcls, haxis, hread, hlanes, hnormal, fullWord]

/-- A forwarded write with a notice is returned and noticed. -/
theorem State.completeDownstream_noticed (data : Word) (late : Bool) (hnotice : d.notice = true) (hwrite : r.write = true) :
    s.completeDownstream d data late = (s.returned r data).coherenceNotice d.address d.data d.lanes := by
  rw [State.completeDownstream_passThrough howner hdiscard hr]
  simp only [hnotice, hwrite, Bool.not_true, Bool.false_and, Bool.false_eq_true, if_false, if_true]
  split <;> rfl

end

/-! ## Feedback (R139, R165) -/

theorem State.comparison_of_dropped {s : State} (h : s.takesComparisons = false) (a : Nat) (e : Int) (late : Bool) :
    s.comparison a e late = s := by
  rw [State.comparison, if_neg (by simp [h])]

/-- A comparison changes the witness unit by its taking alone. -/
theorem State.comparison_witness {s : State} (h : s.takesComparisons = true) (a : Nat) (e : Int) (late : Bool) :
    (s.comparison a e late).witness = (s.onWitnessAxis a fun w => w.take (s.axis a).entry.processing.tol e).witness := by
  rw [State.comparison, if_pos h]
  dsimp only
  split
  · unfold State.reportDivergence
    split
    · rfl
    · simp
  · split <;> rfl

theorem saturate24_eq (v : Int) : saturate24 v = max (-8388608) (min 8388607 v) := by
  unfold saturate24 clampInt
  split
  · omega
  · split <;> omega

theorem State.takesComparisons_iff (s : State) : s.takesComparisons = true ↔ s.pass.state = .running
    ∧ (s.mode = some .replay ∨ s.mode = some .witness) := by
  simp [State.takesComparisons, State.readsTake]

section
variable {s : State} {a : Nat} (hpresent : (s.axis a).entry.feedbackAddr ≠ none) (data : Word) (late : Bool)
include hpresent

/-- A comparison of the observed feedback with the last forwarded value is made of an axis that follows. -/
theorem State.observeFeedback_of_follows {l : Int} (hsource : (s.axis a).entry.processing.source = .following)
    (htaken : s.takesComparisons = true) (hlast : (s.axis a).lastForwarded = some l) :
    s.observeFeedback a data late =
      (s.onAxis a fun ax => { ax with lastFeedback := some (saturate24 data.toInt) }).comparison a
        (saturate24 data.toInt - l) late := by
  rw [State.observeFeedback]
  dsimp only
  rw [if_neg (by simpa using hpresent), hlast]
  exact if_pos ⟨hsource, htaken⟩

theorem State.observeFeedback_of_not_follows
    (h : ¬ ((s.axis a).entry.processing.source = .following ∧ s.takesComparisons = true)
      ∨ (s.axis a).lastForwarded = none) :
    s.observeFeedback a data late = s.onAxis a fun ax => { ax with lastFeedback := some (saturate24 data.toInt) } := by
  rw [State.observeFeedback]
  dsimp only
  rw [if_neg (by simpa using hpresent)]
  split
  next l hlast => exact if_neg (h.resolve_right (by simp [hlast]))
  · rfl

theorem State.observeFeedback_axes : (s.observeFeedback a data late).axes =
    (s.onAxis a fun ax => { ax with lastFeedback := some (saturate24 data.toInt) }).axes := by
  rw [State.observeFeedback]
  dsimp only
  rw [if_neg (by simpa using hpresent)]
  split
  · split
    · simp
    · rfl
  · rfl

end

/-- A transaction with no observation and no notice ends, and nothing else of any block changes. -/
structure State.ReturnedOnly (u t : State) (r : UpstreamTxn) (data : Word) : Prop where
  lastUpstream : t.lastUpstream = some ⟨r.address, r.write, if r.write then r.data else data⟩
  upstream : t.memory.upstream = none
  axes : t.axes = u.axes
  pass : t.pass = u.pass
  witness : t.witness = u.witness
  port : t.port = u.port
  directory : t.directory = u.directory
  timebase : t.timebase = u.timebase
  camera : t.camera = u.camera
  interpolator : t.interpolator = u.interpolator
  writeInProcessing : t.writeInProcessing = u.writeInProcessing
  queue : t.recording.queue = u.recording.queue
  lines : t.lineQueue.lines = u.lineQueue.lines

theorem State.returned_settleAt (u : State) (r : UpstreamTxn) (data : Word) (late : Bool) :
    u.ReturnedOnly ((u.returned r data).settleAt late) r data := by
  have hport := State.settleAt_portKept (s := u.returned r data) rfl late
  refine ⟨hport.lastUpstream, hport.upstream, ?_, ?_, ?_, hport.port, ?_, ?_, ?_, ?_, ?_, ?_, ?_⟩ <;>
    simp [State.returned]

/-- What an observed feedback read leaves. -/
theorem State.observed_settleAt (u : State) (r : UpstreamTxn) (data : Word) (late slotLate : Bool) (a : Nat) :
    let t := ((u.returned r data).observeFeedback a data late).settleAt slotLate
    t.lastUpstream = some ⟨r.address, r.write, if r.write then r.data else data⟩ ∧ t.memory.upstream = none
      ∧ t.pass.state = u.pass.state ∧ t.pass.context = u.pass.context ∧ t.directory = u.directory
      ∧ t.timebase = u.timebase := by
  have hport := State.settleAt_portKept (s := (u.returned r data).observeFeedback a data late)
    (by simp [State.returned]) slotLate
  refine ⟨hport.lastUpstream.trans (by simp [State.returned]), hport.upstream, ?_, ?_, ?_, ?_⟩ <;> simp [State.returned]

theorem State.witnessAxis_onWitnessAxis {s : State} {a : Nat} (f : WitnessAxis → WitnessAxis)
    (ha : a < s.witness.axes.length) :
    (s.onWitnessAxis a f).witnessAxis a = f (s.witnessAxis a)
      ∧ ∀ n, n ≠ a → (s.onWitnessAxis a f).witnessAxis n = s.witnessAxis n :=
  ⟨s.witnessAxis_onWitnessAxis_self a f ha, fun n hn => s.witnessAxis_onWitnessAxis_ne a n f hn⟩

theorem State.settleAt_witness (s : State) (late : Bool) : (s.settleAt late).witness = s.witness := by simp

theorem State.settleAt_pass (s : State) (late : Bool) : (s.settleAt late).pass = s.pass := by simp

/-- What a feedback read leaves of the axes and the witness unit (R139, R165). -/
theorem State.observed_follows (u : State) (r : UpstreamTxn) {a : Nat} (hpresent : (u.axis a).entry.feedbackAddr ≠ none)
    (data : Word) (late slotLate : Bool) (ha : a < u.axes.length) (ha' : a < u.witness.axes.length) :
    let t := ((u.returned r data).observeFeedback a data late).settleAt slotLate
    let f : Int := max (-8388608) (min 8388607 data.toInt)
    let follows : Prop := (u.axis a).entry.processing.source = .following ∧ u.pass.state = .running
      ∧ (u.mode = some .replay ∨ u.mode = some .witness)
    t.axis a = { u.axis a with lastFeedback := some f } ∧ (∀ n, n ≠ a → t.axis n = u.axis n)
      ∧ (∀ l, follows → (u.axis a).lastForwarded = some l →
          t.witnessAxis a = (u.witnessAxis a).take (u.axis a).entry.processing.tol (f - l)
            ∧ ∀ n, n ≠ a → t.witnessAxis n = u.witnessAxis n)
      ∧ (¬ follows ∨ (u.axis a).lastForwarded = none →
          t.witness = u.witness ∧ t.pass = u.pass ∧ t.port = u.port) := by
  intro t f follows
  let v : State := u.returned r data
  have hf : saturate24 data.toInt = f := saturate24_eq _
  let w : State := v.onAxis a fun ax => { ax with lastFeedback := some f }
  have haxes : t.axes = w.axes := by
    have hobserved := State.observeFeedback_axes (s := v) hpresent data late
    rw [hf] at hobserved
    rw [← hobserved]
    simp [t, v]
  have htaken : v.takesComparisons = true ↔ u.pass.state = .running ∧ (u.mode = some .replay ∨ u.mode = some .witness) :=
    v.takesComparisons_iff
  refine ⟨?_, fun n hn => ?_, fun l hfollows hlast => ?_, fun hnot => ?_⟩
  · rw [State.axis_congr haxes]
    exact v.axis_onAxis_self a _ ha
  · rw [State.axis_congr haxes]
    exact v.axis_onAxis_ne a n _ hn
  · obtain ⟨hsource, hrunning⟩ := hfollows
    have hobserved := State.observeFeedback_of_follows (s := v) hpresent data late hsource (htaken.mpr hrunning) hlast
    rw [hf] at hobserved
    have hwitness : t.witness.axes = (w.onWitnessAxis a fun x => x.take (w.axis a).entry.processing.tol (f - l)).witness.axes := by
      rw [← State.comparison_witness (s := w) (htaken.mpr hrunning) a (f - l) late, ← hobserved]
      simp [t, v]
    have htol : (w.axis a).entry.processing.tol = (u.axis a).entry.processing.tol := by
      rw [show w.axis a = _ from v.axis_onAxis_self a _ ha]
      rfl
    rw [htol] at hwitness
    obtain ⟨hself, hother⟩ := State.witnessAxis_onWitnessAxis (s := w) (fun x => x.take (u.axis a).entry.processing.tol (f - l)) ha'
    exact ⟨(State.witnessAxis_congr hwitness a).trans hself, fun n hn => (State.witnessAxis_congr hwitness n).trans (hother n hn)⟩
  · have hobserved := State.observeFeedback_of_not_follows (s := v) hpresent data late
      (hnot.imp_left fun h h' => h ⟨h'.1, htaken.mp h'.2⟩)
    have hport := State.settleAt_portKept (s := v.observeFeedback a data late) (by simp [v, State.returned]) slotLate
    have hkept : t.witness = (v.observeFeedback a data late).witness ∧ t.pass = (v.observeFeedback a data late).pass :=
      ⟨State.settleAt_witness _ slotLate, State.settleAt_pass _ slotLate⟩
    rw [hkept.1, hkept.2, show t.port = _ from hport.port, hobserved]
    exact ⟨rfl, rfl, rfl⟩

/-- Settles O37: what is observed decides what the completion changes. -/
theorem forwardedTransactionCompletes : Obligations.ForwardedTransactionCompletes := by
  refine ⟨fun s after data late slotLate d r => ?_, fun s after data late slotLate d r => ?_⟩
  · intro u hd howner hdiscard hnotice hr hread
    have hrow := exec_downstreamComplete_of_downstream s ⟨after, late, slotLate⟩ data hd
    by_cases hobserved : r.cls = .feedback ∧ r.lanes = 0xF ∧ r.throughReset = false
        ∧ ∃ a, r.axis = some a ∧ (u.axis a).entry.feedbackAddr ≠ none
    · obtain ⟨hcls, hlanes, hnormal, a, haxis, hpresent⟩ := hobserved
      rw [State.completeDownstream_observed howner hdiscard hr data late hnotice hread hcls haxis hlanes hnormal] at hrow
      obtain ⟨hlast, hup, hstate, hcontext, hdirectory, htimebase⟩ := u.observed_settleAt r data late slotLate a
      rw [hread] at hlast
      refine ⟨_, hrow, hlast, hup, hstate, hcontext, hdirectory, htimebase, fun hnot => ?_,
        fun a' _ haxis' _ _ ha ha' _ => ?_⟩
      · exfalso
        obtain h | h | h | h := hnot
        · exact h hcls
        · exact h hlanes
        · simp [hnormal] at h
        · exact hpresent (h a haxis)
      · obtain rfl : a = a' := Option.some.inj (haxis.symm.trans haxis')
        exact State.observed_follows u r hpresent data late slotLate ha ha'
    · have hnot : r.write = true ∨ r.cls ≠ .feedback ∨ r.lanes ≠ 0xF ∨ r.throughReset = true
          ∨ ∀ a, r.axis = some a → (u.axis a).entry.feedbackAddr = none := by
        by_contra hall
        obtain ⟨-, hcls, hlanes, hnormal, hpresent⟩ : r.write ≠ true ∧ r.cls = .feedback ∧ r.lanes = 0xF
            ∧ r.throughReset ≠ true ∧ ¬ ∀ a, r.axis = some a → (u.axis a).entry.feedbackAddr = none := by
          simpa only [not_or, not_not, ne_eq] using hall
        obtain ⟨a, ha⟩ := not_forall.mp hpresent
        obtain ⟨haxis, hsome⟩ := Classical.not_imp.mp ha
        exact hobserved ⟨hcls, hlanes, by simpa using hnormal, a, haxis, hsome⟩
      rw [State.completeDownstream_unobserved howner hdiscard hr data late hnotice hnot] at hrow
      have hreturned := u.returned_settleAt r data slotLate
      have hlast := hreturned.lastUpstream
      rw [hread] at hlast
      exact ⟨_, hrow, hlast, hreturned.upstream, congrArg (·.state) hreturned.pass, congrArg (·.context) hreturned.pass,
        hreturned.directory, hreturned.timebase,
        fun _ => ⟨hreturned.axes, hreturned.pass, hreturned.witness, hreturned.port⟩,
        fun a hcls haxis hlanes hnormal _ _ hpresent => absurd ⟨hcls, hlanes, hnormal, a, haxis, hpresent⟩ hobserved⟩
  · intro u hd howner hdiscard hnotice hr hwrite
    have hrow := exec_downstreamComplete_of_downstream s ⟨after, late, slotLate⟩ data hd
    rw [State.completeDownstream_unobserved howner hdiscard hr data late hnotice (.inl hwrite)] at hrow
    have hreturned := u.returned_settleAt r data slotLate
    have hlast := hreturned.lastUpstream
    rw [hwrite] at hlast
    exact ⟨_, hrow, hlast, hreturned.upstream, hreturned.axes, hreturned.pass, hreturned.witness, hreturned.port,
      hreturned.directory, hreturned.timebase, hreturned.camera, hreturned.interpolator, hreturned.writeInProcessing,
      hreturned.queue, hreturned.lines⟩

/-! ## The coherence notice (R110 to R113) -/

/-- The bits of byte lane j are in the mask of a set of lanes exactly when the lane is in the set. -/
theorem getLsbD_laneMask (lanes : BitVec 4) {j i : Nat} (hj : j < 4) (hi : i < 8) :
    (laneMask lanes).getLsbD (8 * j + i) = lanes.getLsbD j := by
  have hall : ∀ b0 b1 b2 b3 : Bool, ∀ j < 4, ∀ i < 8,
      ((if b0 then (0x000000FF : Word) else 0) ||| (if b1 then 0x0000FF00 else 0) ||| (if b2 then 0x00FF0000 else 0)
        ||| (if b3 then 0xFF000000 else 0)).getLsbD (8 * j + i) = [b0, b1, b2, b3].getD j false := by decide
  rw [laneMask, hall _ _ _ _ j hj i hi]
  interval_cases j <;> rfl

theorem extract_mergeLanes (old new : Word) (lanes : BitVec 4) {j : Nat} (hj : j < 4) :
    (mergeLanes old new lanes).extractLsb' (8 * j) 8
      = if lanes.getLsbD j then new.extractLsb' (8 * j) 8 else old.extractLsb' (8 * j) 8 := by
  apply BitVec.eq_of_getLsbD_eq
  intro i hi
  have hmask := getLsbD_laneMask lanes hj hi
  have hin : 8 * j + i < 32 := by omega
  rw [BitVec.getLsbD_eq_getElem (by omega)] at hmask
  cases hlane : lanes.getLsbD j <;> simp [mergeLanes, hi, hin, hmask, hlane]

/-- The word of the take at an address: line i and word w. -/
theorem State.noticeTarget_of_word {s : State} {g : Geometry} {e : TakeEntry} {i w : Nat}
    (hg : s.lineQueue.geometry = some g) (he : s.entry g.root = some e) (hi : i < g.lines) (hw : w ≤ g.trackCount)
    (hline : g.offset + i < e.lines) :
    s.noticeTarget (g.base + ((g.offset + i) * (1 + g.trackCount) + w) * 4) = some (i, w) := by
  have hword : (g.offset + i) * (1 + g.trackCount) + w < e.lines * (1 + g.trackCount) :=
    calc (g.offset + i) * (1 + g.trackCount) + w
        < (g.offset + i) * (1 + g.trackCount) + (1 + g.trackCount) := by omega
      _ = (g.offset + i + 1) * (1 + g.trackCount) := by rw [Nat.succ_mul]
      _ ≤ e.lines * (1 + g.trackCount) := Nat.mul_le_mul_right _ hline
  have hquotient : ((g.offset + i) * (1 + g.trackCount) + w) / (1 + g.trackCount) = g.offset + i := by
    rw [Nat.mul_comm, Nat.mul_add_div (by omega), Nat.div_eq_of_lt (by omega), Nat.add_zero]
  have hremainder : ((g.offset + i) * (1 + g.trackCount) + w) % (1 + g.trackCount) = w := by
    rw [Nat.mul_comm, Nat.mul_add_mod, Nat.mod_eq_of_lt (by omega)]
  simp only [State.noticeTarget, hg, he]
  rw [if_pos ⟨by omega, by rw [lineBytes, ← Nat.mul_assoc]; omega⟩, Nat.add_sub_cancel_left, Nat.mul_div_cancel _ (by omega),
    hquotient, hremainder, if_pos ⟨by omega, by omega⟩, Nat.add_sub_cancel_left]

/-- A queued line of the pass's take after a notice of its line. -/
theorem State.coherenceNotice_of_word {s : State} {g : Geometry} {addr i w : Nat} (hactive : s.queueActive = true)
    (hg : s.lineQueue.geometry = some g) (htarget : s.noticeTarget addr = some (i, w)) (data : Word) (lanes : BitVec 4) :
    let t := s.coherenceNotice addr data lanes
    t.lineQueue = { s.lineQueue with
      lines := s.lineQueue.lines.map fun l => if l.index = i then l.notice g w data lanes else l
      assembly := s.lineQueue.assembly.map fun a =>
        if a.index = i then { a with words := mergeWord a.words w data lanes } else a }
    ∧ (t.flag .tag = true ↔ s.flag .tag = true ∨ ∃ l ∈ s.lineQueue.lines, l.index = i ∧ l.usable = true
        ∧ (l.notice g w data lanes).usable = false) := by
  intro t
  have hbad : (s.lineQueue.lines.any fun l => l.index == i && l.usable && !(l.notice g w data lanes).usable) = true ↔
      ∃ l ∈ s.lineQueue.lines, l.index = i ∧ l.usable = true ∧ (l.notice g w data lanes).usable = false := by
    simp [List.any_eq_true, and_assoc]
  rw [← hbad]
  simp only [t, State.coherenceNotice, hactive, if_true, hg, htarget]
  split
  next h =>
    refine ⟨rfl, ?_⟩
    rw [State.flag_raise]
    simp [h]
  next h =>
    refine ⟨rfl, ?_⟩
    simp only [h, Bool.false_eq_true, or_false]
    rfl

theorem State.coherenceNotice_of_inactive {s : State} (h : s.queueActive = false) (addr : Nat) (data : Word)
    (lanes : BitVec 4) : s.coherenceNotice addr data lanes = s := by
  rw [State.coherenceNotice, if_neg (by simp [h])]

/-- A queued line of line i after a notice of its word w; its tag word is checked again. -/
theorem QueuedLine.notice_eq (l : QueuedLine) {g : Geometry} {i : Nat} (hl : l.index = i) (w : Nat) (data : Word)
    (lanes : BitVec 4) :
    let merged := l.words.modify w fun old => mergeLanes old data lanes
    let good : Prop := (merged.headD 0).toNat % 65536 = (g.offset + i) % 65536 ∧ (merged.headD 0).toNat / 65536 % 64 = g.root
    l.notice g w data lanes = { l with words := merged, usable := if w = 0 then decide good else l.usable } := by
  intro merged good
  have hgood : g.tagGood l.index merged = decide good := by
    rw [hl, Bool.eq_iff_iff, decide_eq_true_iff]
    exact g.tagGood_iff i merged
  unfold QueuedLine.notice
  dsimp only
  split
  · exact congrArg (QueuedLine.mk l.index merged) hgood
  · rfl

/-- Settles O38. -/
theorem coherenceNoticeUpdatesLine : Obligations.CoherenceNoticeUpdatesLine := by
  refine ⟨fun old new lanes j => extract_mergeLanes old new lanes, fun s after data late slotLate d r => ?_⟩
  intro u hd howner hdiscard hnotice hr hwrite
  have hrow := exec_downstreamComplete_of_downstream s ⟨after, late, slotLate⟩ data hd
  rw [State.completeDownstream_noticed howner hdiscard hr data late hnotice hwrite] at hrow
  let v : State := u.returned r data
  let n : State := v.coherenceNotice d.address d.data d.lanes
  have hport := State.settleAt_portKept (s := n) (by simp [n, v, State.returned]) slotLate
  have hflag : (n.settleAt slotLate).flag .tag = n.flag .tag :=
    State.flag_settleAt _ (by decide) (by decide) slotLate
  have hlines : (n.settleAt slotLate).lineQueue.lines = n.lineQueue.lines := by simp
  refine ⟨_, hrow, hport.upstream, ?_, ?_, ?_, ?_, ?_, fun hinactive => ?_, fun g e i w hactive hg he hi hw hline haddr => ?_⟩
  · simp [State.returned]
  · simp [State.returned]
  · simp [State.returned]
  · simp [State.returned]
  · simp [State.returned]
  · have hsame : n = v := State.coherenceNotice_of_inactive (s := v) hinactive d.address d.data d.lanes
    exact ⟨hlines.trans (by rw [hsame]; rfl), hflag.trans (by rw [hsame]; rfl)⟩
  · intro merged good
    have htarget : v.noticeTarget d.address = some (i, w) := by
      rw [haddr]
      exact State.noticeTarget_of_word hg he hi hw hline
    obtain ⟨hqueue, htag⟩ := State.coherenceNotice_of_word (s := v) hactive hg htarget d.data d.lanes
    have hnoticed (l : QueuedLine) (hl : l.index = i) : l.notice g w d.data d.lanes = { l with
        words := merged l.words, usable := if w = 0 then decide (good (merged l.words)) else l.usable } :=
      l.notice_eq hl w d.data d.lanes
    refine ⟨?_, ?_, fun a ha => ?_⟩
    · rw [hlines, show n.lineQueue = _ from hqueue]
      refine List.map_congr_left fun l _ => ?_
      split
      next hl => exact hnoticed l hl
      · rfl
    · rw [hflag, htag]
      refine or_congr Iff.rfl ⟨?_, ?_⟩
      · rintro ⟨l, hmem, hl, husable, hbad⟩
        rw [hnoticed l hl] at hbad
        by_cases hw0 : w = 0
        · exact ⟨hw0, l, hmem, hl, husable, by simpa [hw0] using hbad⟩
        · simp [hw0, husable] at hbad
      · rintro ⟨hw0, l, hmem, hl, husable, hbad⟩
        exact ⟨l, hmem, hl, husable, by rw [hnoticed l hl]; simpa [hw0] using hbad⟩
    · have hassembly : n.lineQueue.assembly = some (if a.index = i then { a with words := merged a.words } else a) := by
        rw [show n.lineQueue = _ from hqueue]
        show Option.map _ u.lineQueue.assembly = _
        rw [ha]
        rfl
      obtain ⟨hassembled, -⟩ := n.settleAt_of_assembly slotLate (by rw [hassembly]; simp)
      have hkept : (n.settleAt slotLate).lineQueue.assembled =
          some (a.index, if a.index = i then merged a.words else a.words) := by
        rw [hassembled, LineQueue.assembled, hassembly, Option.map_some]
        split <;> rfl
      obtain ⟨b, hb, heq⟩ := Option.map_eq_some_iff.mp hkept
      exact ⟨b, hb, congrArg Prod.fst heq, congrArg Prod.snd heq⟩

end Sys2Proof.Machine
end

section
/-! Proofs about the taking of a full-word target write: not held (R37, R136, R158 to R164), or held for an interpolation
(R104, R105, R108, R109, R117 to R120, R157). -/

namespace Sys2Proof.Machine

/-! ## The saturation of the written data (R158) -/

/-- The written data left the 24-bit range. -/
def outOfRange (v : Int) : Bool := decide (saturate24 v ≠ v)

/-- An axis whose written data may have been saturated. -/
def Axis.saturated (ax : Axis) (b : Bool) : Axis := { ax with sat := ax.sat || b, satSince := ax.satSince || b }

section
variable (s : State) (a : Nat) (v : Int)

theorem State.saturateWrite_axis_self (ha : a < s.axes.length) :
    (s.saturateWrite a v).axis a = (s.axis a).saturated (outOfRange v) := by
  unfold State.saturateWrite outOfRange
  split
  next h => simp [h, Axis.saturated]
  next h =>
    rw [State.axis_congr (s := s.onAxis a fun ax => { ax with sat := true, satSince := true }) (by simp),
      s.axis_onAxis_self a _ ha]
    simp [h, Axis.saturated]

theorem State.saturateWrite_axis_ne {n : Nat} (hn : n ≠ a) : (s.saturateWrite a v).axis n = s.axis n := by
  unfold State.saturateWrite
  split
  · rfl
  · rw [State.axis_congr (s := s.onAxis a fun ax => { ax with sat := true, satSince := true }) (by simp),
      s.axis_onAxis_ne a n _ hn]

theorem State.flag_saturateWrite (ev : Event) :
    (s.saturateWrite a v).flag ev = (s.flag ev || (decide (ev = .saturate) && outOfRange v)) := by
  unfold State.saturateWrite outOfRange
  split
  next h => simp [h]
  next h =>
    have hmarked : (s.onAxis a fun ax => { ax with sat := true, satSince := true }).flag ev = s.flag ev := rfl
    rw [State.flag_report, State.flag_raise, hmarked]
    simp [h]

theorem State.report_pass (f : Summary → Summary) : (s.report f).pass =
    if s.pass.state = .idle then s.pass else { s.pass with summary := s.pass.summary.map f } := by
  unfold State.report
  split <;> rfl

theorem State.saturateWrite_pass : (s.saturateWrite a v).pass =
    if s.pass.state = .idle ∨ outOfRange v = false then s.pass
    else { s.pass with summary := s.pass.summary.map Summary.addSaturate } := by
  unfold State.saturateWrite outOfRange
  split
  next h => simp [h]
  next h =>
    rw [State.report_pass, if_congr (or_iff_left (by simp [h])) rfl rfl]
    rfl

/-! ## The hand-back of a candidate (R161 to R163) -/

/-- A bound changed the candidate. -/
def Bounded.changed (b : Machine.Bounded) : Bool := b.clamped || b.stepped

theorem State.reportClamp_pass : s.reportClamp.pass = (s.report Summary.addClamp).pass := by
  unfold State.reportClamp
  dsimp only
  split <;> simp

theorem State.handBack_pass : (s.handBack a v).pass =
    if s.pass.state = .idle ∨ (s.bounds a v).changed = false then s.pass
    else { s.pass with summary := s.pass.summary.map Summary.addClamp } := by
  rw [State.handBack_eq]
  dsimp only
  cases hchanged : (s.bounds a v).clamped || (s.bounds a v).stepped with
  | false =>
    rw [if_neg (by simp), if_pos (.inr hchanged)]
    rfl
  | true =>
    rw [if_pos rfl, if_congr (or_iff_left (by simp [Bounded.changed, hchanged])) rfl rfl]
    refine (State.reportClamp_pass _).trans ?_
    rw [State.report_pass]
    rfl

theorem State.flag_handBack_eq (ev : Event) :
    (s.handBack a v).flag ev = (s.flag ev || (decide (ev = .clamp) && (s.bounds a v).changed)) := by
  rw [State.handBack_eq]
  dsimp only
  cases hchanged : (s.bounds a v).clamped || (s.bounds a v).stepped with
  | false =>
    rw [if_neg (by simp), Bounded.changed, hchanged, Bool.and_false, Bool.or_false]
    rfl
  | true =>
    rw [if_pos rfl, Bounded.changed, hchanged, Bool.and_true]
    have hraised : ((s.onAxis a fun ax => ax.forwarded (s.bounds a v)).raise .clamp).flag ev =
        (s.flag ev || decide (ev = .clamp)) := State.flag_raise _ _ _
    rw [← hraised]
    exact State.flag_congr (by simp [State.fixForward]) ev

theorem State.handBack_upstream : (s.handBack a v).memory.upstream = s.memory.upstream.map fun t =>
    { t with forwardData := some (sampleWord (s.bounds a v).value), phase := .waiting } := by
  rw [State.handBack_eq]
  dsimp only
  split <;> simp [State.fixForward]

/-- Only a RECORD pass takes note of a clamp in its entry. -/
theorem State.handBack_directory_of (h : (s.bounds a v).changed = false ∨ s.mode ≠ some .record) :
    (s.handBack a v).directory = s.directory := by
  rw [State.handBack_eq]
  dsimp only
  split
  next hchanged =>
    have hmode : s.mode ≠ some .record := h.resolve_left (by rw [Bounded.changed, hchanged]; simp)
    have hreport : (((s.onAxis a fun ax => ax.forwarded (s.bounds a v)).raise .clamp).report Summary.addClamp).mode = s.mode := by
      simp [State.mode]
    simp only [State.fixForward, State.reportClamp, hreport, hmode, false_and, if_false]
    simp
  · rfl

end

/-- RECORD_INFO of the pass's RECORDING take follows the clamps of the summary (R37, R162). -/
theorem State.entry_followClamps {s : State} {c : PassContext} {m : Summary} {e : TakeEntry}
    (hc : s.pass.context = some c) (hm : s.pass.summary = some m) (he : s.entry c.take = some e) :
    s.followClamps.entry c.take = some (if e.state = .recording then
        { e with recordInfo := e.recordInfo.map fun i => { i with clamps := m.clamps } } else e)
      ∧ ∀ n, n ≠ c.take → s.followClamps.entry n = s.entry n := by
  simp only [State.followClamps, hc, hm]
  exact ⟨s.entry_onEntry_self c.take e _ he, fun n hn => s.entry_onEntry_ne c.take n _ hn⟩

theorem State.handBack_entry {s : State} {a : Nat} {v : Int} {c : PassContext} {m : Summary} {e : TakeEntry}
    (hchanged : (s.bounds a v).changed = true) (hrecord : c.mode = .record) (hactive : s.pass.state ≠ .idle)
    (hc : s.pass.context = some c) (hm : s.pass.summary = some m) (he : s.entry c.take = some e) :
    (s.handBack a v).entry c.take = some (if e.state = .recording then
        { e with recordInfo := e.recordInfo.map fun i => { i with clamps := (Summary.addClamp m).clamps } } else e)
      ∧ ∀ n, n ≠ c.take → (s.handBack a v).entry n = s.entry n := by
  let u : State := ((s.onAxis a fun ax => ax.forwarded (s.bounds a v)).raise .clamp).report Summary.addClamp
  have hpass : u.pass = { s.pass with summary := s.pass.summary.map Summary.addClamp } :=
    (State.report_pass _ _).trans (if_neg hactive)
  have hcontext : u.pass.context = some c := by rw [hpass, hc]
  have hsummary : u.pass.summary = some (Summary.addClamp m) := by
    rw [hpass, hm]
    rfl
  have hfollow : s.handBack a v = u.followClamps.fixForward (s.bounds a v).value := by
    rw [State.handBack_eq]
    dsimp only
    rw [if_pos (show ((s.bounds a v).clamped || (s.bounds a v).stepped) = true from hchanged), State.reportClamp]
    rw [if_pos ⟨by rw [State.mode, hcontext, Option.map_some, hrecord], by rw [hpass]; exact hactive⟩]
  have hentry (n : Nat) : u.entry n = s.entry n := State.entry_congr (by simp [u]) n
  obtain ⟨hself, hother⟩ := State.entry_followClamps hcontext hsummary ((hentry c.take).trans he)
  rw [hfollow]
  exact ⟨hself, fun n hn => (hother n hn).trans (hentry n)⟩

/-! ## The port at the end of a row whose transaction is not blocked -/

/-- The transaction of the port stays, only its phase may move on; nothing is blocked. -/
structure State.TxnKept (s t : State) (r : UpstreamTxn) : Prop where
  upstream : ∃ phase, t.memory.upstream = some { r with phase := phase }
  unmoved : r.phase ≠ .waiting → t.memory.upstream = some r
  port : t.port = s.port

theorem State.arbitrate_txnKept {s : State} {r : UpstreamTxn} (h : s.memory.upstream = some r)
    (hforward : r.phase = .waiting → ∃ notice, s.grantDecision r = .forward notice) : s.TxnKept s.arbitrate r := by
  have hkept (d : DownstreamTxn) : s.TxnKept (s.grantTake d) r :=
    ⟨⟨r.phase, by simpa using h⟩, fun _ => by simpa using h, State.startTake_port _ d⟩
  by_cases hfree : s.memory.downstream = none
  · cases hwaiting : s.waitingUpstream with
    | none =>
      cases hd : s.takeRequest with
      | none =>
        rw [State.arbitrate_of_none s hwaiting hd]
        exact ⟨⟨r.phase, h⟩, fun _ => h, rfl⟩
      | some d =>
        rw [State.arbitrate_of_take hfree hd (.inl hwaiting)]
        exact hkept d
    | some r' =>
      obtain ⟨hr', hphase⟩ := State.upstream_of_waiting hwaiting
      cases h.symm.trans hr'
      obtain ⟨notice, hdecision⟩ := hforward hphase
      by_cases htake : s.takeRequest = none ∨ s.takeUrgent = false ∨ 4 ≤ s.memory.urgentRun
      · rw [State.arbitrate_of_forward hfree hwaiting hdecision htake]
        exact ⟨⟨.downstream, rfl⟩, fun hnot => absurd hphase hnot, rfl⟩
      · obtain ⟨d, hd⟩ := Option.ne_none_iff_exists'.mp fun hnone => htake (.inl hnone)
        have hurgent : s.takeUrgent = true ∧ s.memory.urgentRun < 4 := by
          refine ⟨?_, Nat.lt_of_not_le fun hle => htake (.inr (.inr hle))⟩
          exact Bool.eq_true_of_not_eq_false fun hfalse => htake (.inr (.inl hfalse))
        rw [State.arbitrate_of_take hfree hd (.inr hurgent)]
        exact hkept d
  · rw [State.arbitrate_of_busy s (Option.isSome_iff_ne_none.mpr hfree)]
    exact ⟨⟨r.phase, h⟩, fun _ => h, rfl⟩

theorem State.settleAt_txnKept {s : State} {r : UpstreamTxn} (h : s.memory.upstream = some r)
    (hforward : r.phase = .waiting → ∃ notice, s.grantDecision r = .forward notice) (late : Bool) :
    s.TxnKept (s.settleAt late) r := by
  have hfetch : s.startFetch.memory.upstream = some r := by simpa using h
  have hport : s.startFetch.port = s.port := by simp
  have hdecision : s.startFetch.grantDecision r = s.grantDecision r :=
    State.grantDecision_congr (by simp) (by simp) (by simp) r
  have hsettle : s.TxnKept s.settle r := by
    unfold State.settle
    split
    · exact State.arbitrate_txnKept h hforward
    · obtain ⟨hphase, hunmoved, hkept⟩ := State.arbitrate_txnKept hfetch (by simpa only [hdecision] using hforward)
      exact ⟨hphase, hunmoved, hkept.trans hport⟩
  unfold State.settleAt
  split
  · exact ⟨⟨r.phase, hfetch⟩, fun _ => hfetch, hport⟩
  · exact hsettle

/-! ## The row of a full-word TARGET write (R136, R159) -/

/-- The transaction at the axis unit. -/
def State.atAxis (s : State) (addr : Nat) (data : Word) : UpstreamTxn :=
  { s.newUpstream true addr 0xF data with forwardData := none, phase := .atAxis }

/-- The state that gives a full-word TARGET write to the axis unit. -/
def State.toAxis (s : State) (addr : Nat) (data : Word) : State :=
  { s with memory := { s.memory with upstream := some (s.atAxis addr data) } }

theorem exec_upstreamTransactionTaken_of_fullWord {s u : State} {after a : Nat} {slotLate : Bool} {address : BitVec 22}
    {data : Word} (hu : s.elapse after = u) (hup : u.memory.upstream = none) (hreset : u.resetControl.inForce = false)
    (htarget : u.targetAxis (address.toNat * 4) = some a) :
    exec (.upstreamTransactionTaken ⟨after, slotLate⟩ true address 0xF data) s =
      .next (((u.toAxis (address.toNat * 4) data).takeTargetWrite a data.toInt).settleAt slotLate) := by
  subst hu
  rw [exec_upstreamTransactionTaken_of_free (presented := ⟨after, slotLate⟩) hup]
  refine congrArg Host.Outcome.next ?_
  simp only [State.takeUpstream, State.newUpstream, State.classify_of_target hreset htarget, fullWord, State.toAxis,
    State.atAxis]
  rfl

/-- The write of an axis is held for an interpolation (R159). -/
def State.holds (s : State) (a : Nat) : Prop :=
  ∃ c, s.pass.context = some c ∧ c.tracks.getLsbD a = true
    ∧ ((c.mode = .replay ∧ s.pass.state ≠ .idle ∧ s.pass.state ≠ .ending)
      ∨ (c.mode = .witness ∧ s.pass.state = .running ∧ (s.axis a).entry.processing.source = .command))

theorem State.writeRow_of_not_holds {s : State} {a : Nat} (h : ¬ s.holds a) : s.writeRow a = none := by
  unfold State.writeRow State.isTrack
  cases hc : s.pass.context with
  | none => rfl
  | some c =>
    by_cases htrack : c.tracks.getLsbD a = true
    · have hnot : ¬ ((c.mode = .replay ∧ s.pass.state ≠ .idle ∧ s.pass.state ≠ .ending)
          ∨ (c.mode = .witness ∧ s.pass.state = .running ∧ (s.axis a).entry.processing.source = .command)) :=
        fun hrow => h ⟨c, hc, htrack, hrow⟩
      cases hmode : c.mode <;> cases hstate : s.pass.state <;> simp_all [State.mode]
    · simp [htrack]

theorem State.writeRow_of_holds {s : State} {a : Nat} {c : PassContext} (hc : s.pass.context = some c)
    (htrack : c.tracks.getLsbD a = true)
    (h : (c.mode = .replay ∧ s.pass.state ≠ .idle ∧ s.pass.state ≠ .ending)
      ∨ (c.mode = .witness ∧ s.pass.state = .running ∧ (s.axis a).entry.processing.source = .command)) :
    s.writeRow a = some (if c.mode = .replay then .replay else .witness) := by
  have hmode : s.mode = some c.mode := by rw [State.mode, hc, Option.map_some]
  have hisTrack : s.isTrack a = true := by rw [State.isTrack, hc]; exact htrack
  unfold State.writeRow
  rw [hisTrack, hmode]
  obtain ⟨hreplay, hidle, hending⟩ | ⟨hwitness, hrunning, hsource⟩ := h
  · rw [hreplay]
    cases hstate : s.pass.state
    case idle => exact absurd hstate hidle
    case ending => exact absurd hstate hending
    all_goals rfl
  · simp [hwitness, hrunning, hsource]

/-! ## A write that is not held -/

/-- The write saturated, bounded and fixed at once. -/
def State.fixWrite (s : State) (a : Nat) (v : Int) : State := (s.saturateWrite a v).handBack a (saturate24 v)

theorem State.takeTargetWrite_of_not_holds {s : State} {a : Nat} (h : ¬ s.holds a) (v : Int) :
    s.takeTargetWrite a v = s.fixWrite a v := by
  simp only [State.takeTargetWrite, State.writeRow_of_not_holds h, State.fixWrite]

section
variable (s : State) (a : Nat) (v : Int)

theorem State.saturateWrite_length : (s.saturateWrite a v).axes.length = s.axes.length := by
  unfold State.saturateWrite
  split
  · rfl
  · simp [State.onAxis]

theorem State.saturateWrite_axis_of_absent (ha : ¬ a < s.axes.length) : (s.saturateWrite a v).axis a = s.axis a := by
  have hlength := s.saturateWrite_length a v
  rw [State.axis, State.axis, List.getD_eq_default _ _ (by omega), List.getD_eq_default _ _ (by omega)]

theorem State.saturateWrite_bounds (c : Int) : (s.saturateWrite a v).bounds a c = s.bounds a c := by
  by_cases ha : a < s.axes.length
  · rw [State.bounds, s.saturateWrite_axis_self a v ha]
    rfl
  · rw [State.bounds, s.saturateWrite_axis_of_absent a v ha]
    rfl

theorem State.fixWrite_axis_self (ha : a < s.axes.length) : (s.fixWrite a v).axis a =
    ((s.axis a).saturated (outOfRange v)).forwarded (s.bounds a (saturate24 v)) := by
  have hlength : a < (s.saturateWrite a v).axes.length := by rwa [s.saturateWrite_length]
  rw [State.fixWrite, State.handBack_axis_self _ a _ hlength, s.saturateWrite_axis_self a v ha, s.saturateWrite_bounds]

theorem State.fixWrite_axis_ne {n : Nat} (hn : n ≠ a) : (s.fixWrite a v).axis n = s.axis n := by
  rw [State.fixWrite, State.handBack_axis_ne _ a n _ hn, s.saturateWrite_axis_ne a v hn]

theorem State.flag_fixWrite (ev : Event) : (s.fixWrite a v).flag ev = (s.flag ev
    || (decide (ev = .saturate) && outOfRange v) || (decide (ev = .clamp) && (s.bounds a (saturate24 v)).changed)) := by
  rw [State.fixWrite, State.flag_handBack_eq, State.flag_saturateWrite, s.saturateWrite_bounds]

/-- The summary with the counts of a fixed write. -/
def Summary.countWrite (m : Summary) (saturated changed : Bool) : Summary := { m with
  saturates := if saturated then min (m.saturates + 1) 4294967295 else m.saturates
  clamps := if changed then min (m.clamps + 1) 4294967295 else m.clamps }

theorem Summary.countWrite_eq (m : Summary) (saturated changed : Bool) : m.countWrite saturated changed =
    (if changed then Summary.addClamp else id) ((if saturated then Summary.addSaturate else id) m) := by
  cases saturated <;> cases changed <;> rfl

theorem State.fixWrite_pass : (s.fixWrite a v).pass =
    if s.pass.state = .idle then s.pass else { s.pass with
      summary := s.pass.summary.map fun m => m.countWrite (outOfRange v) (s.bounds a (saturate24 v)).changed } := by
  rw [State.fixWrite, State.handBack_pass, s.saturateWrite_bounds, State.saturateWrite_pass]
  by_cases hidle : s.pass.state = .idle
  · simp [hidle]
  · cases outOfRange v <;> cases (s.bounds a (saturate24 v)).changed <;>
      simp [hidle, Summary.countWrite_eq, Function.comp_def]

theorem State.fixWrite_directory_of (h : (s.bounds a (saturate24 v)).changed = false ∨ s.mode ≠ some .record) :
    (s.fixWrite a v).directory = s.directory := by
  rw [State.fixWrite, State.handBack_directory_of _ a _ (by
    rw [s.saturateWrite_bounds]
    simpa [State.mode] using h)]
  simp

theorem State.fixWrite_directory_of_idle (h : s.pass.state = .idle) : (s.fixWrite a v).directory = s.directory := by
  rw [State.fixWrite, (State.handBack_of_idle (by simpa using h) a _).2]
  simp

theorem State.fixWrite_upstream : (s.fixWrite a v).memory.upstream = s.memory.upstream.map fun t =>
    { t with forwardData := some (sampleWord (s.bounds a (saturate24 v)).value), phase := .waiting } := by
  rw [State.fixWrite, State.handBack_upstream, s.saturateWrite_bounds]
  simp

end

/-- RECORD_INFO of the pass's RECORDING take follows the clamps of a fixed write (R37, R162). -/
theorem State.fixWrite_entry {s : State} {a : Nat} {v : Int} {c : PassContext} {m : Summary} {e : TakeEntry}
    (hchanged : (s.bounds a (saturate24 v)).changed = true) (hrecord : c.mode = .record) (hactive : s.pass.state ≠ .idle)
    (hc : s.pass.context = some c) (hm : s.pass.summary = some m) (he : s.entry c.take = some e) :
    (s.fixWrite a v).entry c.take = some (if e.state = .recording then
        { e with recordInfo := e.recordInfo.map fun i => { i with clamps := min (m.clamps + 1) 4294967295 } } else e)
      ∧ ∀ n, n ≠ c.take → (s.fixWrite a v).entry n = s.entry n := by
  let u : State := s.saturateWrite a v
  have hentry (n : Nat) : u.entry n = s.entry n := State.entry_congr (by simp [u]) n
  have hclamps : ∃ m', u.pass.summary = some m' ∧ m'.clamps = m.clamps := by
    rw [show u.pass = _ from s.saturateWrite_pass a v]
    split
    · exact ⟨m, hm, rfl⟩
    · exact ⟨Summary.addSaturate m, by rw [hm]; rfl, rfl⟩
  obtain ⟨m', hm', hsame⟩ := hclamps
  obtain ⟨hself, hother⟩ := State.handBack_entry (s := u) (a := a) (v := saturate24 v)
    (by rw [s.saturateWrite_bounds]; exact hchanged) hrecord (by simpa [u] using hactive) (by simpa [u] using hc) hm'
    ((hentry c.take).trans he)
  refine ⟨hself.trans ?_, fun n hn => (hother n hn).trans (hentry n)⟩
  rw [show (Summary.addClamp m').clamps = min (m.clamps + 1) 4294967295 by rw [← hsame]; rfl]

/-- Settles O40: the write is saturated, handed back at once, and its transaction then passes the checks of the grant. -/
theorem targetWriteNotHeld : Obligations.TargetWriteNotHeld := by
  intro s after a slotLate address data u v b saturated changed count held hup hreset htarget hheld hin
  let addr : Nat := address.toNat * 4
  have ha : a < u.axes.length := u.targetAxis_lt _ a htarget
  have hv : saturate24 data.toInt = v := saturate24_eq _
  have hsaturated : outOfRange data.toInt = saturated := by rw [outOfRange, hv]
  let w0 : State := u.toAxis addr data
  let w : State := w0.fixWrite a data.toInt
  have hrow := exec_upstreamTransactionTaken_of_fullWord (slotLate := slotLate) (data := data)
    (show s.elapse after = u from rfl) hup hreset htarget
  rw [State.takeTargetWrite_of_not_holds (s := u.toAxis (address.toNat * 4) data) hheld] at hrow
  have hbounds : w0.bounds a (saturate24 data.toInt) = b := by rw [hv]; rfl
  let r : UpstreamTxn := { u.atAxis addr data with forwardData := some (sampleWord b.value), phase := .waiting }
  have hr : w.memory.upstream = some r := (w0.fixWrite_upstream a data.toInt).trans (by rw [hbounds]; rfl)
  have hcls : r.cls = .target ∧ r.axis = some a := by
    show (u.classify addr).1 = .target ∧ (u.classify addr).2 = some a
    rw [State.classify_of_target hreset htarget]
    exact ⟨rfl, rfl⟩
  have hregion : ¬ w.guardedWrite r := fun h => by
    obtain ⟨hregion, -⟩ := h
    have hnot : w.inRegion r.address = false := by
      have hbase : w.directory.regionBase = u.directory.regionBase := by simp [w, w0, State.fixWrite, State.toAxis]
      have hsize : w.directory.regionSize = u.directory.regionSize := by simp [w, w0, State.fixWrite, State.toAxis]
      rw [← hin, State.inRegion, State.inRegion, hbase, hsize]
      rfl
    rw [hcls.1, hnot] at hregion
    simp at hregion
  have hforward : w.grantDecision r = .forward (r.cls == .region || w.inRegion r.address) :=
    State.grantDecision_of_unchecked (by simpa [w, State.fixWrite, w0, State.toAxis] using hreset) rfl
      (fun h => h.1 hcls.1) hregion
  obtain ⟨⟨phase, hphase⟩, -, hport⟩ := State.settleAt_txnKept hr (fun _ => ⟨_, hforward⟩) slotLate
  have haxis (n : Nat) : (w.settleAt slotLate).axis n = w.axis n := State.axis_congr (by simp) n
  have hself : (w.settleAt slotLate).axis a = ((u.axis a).saturated saturated).forwarded b := by
    rw [haxis, show w.axis a = _ from w0.fixWrite_axis_self a data.toInt ha, hbounds, hsaturated]
    rfl
  have hflag (ev : Event) : (w.settleAt slotLate).flag ev =
      (u.flag ev || (decide (ev = .saturate) && saturated) || (decide (ev = .clamp) && changed)) := by
    rw [State.flag_congr (s := w) (by rw [hport]) ev, show w.flag ev = _ from w0.flag_fixWrite a data.toInt ev, hbounds,
      hsaturated]
    rfl
  have hpass : (w.settleAt slotLate).pass = if u.pass.state = .idle then u.pass else
      { u.pass with summary := u.pass.summary.map fun m => m.countWrite saturated changed } := by
    rw [State.settleAt_pass, show w.pass = _ from w0.fixWrite_pass a data.toInt, hbounds, hsaturated]
    rfl
  have hdirectory (h : changed = false ∨ u.mode ≠ some .record) : (w.settleAt slotLate).directory = u.directory := by
    rw [State.settleAt_directory]
    exact w0.fixWrite_directory_of a data.toInt (by rw [hbounds]; exact h)
  have hentry (n : Nat) : (w.settleAt slotLate).entry n = w.entry n := w.entry_settleAt slotLate n
  refine ⟨w.settleAt slotLate, hrow, by rw [hself]; rfl, ?_, by rw [hself]; rfl, by rw [hself]; rfl, by rw [hself]; rfl,
    by rw [hself]; rfl, by rw [hself]; rfl, ?_, ?_, by simp [w, w0, State.fixWrite, State.toAxis],
    by simp [w, w0, State.fixWrite, State.toAxis], fun hidle => ⟨hpass.trans (if_pos hidle),
      (w.settleAt_directory slotLate).trans (w0.fixWrite_directory_of_idle a data.toInt hidle)⟩,
    fun hactive => hpass.trans (if_neg hactive), hdirectory, ?_,
    fun n hn => (haxis n).trans (w0.fixWrite_axis_ne a data.toInt hn), by simp [w, w0, State.fixWrite, State.toAxis],
    by simp [w, w0, State.fixWrite, State.toAxis]⟩
  · rw [hphase, Option.map_some, hcls.1, hcls.2]
    rfl
  · rw [hflag]
    simp
  · rw [hflag]
    simp
  · intro c m e hc hrecord hactive hchanged hm he
    obtain ⟨htake, hother⟩ := State.fixWrite_entry (s := w0) (a := a) (v := data.toInt) (by rw [hbounds]; exact hchanged)
      hrecord hactive hc hm he
    exact ⟨(hentry _).trans htake, fun n hn => (hentry n).trans (hother n hn)⟩

end Sys2Proof.Machine
end

section
/-! Proofs about the taking of a target write that is held for an interpolation (R104, R105, R108, R109, R117 to R120,
R157). -/

namespace Sys2Proof.Machine

/-! ## The track place (R120) -/

/-- The track place counts the tracks below the axis. -/
theorem trackPlace_of_track {tracks : AxisSet} {a : Nat} (h : tracks.getLsbD a = true) :
    trackPlace tracks a = some (((List.range a).filter fun n => tracks.getLsbD n).length + 1) := by
  have ha : a < 16 := BitVec.lt_of_getLsbD h
  have hrange : List.range 16 = List.range a ++ a :: (List.range (15 - a)).map (a + 1 + ·) := by
    rw [show 16 = a + (15 - a + 1) by omega, List.range_add, List.range_succ_eq_map]
    simp [Function.comp_def, Nat.add_comm]
    omega
  have hbelow : ((List.range a).filter fun n => tracks.getLsbD n).findIdx? (fun n => n == a) = none := by
    refine List.findIdx?_eq_none_iff.mpr fun n hn => ?_
    have hlt : n < a := List.mem_range.mp (List.mem_filter.mp hn).1
    simp [Nat.ne_of_lt hlt]
  rw [trackPlace, trackList, hrange, List.filter_append, List.filter_cons_of_pos (by exact h), List.findIdx?_append, hbelow]
  simp [List.findIdx?_cons]

/-! ## The request (R117 to R119) -/

/-- The inputs an interpolation captures at a place of the take, from the lines queued. -/
def State.interpRequest (s : State) (c : PassContext) (g : Geometry) (a : Nat) (mode : PassMode)
    (place : ReadAt × Nat × Nat) : InterpRequest where
  axis := a
  mode := mode
  interp := c.interp.getD .step
  readAt := place.1
  sIndex := place.2.1
  phase := place.2.2
  slots := (neededLines place.2.1 g.lines).map fun i => ⟨i, s.lineQueue.copyOf i⟩
  scale := (s.axis a).entry.processing.scale
  offset := (s.axis a).entry.processing.offset
  place := (trackPlace c.tracks a).getD 1

/-- A needed line has no copy (R109). -/
def InterpRequest.starves (r : InterpRequest) : Bool := r.slots.any fun sl => sl.line.isNone

/-- An interpolation is in flight. -/
def State.requested (s : State) (r : InterpRequest) : State :=
  { s with interpolator := { s.interpolator with inFlight := some r } }

theorem State.requestInterpolation_eq {s : State} {g : Geometry} {c : PassContext} (hg : s.lineQueue.geometry = some g)
    (hc : s.pass.context = some c) (a : Nat) (mode : PassMode) :
    s.requestInterpolation a mode =
      let u := s.evaluateLine (s.readPlace g).2.1
      let r := u.interpRequest c g a mode (s.readPlace g)
      if r.starves then ((u.requested r).raise .starve).report Summary.addStarve else u.requested r := by
  simp only [State.requestInterpolation, hg, hc]
  rfl

/-- What a request leaves of the rest: only the starvation is reported. -/
structure State.RequestedAs (s t : State) (r : InterpRequest) : Prop where
  inFlight : t.interpolator.inFlight = some r
  lineQueue : t.lineQueue = (s.evaluateLine r.sIndex).lineQueue
  flag : ∀ ev, t.flag ev = (s.flag ev || (decide (ev = .starve) && r.starves))
  pass : t.pass = if r.starves then (s.report Summary.addStarve).pass else s.pass
  axes : t.axes = s.axes
  writeInProcessing : t.writeInProcessing = s.writeInProcessing
  upstream : t.memory.upstream = s.memory.upstream
  timebase : t.timebase = s.timebase
  witness : t.witness = s.witness

theorem State.requestInterpolation_requestedAs {s : State} {g : Geometry} {c : PassContext}
    (hg : s.lineQueue.geometry = some g) (hc : s.pass.context = some c) (a : Nat) (mode : PassMode) :
    s.RequestedAs (s.requestInterpolation a mode)
      ((s.evaluateLine (s.readPlace g).2.1).interpRequest c g a mode (s.readPlace g)) := by
  rw [State.requestInterpolation_eq hg hc]
  dsimp only
  generalize hr : (s.evaluateLine (s.readPlace g).2.1).interpRequest c g a mode (s.readPlace g) = r
  have hindex : (s.readPlace g).2.1 = r.sIndex := by rw [← hr]; rfl
  rw [hindex]
  have hflag (ev : Event) : ((s.evaluateLine r.sIndex).requested r).flag ev = s.flag ev :=
    State.flag_congr (by simp [State.requested]) ev
  split
  next hstarves =>
    refine ⟨by simp [State.requested], by simp [State.requested], fun ev => ?_, ?_, by simp [State.requested],
      by simp [State.requested], by simp [State.requested], by simp [State.requested], by simp [State.requested]⟩
    · rw [State.flag_report, State.flag_raise, hflag, hstarves, Bool.and_true]
    · rw [State.report_pass, if_pos hstarves, State.report_pass]
      simp [State.requested]
  next hfed =>
    refine ⟨rfl, rfl, fun ev => ?_, ?_, by simp [State.requested],
      by simp [State.requested], by simp [State.requested], by simp [State.requested], by simp [State.requested]⟩
    · rw [hflag, Bool.eq_false_of_not_eq_true hfed, Bool.and_false, Bool.or_false]
    · rw [if_neg hfed]
      simp [State.requested]

theorem State.readPlace_congr {s u : State} (hstate : u.pass.state = s.pass.state) (hcontext : u.pass.context = s.pass.context)
    (htimebase : u.timebase = s.timebase) (g : Geometry) : u.readPlace g = s.readPlace g := by
  have hrunning : u.runningPosition = s.runningPosition := by
    simp only [State.runningPosition, State.pace16, hcontext, htimebase]
  simp only [State.readPlace, State.passK, hstate, hcontext, htimebase, hrunning]

/-- A request starves when a needed line is not among the queued ones. -/
theorem State.interpRequest_starves_iff (s : State) (c : PassContext) (g : Geometry) (a : Nat) (mode : PassMode)
    (place : ReadAt × Nat × Nat) : (s.interpRequest c g a mode place).starves = true ↔
      ∃ n ∈ neededLines place.2.1 g.lines, ∀ l ∈ s.lineQueue.lines, l.index ≠ n := by
  simp [InterpRequest.starves, State.interpRequest, LineQueue.copyOf]

/-- The write of an axis that is held, as the axis unit keeps it (R157, R159, R164). -/
def State.heldWrite (s : State) (a : Nat) (v : Int) (row : WriteRow) : State :=
  { s.saturateWrite a v with writeInProcessing := some ⟨a, saturate24 v, row,
      s.pass.state == .running && (s.axis a).entry.processing.source == .command⟩ }

theorem State.takeTargetWrite_of_row {s : State} {a : Nat} {row : WriteRow} (h : s.writeRow a = some row) (v : Int) :
    s.takeTargetWrite a v = (s.heldWrite a v row).requestInterpolation a row.mode := by
  simp only [State.takeTargetWrite, h]
  rfl

theorem saturateWrite_entry (s : State) (a : Nat) (v : Int) : ((s.saturateWrite a v).axis a).entry = (s.axis a).entry
    ∧ ((s.saturateWrite a v).axis a).lastForwarded = (s.axis a).lastForwarded := by
  by_cases ha : a < s.axes.length
  · rw [s.saturateWrite_axis_self a v ha]
    exact ⟨rfl, rfl⟩
  · rw [s.saturateWrite_axis_of_absent a v ha]
    exact ⟨rfl, rfl⟩

/-- Settles O41: the row gives the write to the axis unit, which requests an interpolation; the end of the row leaves the
transaction at the axis unit. -/
theorem targetWriteInPassIsHeld : Obligations.TargetWriteInPassIsHeld := by
  intro s after a cur slotLate address data c g u v running p i phase now kept needed starves proc hup hreset htarget hc
    htrack hg hcur hholds
  let addr : Nat := address.toNat * 4
  let D : Int := data.toInt
  let row : WriteRow := if c.mode = .replay then .replay else .witness
  have ha : a < u.axes.length := u.targetAxis_lt _ a htarget
  have hv : saturate24 D = v := saturate24_eq _
  have hactive : u.pass.state ≠ .idle := by
    obtain ⟨-, hidle, -⟩ | ⟨-, hrunning, -⟩ := hholds
    · exact hidle
    · rw [show u.pass.state = _ from hrunning]
      decide
  have hmode : row.mode = c.mode := by
    obtain ⟨hreplay, -, -⟩ | ⟨hwitness, -, -⟩ := hholds
    · simp [row, hreplay, WriteRow.mode]
    · simp [row, hwitness, WriteRow.mode]
  have hrow := exec_upstreamTransactionTaken_of_fullWord (slotLate := slotLate) (data := data)
    (show s.elapse after = u from rfl) hup hreset htarget
  rw [State.takeTargetWrite_of_row (s := u.toAxis (address.toNat * 4) data)
    (State.writeRow_of_holds (s := u) hc htrack hholds)] at hrow
  let w : State := (u.toAxis addr data).heldWrite a D row
  have hwqueue : w.lineQueue = u.lineQueue := by simp [w, State.heldWrite, State.toAxis]
  have hwcontext : w.pass.context = some c := by simpa [w, State.heldWrite, State.toAxis] using hc
  have hplace : w.readPlace g = u.readPlace g :=
    State.readPlace_congr (by simp [w, State.heldWrite, State.toAxis]) (by simp [w, State.heldWrite, State.toAxis])
      (by simp [w, State.heldWrite, State.toAxis]) g
  have hplace' : u.readPlace g =
      (if u.pass.state = .complete then .lastLine else if running then .position p else .frozen p, i, phase) := by
    have hk : u.passK = c.k := by rw [State.passK, show u.pass.context = some c from hc]; rfl
    simp only [State.readPlace, hk, p, i, phase, running]
    cases u.pass.state <;> simp
  have hreq := State.requestInterpolation_requestedAs (s := w) (g := g) (by rw [hwqueue]; exact hg) hwcontext a row.mode
  rw [hplace, hplace'] at hreq
  obtain ⟨hcurrent, hlines, -⟩ := evaluationRetiresLines w g cur i (by rw [hwqueue]; exact hg) (by rw [hwqueue]; exact hcur)
  have hlines' : (w.evaluateLine i).lineQueue.lines = kept := by rw [hlines, hwqueue]
  let x : State := w.requestInterpolation a row.mode
  generalize hr : (w.evaluateLine i).interpRequest c g a row.mode
    (if u.pass.state = .complete then .lastLine else if running then .position p else .frozen p, i, phase) = r at hreq
  have hstarves : r.starves = true ↔ starves := by
    rw [← hr, State.interpRequest_starves_iff, hlines']
    rfl
  have hup : x.memory.upstream = some (u.atAxis addr data) := by
    have hmemory : w.memory = (u.toAxis addr data).memory := by simp [w, State.heldWrite]
    rw [hreq.upstream, hmemory]
    rfl
  obtain ⟨-, hunmoved, hport⟩ := State.settleAt_txnKept hup (fun h => nomatch h) slotLate
  have hwaxis : (w.axis a).entry = (u.axis a).entry ∧ (w.axis a).lastForwarded = (u.axis a).lastForwarded :=
    saturateWrite_entry _ a D
  have heval : (w.evaluateLine i).axis a = w.axis a := State.axis_congr (by simp) a
  have haxis : (x.settleAt slotLate).axis a = w.axis a :=
    (State.axis_congr ((by simp : (x.settleAt slotLate).axes = x.axes).trans hreq.axes) a)
  have hsummary : (x.settleAt slotLate).pass.summary.map (·.starves) = if r.starves then
      u.pass.summary.map fun m => min (m.starves + 1) 4294967295 else u.pass.summary.map (·.starves) := by
    have hw : w.pass.summary.map (·.starves) = u.pass.summary.map (·.starves) := by
      rw [show w.pass = _ from (u.toAxis addr data).saturateWrite_pass a D]
      split
      · rfl
      · exact Option.map_map _ _ _
    rw [State.settleAt_pass, hreq.pass]
    split
    · rw [State.report_pass, if_neg (by simpa [w, State.heldWrite, State.toAxis] using hactive)]
      cases hm : w.pass.summary <;> cases hm' : u.pass.summary <;> simp_all [Summary.addStarve, stopAt, Config.countLimit]
    · exact hw
  have hflag : (x.settleAt slotLate).flag .starve = (u.flag .starve || r.starves) := by
    rw [State.flag_congr (s := x) (by rw [hport]), hreq.flag, show w.flag .starve = _ from
      (u.toAxis addr data).flag_saturateWrite a D .starve]
    simp [State.flag, State.toAxis]
  refine ⟨x.settleAt slotLate, r, hrow, ?_, ?_, by rw [← hr]; rfl, by rw [← hr]; rfl, by rw [← hr]; rfl,
    by rw [← hr]; rfl, by rw [← hr]; rfl, ?_, ?_, ?_, by rw [← hr]; exact hmode, ?_, ?_, ?_, ?_, ?_, ?_, ?_, ?_, ?_, ?_, ?_, ?_⟩
  · have hwrite : (x.settleAt slotLate).writeInProcessing = w.writeInProcessing :=
      (by simp : (x.settleAt slotLate).writeInProcessing = x.writeInProcessing).trans hreq.writeInProcessing
    rw [hwrite]
    show some (⟨a, saturate24 D, row, u.pass.state == .running && proc.source == .command⟩ : WriteInProcessing) = _
    rw [hv, Bool.decide_and]
    rfl
  · simpa using hreq.inFlight
  · rw [← hr, ← hlines']
    rfl
  · rw [← hr]
    exact congrArg (·.processing.scale) ((congrArg Axis.entry heval).trans hwaxis.1)
  · rw [← hr]
    exact congrArg (·.processing.offset) ((congrArg Axis.entry heval).trans hwaxis.1)
  · rw [← hr]
    show (trackPlace c.tracks a).getD 1 = _
    rw [trackPlace_of_track htrack]
    rfl
  · have hkept : (x.settleAt slotLate).lineQueue.lines = x.lineQueue.lines := by simp
    rw [hkept, hreq.lineQueue, ← hr]
    exact hlines'
  · have hkept : (x.settleAt slotLate).lineQueue.currentLine = x.lineQueue.currentLine := by simp
    rw [hkept, hreq.lineQueue, ← hr]
    exact hcurrent
  · rw [hflag, Bool.or_eq_true, hstarves]
  · exact fun h => hsummary.trans (if_pos (hstarves.mpr h))
  · exact fun h => hsummary.trans (if_neg fun h' => h (hstarves.mp h'))
  · rw [haxis, show w.axis a = _ from (u.toAxis addr data).saturateWrite_axis_self a D ha, outOfRange, hv]
    rfl
  · rw [haxis, hwaxis.2]
  · rw [hunmoved (fun h => nomatch h)]
    rfl
  · simp [x, w, State.heldWrite, State.toAxis]
  · simp [x, w, State.heldWrite, State.toAxis]
  · simp [x, w, State.heldWrite, State.toAxis]

end Sys2Proof.Machine
end

section
/-! Proofs about the boundary as the pass controller takes it: pre-roll and declarations (R57, R59, R64), the trigger (R55 to
R58), the end conditions and the pending request (R60 to R67). -/

namespace Sys2Proof.Machine

/-! ## A change of the pass state (R50) -/

theorem State.setPass_of_ne {s : State} {p : PassState} (h : s.pass.state ≠ p) : s.setPass p = { s with
    pass := { s.pass with state := p }
    port := { s.port with flags := s.port.flags ||| 4 } } := by
  unfold State.setPass
  rw [if_neg h]
  rfl

theorem State.flag_pass_setPass {s : State} {p : PassState} (h : s.pass.state ≠ p) : (s.setPass p).flag .pass = true := by
  rw [State.setPass_of_ne h]
  simp [State.flag, Event.bit]

/-! ## The entry into RUNNING (R17, R58) -/

theorem State.raisePoints_of_other {s : State} (h : s.mode ≠ some .record) (p : Nat) : s.raisePoints p = s := by
  unfold State.raisePoints
  cases hc : s.pass.context with
  | none => rfl
  | some c =>
    refine if_neg fun hrecord => h ?_
    rw [State.mode_of_context hc, hrecord]

/-- A pass that captures no line enters RUNNING with nothing but its first-run bookkeeping. -/
theorem State.enterRunning_of_other {s : State} (hmode : s.mode ≠ some .record) (hstate : s.pass.state ≠ .running) :
    s.enterRunning = { s with
      pass := { s.pass with
        state := .running, preroll := none, pending := none, hasRun := true
        summary := if s.pass.hasRun = true then s.pass.summary
          else s.pass.summary.map fun m => { m with mark := some (wordMark s.camera.declared) } }
      port := { s.port with flags := s.port.flags ||| 4 } } := by
  have hinfo (u : State) (h : u.mode = s.mode) : u.makeRecordInfo = u := by
    unfold State.makeRecordInfo
    cases hc : u.pass.context with
    | none => rfl
    | some c =>
      refine if_neg fun hrecord => hmode ?_
      rw [← h, State.mode_of_context hc, hrecord]
  unfold State.enterRunning
  dsimp only
  let v : State := { s with pass := { s.pass with preroll := none, pending := none } }
  have hfirst : v.firstRun = { v with pass := { v.pass with
      hasRun := true
      summary := if s.pass.hasRun = true then s.pass.summary
        else s.pass.summary.map fun m => { m with mark := some (wordMark s.camera.declared) } } } := by
    unfold State.firstRun
    by_cases hrun : s.pass.hasRun = true
    · rw [if_pos (show v.pass.hasRun = true from hrun), if_pos hrun, ← hrun]
    · rw [if_neg (show ¬ v.pass.hasRun = true from hrun), if_neg hrun]
      exact hinfo _ rfl
  have hset := State.setPass_of_ne (s := v.firstRun) (p := .running) (by rw [hfirst]; exact hstate)
  rw [hset, hfirst]
  refine (State.raisePoints_of_other ?_ _).trans rfl
  exact hmode

/-! ## PREROLL and the declarations (R57, R59, R64) -/

/-- Settles O46. -/
theorem prerollCountsAndCameraCuts : Obligations.PrerollCountsAndCameraCuts := by
  refine ⟨fun s n o b hstate hpreroll => ⟨fun hpos => ?_, fun hzero hmode => ?_⟩, fun s old new c hc => ?_⟩
  · simp only [State.passBoundary, hstate, hpreroll]
    exact if_neg (by omega)
  · have henter : s.passBoundary b = s.enterRunning := by
      simp only [State.passBoundary, hstate, hpreroll, hzero]
      exact if_pos (by omega)
    rw [henter, State.enterRunning_of_other hmode (by rw [hstate]; decide)]
    exact ⟨rfl, rfl, rfl, by simp [State.flag, Event.bit]⟩
  · intro t falls
    have htrigger : s.pass.context.map (·.trigger) = some c.trigger := by rw [hc, Option.map_some]
    refine ⟨fun hfalls hcamera => ?_, fun hnot => if_neg ?_⟩
    · have ht : t = match s.pass.state with
          | .preroll =>
            let back : PassState := match s.pass.preroll with
              | some ⟨_, .resume⟩ => .parked
              | _ => .armed
            ({ s with pass := { s.pass with preroll := none } } : State).setPass back
          | .running => s.placeRequest .cut
          | .parked => s.placeRequest .cut
          | _ => s := by
        refine if_pos ⟨hfalls.1, ?_, htrigger.trans (congrArg some hcamera)⟩
        rw [wordRoll, hfalls.2]
        decide
      rw [ht]
      refine ⟨fun n o hstate hpreroll => ?_, fun hstate => ?_, fun hstate => ?_⟩
      · cases o with
        | first =>
          refine Eq.trans (b := ({ s with pass := { s.pass with preroll := none } } : State).setPass .armed)
            (by rw [hstate, hpreroll]) (State.setPass_of_ne ?_)
          simp [hstate]
        | resume =>
          refine Eq.trans (b := ({ s with pass := { s.pass with preroll := none } } : State).setPass .parked)
            (by rw [hstate, hpreroll]) (State.setPass_of_ne ?_)
          simp [hstate]
      · refine Eq.trans (b := s.placeRequest .cut) ?_ rfl
        obtain h | h := hstate <;> rw [h]
      · simp only [List.mem_cons, List.not_mem_nil, or_false] at hstate
        obtain h | h | h | h := hstate <;> simp only [h]
    · rintro ⟨hold, hnew, hcamera⟩
      obtain hnot | himmediate := hnot
      · exact hnot ⟨hold, Bool.eq_false_of_not_eq_true hnew⟩
      · rw [htrigger, himmediate] at hcamera
        cases hcamera

/-! ## The end of a pass and the pending request (R47, R60 to R67) -/

/-- The pass has ended with an outcome: what changes, and what stays. -/
def State.EndsAs (s : State) (c : PassContext) (o : PassOutcome) (t : State) : Prop :=
  t.pass = { s.pass with state := (if c.mode = .record then .ending else .complete), pending := none,
                         summary := s.pass.summary.map fun m => { m with outcome := some o } }
    ∧ t.flag .pass = true ∧ t.timebase = s.timebase ∧ t.recording = s.recording ∧ t.lineQueue = s.lineQueue
    ∧ t.axes = s.axes ∧ t.witness = s.witness
    ∧ (∀ e, s.entry c.take = some e → t.entry c.take = some (if c.mode = .replay ∧ o = .takeEnd then
        { e with passCount := min (e.passCount + 1) 65535 } else e))
    ∧ (∀ n, n ≠ c.take → t.entry n = s.entry n)

theorem State.entry_countReplay {s : State} {c : PassContext} (hc : s.pass.context = some c) (o : PassOutcome) :
    (∀ e, s.entry c.take = some e → (s.countReplay o).entry c.take = some (if c.mode = .replay ∧ o = .takeEnd then
        { e with passCount := min (e.passCount + 1) 65535 } else e))
      ∧ (∀ n, n ≠ c.take → (s.countReplay o).entry n = s.entry n) := by
  simp only [State.countReplay, hc]
  split
  next h => exact ⟨fun e he => s.entry_onEntry_self c.take e _ he, fun n hn => s.entry_onEntry_ne c.take n _ hn⟩
  next h => exact ⟨fun e he => he, fun n _ => rfl⟩

/-- A pass in RUNNING or PARKED ends. -/
theorem State.endPass_endsAs {s : State} {c : PassContext} (hc : s.pass.context = some c)
    (hstate : s.pass.state = .running ∨ s.pass.state = .parked) (o : PassOutcome) : s.EndsAs c o (s.endPass o) := by
  have hmode := State.mode_of_context hc
  by_cases hrecord : c.mode = .record
  · rw [State.endPass_of_record s o (hmode.trans (congrArg some hrecord)) (by obtain h | h := hstate <;> simp [h])]
    refine ⟨by rw [if_pos hrecord], by simp [State.flag, Event.bit], rfl, rfl, rfl, rfl, rfl, fun e he => ?_,
      fun n _ => rfl⟩
    rw [if_neg (by simp [hrecord])]
    exact he
  · let u : State := (s.setOutcome o).emptySlot
    have hend : s.endPass o = (u.countReplay o).setPass .complete := by
      have hnot : u.mode ≠ some .record := fun h => hrecord (Option.some.inj (hmode.symm.trans h))
      exact if_neg hnot
    have hstate' : (u.countReplay o).pass.state ≠ .complete := by
      have hkept : (u.countReplay o).pass.state = s.pass.state := by simp [u, State.emptySlot, State.setOutcome]
      rw [hkept]
      obtain h | h := hstate <;> simp [h]
    obtain ⟨htake, hother⟩ := State.entry_countReplay (s := u) (c := c) hc o
    rw [hend]
    refine ⟨?_, State.flag_pass_setPass hstate', by simp [u, State.emptySlot, State.setOutcome],
      by simp [u, State.emptySlot, State.setOutcome], by simp [u, State.emptySlot, State.setOutcome],
      by simp [u, State.emptySlot, State.setOutcome], by simp [u, State.emptySlot, State.setOutcome], fun e he => ?_,
      fun n hn => ?_⟩
    · rw [State.setPass_of_ne hstate', if_neg hrecord]
      simp [u, State.emptySlot, State.setOutcome, State.onSummary]
    · exact (State.entry_congr (by simp) _).trans (htake e he)
    · exact (State.entry_congr (by simp) _).trans (hother n hn)

/-- The pending request ends or parks the pass. -/
theorem State.applyPending_applied {s : State} {c : PassContext} (hc : s.pass.context = some c)
    (hstate : s.pass.state = .running ∨ s.pass.state = .parked) :
    (s.pass.pending = some .stop → s.EndsAs c .stopped s.applyPending)
      ∧ (s.pass.pending = some .cut → s.EndsAs c .cut s.applyPending)
      ∧ (s.pass.pending = some .divergedStop → s.EndsAs c .divergedStop s.applyPending)
      ∧ (s.pass.pending = none → s.applyPending = s) := by
  refine ⟨fun h => ?_, fun h => ?_, fun h => ?_, fun h => ?_⟩ <;> simp only [State.applyPending, h, State.applyRequest]
  · exact State.endPass_endsAs hc hstate .stopped
  · exact State.endPass_endsAs hc hstate .cut
  · exact State.endPass_endsAs hc hstate .divergedStop

theorem State.applyPending_parks {s : State} (hstate : s.pass.state = .running) (h : s.pass.pending = some .park) :
    s.applyPending = { s with pass := { s.pass with state := .parked, pending := none }
                              port := { s.port with flags := s.port.flags ||| 4 } } := by
  simp only [State.applyPending, h, State.applyRequest]
  exact State.setPass_of_ne (s := s.emptySlot) (by rw [show s.emptySlot.pass.state = _ from hstate]; decide)

/-- Settles O48. -/
theorem runningBoundaryEndsOrApplies : Obligations.RunningBoundaryEndsOrApplies := by
  intro s c b hc t ended applied parks
  refine ⟨fun hrunning => ?_, fun hparked => ?_⟩
  · have happlied := State.applyPending_applied hc (.inl hrunning)
    have hends (o : PassOutcome) (h : s.endCondition b = some o) : ended o := by
      have ht : t = s.endPass o := by simp only [t, State.passBoundary, hrunning, h]
      show s.EndsAs c o t
      rw [ht]
      exact State.endPass_endsAs hc (.inl hrunning) o
    have hgoesOn (h : s.endCondition b = none) : applied ∧ parks := by
      have ht : t = s.applyPending := by simp only [t, State.passBoundary, hrunning, h]
      simp only [applied, parks, ended, ht]
      exact ⟨happlied, State.applyPending_parks hrunning⟩
    constructor
    · intro n hmode hlength last
      refine ⟨fun hlimit => hends _ ?_, fun hlimit hlast => hends _ ?_, fun hlimit hnot => hgoesOn ?_⟩
      · simp [State.endCondition, hc, hlimit, hmode]
      · obtain ⟨hadvanced, hcount⟩ := hlast
        simp [State.endCondition, hc, hlimit, hmode, hlength, hadvanced, hcount]
      · by_cases hadvanced : b.advanced = true
        · have hcount : ¬ s.timebase.advances = if n = 0 then 65536 else n := fun h => hnot ⟨hadvanced, h⟩
          simp [State.endCondition, hc, hlimit, hmode, hlength, hcount]
        · simp [State.endCondition, hc, hlimit, hadvanced]
    · intro g hmode hg last
      refine ⟨fun hlast => hends _ ?_, fun hlimit hnot => hgoesOn ?_⟩
      · by_cases hlimit : b.limit = true
        · simp [State.endCondition, hc, hlimit, hmode]
        · obtain ⟨hadvanced, hreached⟩ := hlast.resolve_left hlimit
          simp [State.endCondition, hc, hlimit, hmode, hadvanced, hg, hreached]
      · by_cases hadvanced : b.advanced = true
        · have hreached : ¬ (g.lines - 1) * 65536 ≤ b.position.getD 0 * c.k := fun h => hnot ⟨hadvanced, h⟩
          simp only [State.endCondition, hc, hlimit, hadvanced, if_neg hmode, hg, if_neg hreached]
          rfl
        · simp [State.endCondition, hc, hlimit, hadvanced]
  · have ht : t = s.applyPending := by simp only [t, State.passBoundary, hparked]
    refine ⟨?_, fun hpending hrun hmode => ?_⟩
    · simp only [applied, ended, ht]
      exact State.applyPending_applied hc (.inr hparked)
    · have henter : s.applyPending = s.enterRunning := by simp only [State.applyPending, hpending, State.applyRequest]
      rw [ht, henter, State.enterRunning_of_other (fun h => hmode (Option.some.inj ((State.mode_of_context hc).symm.trans h)))
        (by rw [hparked]; decide), if_pos hrun, ← hrun]

end Sys2Proof.Machine
end

section
/-! Proofs about the boundary that finds the pass ARMED: the trigger and the start of the pass (R37, R55 to R58). -/

namespace Sys2Proof.Machine

/-! ## The trigger (R55, R56) -/

/-- The lines readiness requires, as the rule names them (R55). -/
theorem State.linesReady_iff {s : State} {c : PassContext} (hc : s.pass.context = some c) :
    s.linesReady = true ↔ ∃ g, s.lineQueue.geometry = some g ∧ ∀ i, c.startFrame * c.k - 1 ≤ i →
      i ≤ c.startFrame * c.k + 2 → i ≤ g.lines - 1 → ∃ l ∈ s.lineQueue.lines, l.index = i := by
  let s0 := c.startFrame * c.k
  cases hg : s.lineQueue.geometry with
  | none => simp [State.linesReady, hg]
  | some g =>
    have hqueued (i : Nat) : (s.lineQueue.lines.any fun l => l.index == i) = true ↔ ∃ l ∈ s.lineQueue.lines, l.index = i := by
      simp
    have hall : s.linesReady = true ↔ ∀ d, d < min (s0 + 2) (g.lines - 1) + 1 - (s0 - 1) →
        ∃ l ∈ s.lineQueue.lines, l.index = s0 - 1 + d := by
      simp only [State.linesReady, hg, hc, List.all_eq_true, List.mem_range, hqueued]
      rfl
    rw [hall]
    constructor
    · refine fun h => ⟨g, rfl, fun i hlow hhigh hlast => ?_⟩
      have := h (i - (s0 - 1)) (by omega)
      rwa [show s0 - 1 + (i - (s0 - 1)) = i from Nat.add_sub_cancel' hlow] at this
    · rintro ⟨g', hg', h⟩ d hd
      cases hg'
      exact h (s0 - 1 + d) (by omega) (by omega) (by omega)

theorem State.triggerHolds_iff {s : State} {c : PassContext} (hc : s.pass.context = some c) (lock : LockState) :
    s.triggerHolds lock = true ↔ (c.mode = .record ∨ s.linesReady = true) ∧ (c.requireLock = true → lock = .locked)
      ∧ (c.trigger = .camera → s.camera.declared.getLsbD 0 = true ∧ s.camera.declared.getLsbD 1 = true) := by
  have hready : s.ready = true ↔ c.mode = .record ∨ s.linesReady = true := by
    simp [State.ready, State.mode_of_context hc]
  have hlock : (!c.requireLock || lock == .locked) = true ↔ (c.requireLock = true → lock = .locked) := by
    cases c.requireLock <;> simp
  have htrigger : (c.trigger == .immediate || (wordRoll s.camera.declared && wordSpeed s.camera.declared)) = true
      ↔ (c.trigger = .camera → s.camera.declared.getLsbD 0 = true ∧ s.camera.declared.getLsbD 1 = true) := by
    cases c.trigger <;> simp [wordRoll, wordSpeed]
  simp only [State.triggerHolds, hc, Bool.and_eq_true, hready, hlock, htrigger, and_assoc]

/-! ## The start of a recording (R37, R58, R67, R84) -/

/-- The pass as it enters RUNNING, before the timebase evaluates its position. -/
def State.running (s : State) : State :=
  ({ s with pass := { s.pass with preroll := none, pending := none } } : State).firstRun.setPass .running

theorem State.enterRunning_eq (s : State) : s.enterRunning = s.running.raisePoints (s.timebase.position.getD 0) := by
  have hposition : s.running.timebase.position = s.timebase.position := by simp [State.running]
  rw [← hposition]
  rfl

/-- RECORD_INFO as the first entry to RUNNING makes it (R37). -/
def State.startInfo (s : State) (c : PassContext) : RecordInfo :=
  ⟨s.timebase.active.nNom, c.pace, wordMark s.camera.declared, (s.pass.summary.map (·.clamps)).getD 0⟩

/-- The first run of a RECORD pass. -/
theorem State.running_of_first {s : State} {c : PassContext} (hc : s.pass.context = some c) (hmode : c.mode = .record)
    (hrun : s.pass.hasRun = false) (hstate : s.pass.state ≠ .running) :
    s.running.pass = { s.pass with
        state := .running, preroll := none, pending := none, hasRun := true
        summary := s.pass.summary.map fun m => { m with mark := some (wordMark s.camera.declared) } }
      ∧ s.running.flag .pass = true
      ∧ (∀ e, s.entry c.take = some e → s.running.entry c.take = some { e with recordInfo := some (s.startInfo c) })
      ∧ (∀ n, n ≠ c.take → s.running.entry n = s.entry n) := by
  let v : State := { s with pass := { s.pass with
    preroll := none, pending := none, hasRun := true
    summary := s.pass.summary.map fun m => { m with mark := some (wordMark s.camera.declared) } } }
  have hfirst : s.running = (v.onEntry c.take fun e => { e with recordInfo := some (s.startInfo c) }).setPass .running := by
    unfold State.running State.firstRun
    dsimp only
    rw [if_neg (by simp [hrun])]
    unfold State.makeRecordInfo
    simp [hc, hmode, State.onSummary, v, State.startInfo, Function.comp_def]
  have hstate' : (v.onEntry c.take fun e => { e with recordInfo := some (s.startInfo c) }).pass.state ≠ .running := by
    simpa [v] using hstate
  have hset (u : State) (n : Nat) : (u.setPass .running).entry n = u.entry n := State.entry_congr (by simp) n
  rw [hfirst]
  refine ⟨?_, State.flag_pass_setPass hstate', fun e he => ?_, fun n hn => ?_⟩
  · rw [State.setPass_of_ne hstate']
    simp [v]
  · exact (hset _ _).trans (v.entry_onEntry_self c.take e _ he)
  · exact (hset _ _).trans (v.entry_onEntry_ne c.take n _ hn)

/-- The capture that fills a reservation of one line. -/
theorem State.raisePoints_fills {s : State} {c : PassContext} {p : Nat} (hc : s.pass.context = some c)
    (hmode : c.mode = .record) (hopen : s.recording.isOpen = true) (hroom : s.recording.queue.length < 16)
    (hone : p * c.k / 65536 = s.timebase.nextPoint) (hlast : c.maxLines = some (s.timebase.nextPoint + 1)) :
    s.raisePoints p =
      ((s.pastPoints c p).captured c s.timebase.nextPoint false).closeRecording.reportCaptureEnd .full p := by
  have hreached : c.reached p = s.timebase.nextPoint + 1 := congrArg (· + 1) hone
  rw [State.raisePoints_of_new hc hmode (by omega), hreached, Nat.add_sub_cancel_left, State.captureGroup,
    State.captureGroup, State.captureLine_of_room (s := s.pastPoints c p) hopen hroom, if_pos hlast]

/-- What a capture leaves beside the recording and the axes. -/
structure State.CapturedBeside (s t : State) : Prop where
  pass : t.pass = s.pass
  port : t.port = s.port
  directory : t.directory = s.directory
  timebase : t.timebase = s.timebase
  witness : t.witness = s.witness
  camera : t.camera = s.camera
  isOpen : t.recording.isOpen = s.recording.isOpen

theorem State.captured_beside (s : State) (c : PassContext) (j : Nat) (coincident : Bool) :
    s.CapturedBeside (s.captured c j coincident) := by
  constructor <;> simp [State.captured]

/-- Settles O47: the trigger by `State.triggerHolds_iff`, and the first line of a recording by the captures of a group of
one. -/
theorem armedBoundaryEvaluatesTrigger : Obligations.ArmedBoundaryEvaluatesTrigger := by
  intro s c b hstate hc s0 ready holds mark t
  have hholds : s.triggerHolds b.lock = true ↔ holds := by
    rw [State.triggerHolds_iff hc, State.linesReady_iff hc]
  have hstart (h : holds) (hzero : c.preroll = 0) : t = s.enterRunning := by
    simp only [t, State.passBoundary, hstate, hholds.mpr h, if_true, hc, Option.map_some, Option.getD_some, hzero]
  have hrunning : s.pass.state ≠ .running := by simp [hstate]
  have hmode := State.mode_of_context hc
  refine ⟨fun hnot => ?_, fun h hpos => ?_, fun h hzero hother => ?_, fun e h hzero hrecord hrun hposition hpoint hopen
    hqueue he => ?_⟩
  · simp only [t, State.passBoundary, hstate]
    exact if_neg fun h => hnot (hholds.mp h)
  · obtain ⟨n, hn⟩ := Nat.exists_eq_succ_of_ne_zero (by omega : c.preroll ≠ 0)
    have hpreroll : t = s.enterPreroll (n + 1) .first := by
      simp only [t, State.passBoundary, hstate, hholds.mpr h, if_true, hc, Option.map_some, Option.getD_some, hn]
    rw [hpreroll, hn]
    exact State.setPass_of_ne (by simp [hstate])
  · rw [hstart h hzero]
    exact State.enterRunning_of_other (fun hrec => hother (Option.some.inj (hmode.symm.trans hrec))) hrunning
  · intro tracks info
    obtain ⟨hpass, hflag, htake, hentry⟩ := State.running_of_first hc hrecord hrun hrunning
    have htimebase : s.running.timebase = s.timebase := by simp [State.running]
    have hrecording : s.running.recording = s.recording := by simp [State.running]
    have hcontext : s.running.pass.context = some c := by rw [hpass]; exact hc
    have hpoint' : s.running.timebase.nextPoint = 0 := by rw [htimebase, hpoint]
    let v : State := (s.running.pastPoints c 0).captured c 0 false
    have hbeside : (s.running.pastPoints c 0).CapturedBeside v := State.captured_beside _ c 0 false
    have hline : v.recording.queue = [⟨0, tracks.map fun a => (s.axis a).lastForwarded.getD 0,
        { unset := tracks.any fun a => (s.axis a).lastForwarded.isNone
          clamped := tracks.any fun a => (s.axis a).clampSince
          saturated := tracks.any fun a => (s.axis a).satSince
          coincident := false }⟩] := by
      have haxis (a : Nat) : (s.running.pastPoints c 0).axis a = s.axis a :=
        State.axis_congr (by simp [State.pastPoints, State.running]) a
      have hempty : (s.running.pastPoints c 0).recording.queue = [] := by
        rw [← hqueue, ← hrecording]
        rfl
      rw [State.captured_queue, hempty]
      simp [State.groupLine, haxis, tracks]
    have henter : t = s.running.raisePoints 0 := by
      rw [hstart h hzero]
      exact s.enterRunning_eq.trans (by rw [hposition]; rfl)
    have hother (n : Nat) : v.entry n = s.running.entry n := State.entry_congr hbeside.directory n
    have htime : v.timebase = { s.timebase with nextPoint := 1 } := by
      rw [hbeside.timebase, ← htimebase]
      simp [State.pastPoints, PassContext.reached]
    have hopen' : s.running.recording.isOpen = true := by rw [hrecording, hopen]
    have hroom : s.running.recording.queue.length < 16 := by simp [hrecording, hqueue]
    have hone : 0 * c.k / 65536 = s.running.timebase.nextPoint := by rw [hpoint', Nat.zero_mul, Nat.zero_div]
    have hfacts : v.pass = s.running.pass ∧ v.flag .pass = true ∧ v.witness = s.witness ∧ v.camera = s.camera
        ∧ v.recording.isOpen = true := by
      refine ⟨hbeside.pass, ?_, hbeside.witness.trans (by simp [State.pastPoints, State.running]),
        hbeside.camera.trans (by simp [State.pastPoints, State.running]), hbeside.isOpen.trans hopen'⟩
      rw [← hflag]
      exact State.flag_congr (by rw [hbeside.port]; rfl) .pass
    obtain ⟨hvpass, hvflag, hvwitness, hvcamera, hvopen⟩ := hfacts
    by_cases hlast : c.maxLines = some 1
    · have hfills : t = v.closeRecording.reportCaptureEnd .full 0 := by
        rw [henter, State.raisePoints_fills hcontext hrecord hopen' hroom hone (by rw [hpoint', hlast]), hpoint']
      let w : State := { v.closeRecording with timebase := { v.timebase with position := some 0 } }
      have hvstate : v.pass.state = .running := by rw [hvpass, hpass]
      have hends : v.closeRecording.reportCaptureEnd .full 0 = w.endPass .full := if_pos (by
        show (v.pass.state == .running || v.pass.state == .parked) = true
        rw [hvstate]
        rfl)
      have hvmode : w.mode = some .record :=
        (show v.pass.context.map (·.mode) = some .record by rw [hvpass, hcontext, Option.map_some, hrecord])
      rw [hfills, hends, State.endPass_of_record w _ hvmode (by rw [show w.pass.state = _ from hvstate]; decide)]
      have hwpass : w.pass = s.running.pass := hvpass
      have hposition' : w.timebase = { s.timebase with nextPoint := 1 } := by
        show ({ v.timebase with position := some 0 } : Timebase) = _
        rw [htime, ← hposition]
      simp only [if_pos hlast, hwpass, hpass]
      refine ⟨trivial, trivial, by simp [State.flag, Event.bit], ?_, (hother _).trans (htake e he),
        fun n hn => (hother n).trans (hentry n hn), hline, ?_, hposition', hvwitness, hvcamera⟩
      · rw [Option.map_map]
        rfl
      · simp [w, State.closeRecording, hlast]
    · have hgoesOn : t = v := by
        rw [henter, State.raisePoints_single hcontext hrecord hopen' hroom hone (by rw [hpoint']; exact hlast), hpoint']
      simp only [hgoesOn, if_neg hlast, hvpass, hpass]
      refine ⟨trivial, trivial, hvflag, rfl, (hother _).trans (htake e he), fun n hn => (hother n).trans (hentry n hn),
        hline, ?_, htime, hvwitness, hvcamera⟩
      simp [hvopen, hlast]

end Sys2Proof.Machine
end

section
/-! Proofs about the witness unit: the taking of a comparison and the conformance machine (R170 to R174, R181 to R183), and
the closing of a frame (R175, R177, R178). -/

namespace Sys2Proof.Machine

/-! ## The conformance machine (R181, R182) -/

theorem sixteenGood_iff (marks : List Mark) : sixteenGood marks = true ↔ marks.length = 16 ∧ marks.count .bad = 0 := by
  simp [sixteenGood, badMarks, Config.comparisonDepth]

/-- Four bad marks of the history end CONFORMING and are never sixteen good ones. -/
theorem conformanceStep_of_bad (st : Conformance) {marks : List Mark} (h : 4 ≤ marks.count .bad) :
    conformanceStep st marks = .diverged := by
  have hnot : ¬ sixteenGood marks = true := fun hgood => by
    have := ((sixteenGood_iff marks).mp hgood).2
    omega
  cases st <;> simp [conformanceStep, hnot, badMarks, h]

theorem conformanceStep_of_sixteen (st : Conformance) {marks : List Mark} (h : marks.length = 16 ∧ marks.count .bad = 0) :
    conformanceStep st marks = .conforming := by
  have hgood := (sixteenGood_iff marks).mpr h
  cases st <;> simp [conformanceStep, hgood, badMarks, h.2]

theorem conformanceStep_of_neither (st : Conformance) {marks : List Mark} (hbad : marks.count .bad < 4)
    (h : ¬ (marks.length = 16 ∧ marks.count .bad = 0)) : conformanceStep st marks = st := by
  have hnot : ¬ sixteenGood marks = true := fun hgood => h ((sixteenGood_iff marks).mp hgood)
  cases st <;> simp [conformanceStep, hnot, badMarks, Nat.not_le.mpr hbad]

/-! ## A taken comparison (R170, R171, R173, R174, R183) -/

theorem State.flag_reportDivergence (s : State) (late : Bool) (ev : Event) : (s.reportDivergence late).flag ev = s.flag ev :=
  State.flag_congr (by simp) ev

section
variable {s : State} (h : s.takesComparisons = true) (a : Nat) (e : Int) (late : Bool)
include h

/-- DIVERGE is raised on an entry into DIVERGED and on the return to CONFORMING (R183). -/
theorem State.flag_comparison :
    let before := (s.witnessAxis a).state
    let after := ((s.witnessAxis a).take (s.axis a).entry.processing.tol e).state
    (s.comparison a e late).flag .diverge = (s.flag .diverge || decide (before ≠ .diverged ∧ after = .diverged)
      || decide (before = .diverged ∧ after = .conforming)) := by
  intro before after
  let v : State := s.onWitnessAxis a fun w => w.take (s.axis a).entry.processing.tol e
  have hv : v.flag .diverge = s.flag .diverge := rfl
  have hcomparison : s.comparison a e late =
      if before ≠ .diverged ∧ after = .diverged then (v.raise .diverge).reportDivergence late
      else if before = .diverged ∧ after = .conforming then v.raise .diverge else v := by
    rw [State.comparison, if_pos h]
  rw [hcomparison]
  split
  next hentered => simp [State.flag_reportDivergence, State.flag_raise, hentered]
  next hnot =>
    split
    next hreturned => simp [State.flag_raise, hreturned]
    next hneither => simp [hv, hnot, hneither]

end

/-- Settles O57: the witness state is that of `WitnessAxis.take`, and DIVERGE follows the conformance machine. -/
theorem comparisonStepsConformance : Obligations.ComparisonStepsConformance := by
  intro s a e late ha htakes htol w t e' mark marks bad sixteen
  let tol : Int := (s.axis a).entry.processing.tol
  have hwitness := State.comparison_witness htakes a e late
  obtain ⟨hself, hother⟩ := State.witnessAxis_onWitnessAxis (s := s) (fun w => w.take tol e) ha
  have hkept (n : Nat) : t.witnessAxis n = (s.onWitnessAxis a fun w => w.take tol e).witnessAxis n :=
    State.witnessAxis_congr (congrArg Witness.axes hwitness) n
  have htake : t.witnessAxis a = w.take tol e := (hkept a).trans hself
  have he : injected w.inject e = e' := by
    cases hinject : w.inject with
    | none => simp only [injected, e', hinject]
    | some off => simp only [injected, e', hinject, clampInt_comparisonLimit]
  have hmark : judge tol e' = mark := by
    have htol' : (e'.natAbs ≤ tol.toNat) ↔ (e'.natAbs : Int) ≤ tol := by omega
    exact if_congr htol' rfl rfl
  have hmarks : addToHistory Config.comparisonDepth w.history mark = marks := by
    have hdrop : w.history.length + 1 - Config.comparisonDepth = w.history.length - 15 := by
      rw [show Config.comparisonDepth = 16 from rfl]
      omega
    rw [addToHistory, hdrop]
  have hstate : (w.take tol e).state = conformanceStep w.state marks := by
    simp only [WitnessAxis.take, he, hmark, hmarks]
  rw [htake]
  refine ⟨?_, rfl, ?_, rfl, ?_, fun hbad => ?_, fun hgood => ?_, fun hbad hgood => ?_, ?_, fun n hn => ?_, by simp [t],
    by simp [t]⟩
  · simp only [WitnessAxis.take, he, hmark, hmarks]
  · simp only [WitnessAxis.take, he]
    rfl
  · simp only [WitnessAxis.take, he, hmark]
    rfl
  · rw [hstate, conformanceStep_of_bad _ hbad]
  · rw [hstate, conformanceStep_of_sixteen _ hgood]
  · rw [hstate, conformanceStep_of_neither _ hbad hgood]
  · refine (State.flag_comparison htakes a e late).trans ?_
    rw [show ((s.witnessAxis a).take (s.axis a).entry.processing.tol e).state = _ from hstate]
    have hwstate : (s.witnessAxis a).state = w.state := rfl
    by_cases hbad : 4 ≤ bad
    · have hnone : (bad == 0) = false := by simpa using by omega
      simp [conformanceStep_of_bad _ hbad, hwstate, hbad, hnone]
    · by_cases hgood : sixteen
      · have hgood' : marks.length = 16 ∧ bad = 0 := hgood
        simp [conformanceStep_of_sixteen _ hgood, hwstate, hgood'.1, hgood'.2]
      · have hgood' : (marks.length == 16 && bad == 0) = false := by
          simpa [sixteen] using hgood
        rw [conformanceStep_of_neither _ (Nat.lt_of_not_le hbad) hgood, hwstate, Bool.and_assoc, hgood']
        cases w.state <;> simp [hbad]
  · exact (hkept n).trans (hother n hn)

/-! ## The closing of a frame (R175, R177, R178) -/

/-- Axis a of a list of witness states. -/
def witnessAt (axes : List WitnessAxis) (a : Nat) : WitnessAxis := axes.getD a State.resetWitnessAxis

/-- What a record holds of axis n with this witness state (R177). -/
def WitnessAxis.entry (w : WitnessAxis) (n : Nat) : DeviationEntry := ⟨n, w.worst.getD 0, w.badCount, w.count⟩

/-- The entries of a record are those of the axes with BAD above 0, by their numbers in ascending order. -/
theorem deviationEntries_eq (axes : List WitnessAxis) (k : Nat) : deviationEntries k axes =
    ((List.range axes.length).filter fun a => decide (0 < (witnessAt axes a).badCount)).map fun a =>
      (witnessAt axes a).entry (k + a) := by
  induction axes generalizing k with
  | nil => rfl
  | cons w rest ih =>
    have hrest : deviationEntries (k + 1) rest = (((List.range rest.length).map Nat.succ).filter fun a =>
        decide (0 < (witnessAt (w :: rest) a).badCount)).map fun a => (witnessAt (w :: rest) a).entry (k + a) := by
      rw [ih, List.filter_map, List.map_map]
      refine List.map_congr_left fun a _ => ?_
      show (witnessAt rest a).entry (k + 1 + a) = (witnessAt rest a).entry (k + (a + 1))
      rw [Nat.add_assoc, Nat.add_comm 1]
    have hfirst : witnessAt (w :: rest) 0 = w := rfl
    rw [deviationEntries, List.length_cons, List.range_succ_eq_map, List.filter_cons, hrest, hfirst]
    by_cases hbad : 0 < w.badCount
    · rw [if_pos hbad, if_pos (decide_eq_true hbad), List.map_cons]
      rfl
    · rw [if_neg hbad, if_neg (by simp [hbad])]

/-- A record joins a log that has room. -/
theorem State.appendDeviation_of_room {s : State} (r : DeviationRecord) (h : s.witness.log.length < 64) :
    (s.appendDeviation r).witness = { s.witness with log := s.witness.log ++ [r] }
      ∧ (s.appendDeviation r).flag .devlog = true ∧ (s.appendDeviation r).flag .devlost = s.flag .devlost
      ∧ (s.appendDeviation r).pass = (s.report Summary.addRecord).pass := by
  let v : State := { s.report Summary.addRecord with witness := { s.witness with log := s.witness.log ++ [r] } }
  have happend : s.appendDeviation r = v.followLog := by
    have hwitness : (s.report Summary.addRecord).witness = s.witness := by simp
    simp only [State.appendDeviation, hwitness]
    exact if_pos h
  rw [happend]
  refine ⟨by simp [v], ?_, ?_, by simp [v]⟩
  · rw [State.flag_followLog]
    simp [v]
  · rw [State.flag_followLog, if_neg (by decide)]
    exact s.flag_report Summary.addRecord .devlost

/-- A record that finds the log full is lost. -/
theorem State.appendDeviation_of_full {s : State} (r : DeviationRecord) (h : 64 ≤ s.witness.log.length) :
    (s.appendDeviation r).witness = { s.witness with lost := min (s.witness.lost + 1) 65535 }
      ∧ (s.appendDeviation r).flag .devlost = true ∧ (s.appendDeviation r).flag .devlog = s.flag .devlog
      ∧ (s.appendDeviation r).pass = ((s.report Summary.addRecord).report Summary.addLost).pass := by
  let v : State := { s.report Summary.addRecord with
    witness := { s.witness with lost := stopAt 65535 (s.witness.lost + 1) } }
  have happend : s.appendDeviation r = (v.raise .devlost).report Summary.addLost := by
    have hwitness : (s.report Summary.addRecord).witness = s.witness := by simp
    simp only [State.appendDeviation, hwitness]
    exact if_neg (Nat.not_lt.mpr h)
  have hv (ev : Event) : v.flag ev = s.flag ev := s.flag_report Summary.addRecord ev
  rw [happend]
  refine ⟨by simp [v, stopAt], ?_, ?_, ?_⟩
  · rw [State.flag_report, State.flag_raise]
    simp
  · rw [State.flag_report, State.flag_raise, hv]
    simp
  · rw [State.report_pass, State.report_pass]
    simp [v]

theorem State.witnessBoundary_eq (s : State) (closes : Bool) (opened : FrameStart) :
    s.witnessBoundary closes opened =
      let v := if closes then s.closeFrame else s
      { v with witness := { v.witness with
          axes := v.witness.axes.map WitnessAxis.emptyFrame
          frameStart := if s.pass.state = .idle then v.witness.frameStart else some opened } } := by
  have hstate : (if closes then s.closeFrame else s).emptyAccumulators.pass.state = s.pass.state := by
    split <;> simp [State.emptyAccumulators]
  unfold State.witnessBoundary
  dsimp only
  rw [hstate]
  by_cases h : s.pass.state = .idle
  · rw [if_pos h, if_pos h]
    rfl
  · rw [if_neg h, if_neg h]
    rfl

/-- Settles O58: the frame is closed by `State.appendDeviation`, and the accumulators are emptied in either case. -/
theorem witnessFrameCloses : Obligations.WitnessFrameCloses := by
  intro s closes start opened hstart t bad record forms count
  let v : State := if closes then s.closeFrame else s
  have ht : t = { v with witness := { v.witness with
      axes := v.witness.axes.map WitnessAxis.emptyFrame
      frameStart := if s.pass.state = .idle then v.witness.frameStart else some opened } } :=
    s.witnessBoundary_eq closes opened
  have hentries : deviationEntries 0 s.witness.axes = record.entries := by
    rw [deviationEntries_eq]
    refine List.map_congr_left fun a _ => ?_
    rw [Nat.zero_add]
    rfl
  have hclosed (h : forms) : v = s.appendDeviation record := by
    obtain ⟨hcloses, hbad⟩ := h
    have hsome : ¬ record.entries.isEmpty = true := by simpa [record] using hbad
    simp only [v, hcloses, if_true, State.closeFrame, hstart, hentries]
    exact if_neg hsome
  have hopen (h : ¬ forms) : v = s := by
    by_cases hcloses : closes = true
    · have hnone : (deviationEntries 0 s.witness.axes).isEmpty = true := by
        have hbad : bad = [] := by_contra fun hbad => h ⟨hcloses, hbad⟩
        rw [hentries]
        simp [record, hbad]
      simp only [v, hcloses, if_true, State.closeFrame, if_pos hnone]
    · exact if_neg hcloses
  have hkept : v.witness.axes = s.witness.axes ∧ v.witness.frameStart = s.witness.frameStart ∧ v.axes = s.axes
      ∧ v.timebase = s.timebase ∧ v.directory = s.directory ∧ v.recording = s.recording := by
    simp only [v]
    split <;> simp
  obtain ⟨haxes, hframe, hkept⟩ := hkept
  rw [ht]
  refine ⟨fun h hroom => ?_, fun h hfull => ?_, fun h => ?_, fun a => ?_, ?_, hkept⟩
  · obtain ⟨hwitness, hlog, hlost, hpass⟩ := State.appendDeviation_of_room record hroom
    rw [← hclosed h] at hwitness hlog hlost hpass
    refine ⟨by rw [hwitness], by rw [hwitness], hlog, hlost, fun hactive => hpass.trans ?_⟩
    rw [State.report_pass, if_neg hactive]
    rfl
  · obtain ⟨hwitness, hlost, hlog, hpass⟩ := State.appendDeviation_of_full record hfull
    rw [← hclosed h] at hwitness hlog hlost hpass
    refine ⟨by rw [hwitness], by rw [hwitness], hlost, hlog, fun hactive => hpass.trans ?_⟩
    rw [State.report_pass, if_neg (by simpa using hactive), State.report_pass, if_neg hactive, Option.map_map]
    rfl
  · rw [hopen h]
    exact ⟨rfl, rfl, rfl, rfl⟩
  · simp only [State.witnessAxis, haxes]
    exact List.getD_map s.witness.axes State.resetWitnessAxis WitnessAxis.emptyFrame
  · rw [hframe, hstart]

end Sys2Proof.Machine
end

section
/-! Proofs about what the blocks send each other at an instant: the divergence report (R65, R183), the drain report (R68,
R94), and the boundary on its way to a block (R13, R175, R176). -/

namespace Sys2Proof.Machine

/-! ## The divergence report (R65, R183) -/

section
variable {s : State} (h : s.takesComparisons = true) (a : Nat) (e : Int) (late : Bool)
include h

/-- A comparison reports an entry into DIVERGED, and nothing else. -/
theorem State.comparison_reports :
    let entered := (s.witnessAxis a).state ≠ .diverged
      ∧ ((s.witnessAxis a).take (s.axis a).entry.processing.tol e).state = .diverged
    (entered → (s.comparison a e late).due = (if late then s.due ++ [.divergence] else s.due)
        ∧ (s.comparison a e late).pass = if late then s.pass else s.divergenceReport.pass)
      ∧ (¬ entered → (s.comparison a e late).due = s.due ∧ (s.comparison a e late).pass = s.pass) := by
  intro entered
  let v : State := s.onWitnessAxis a fun w => w.take (s.axis a).entry.processing.tol e
  have hcomparison : s.comparison a e late = if entered then (v.raise .diverge).reportDivergence late
      else if (s.witnessAxis a).state = .diverged
        ∧ ((s.witnessAxis a).take (s.axis a).entry.processing.tol e).state = .conforming then v.raise .diverge else v := by
    rw [State.comparison, if_pos h]
  rw [hcomparison]
  refine ⟨fun hentered => ?_, fun hnot => ?_⟩
  · rw [if_pos hentered]
    cases late with
    | true => exact ⟨rfl, rfl⟩
    | false =>
      refine ⟨?_, ?_⟩
      · simp [State.reportDivergence, v]
      · have hreport (u : State) (hu : u.pass = s.pass) : u.divergenceReport.pass = s.divergenceReport.pass := by
          simp only [State.divergenceReport, hu]
          split
          · split <;> simp [State.placeRequest, hu]
          · exact hu
        exact hreport _ rfl
  · rw [if_neg hnot]
    split <;> exact ⟨rfl, rfl⟩

end

/-! ## The drain report (R38, R68, R94) -/

theorem State.drainCheck_of_drained {s : State} (hstate : s.pass.state = .ending) (hqueue : s.recording.queue = []) :
    s.drainCheck = (s.finishRecording (decide (s.pass.summary.bind (·.outcome) = some .overrun))).setPass .complete := by
  rw [State.drainCheck, if_pos ⟨hstate, hqueue⟩, beq_eq_decide]

theorem State.drainCheck_of_not_drained {s : State} (h : s.pass.state ≠ .ending ∨ s.recording.queue ≠ []) :
    s.drainCheck = s := by
  rw [State.drainCheck, if_neg fun hboth => h.elim (fun hne => hne hboth.1) fun hne => hne hboth.2]

/-- The drained take is READY and its pass COMPLETE. -/
theorem State.drainCheck_completes {s : State} {c : PassContext} {e : TakeEntry} (hc : s.pass.context = some c)
    (he : s.entry c.take = some e) (hstate : s.pass.state = .ending) (hqueue : s.recording.queue = []) :
    s.drainCheck.pass = { s.pass with state := .complete } ∧ s.drainCheck.flag .pass = true
      ∧ s.drainCheck.entry c.take = (if e.state = .recording then
          e.leaveRecording (decide (s.pass.summary.bind (·.outcome) = some .overrun)) else some e) := by
  let v : State := s.finishRecording (decide (s.pass.summary.bind (·.outcome) = some .overrun))
  have hpass : v.pass = s.pass := by simp [v]
  have hv : v.pass.state ≠ .complete := by rw [hpass, hstate]; decide
  rw [State.drainCheck_of_drained hstate hqueue]
  refine ⟨?_, State.flag_pass_setPass hv, ?_⟩
  · rw [State.setPass_of_ne hv, ← hpass]
  · have hentry : (v.setPass .complete).entry c.take = v.entry c.take := State.entry_congr (by simp) _
    exact hentry.trans (State.entry_finishRecording hc he _)

theorem TakeEntry.leaveRecording_eq {e : TakeEntry} {b : Nat} {g : Bool} (hkind : e.kind = .storage b g) (truncated : Bool) :
    e.leaveRecording truncated = if e.written = 0 then none else some
      { e with state := .ready, kind := .storage b true, lines := e.written, written := 0, truncated := truncated } := by
  simp [TakeEntry.leaveRecording, TakeEntry.setGuarded, hkind]

/-! ## The boundary on its way (R13, R175, R176) -/

theorem State.takeBoundaries_of_all {s : State} {ds : List Delivery} (hdue : s.due = ds) (hsome : ds ≠ [])
    (hall : ∀ d ∈ ds, d.isBoundary = true) : s.takeBoundaries = (ds.foldl State.deliver { s with due := [] }).settle := by
  have hany : s.due.any Delivery.isBoundary = true := by
    obtain ⟨d, hd⟩ := List.exists_mem_of_ne_nil ds hsome
    exact List.any_eq_true.mpr ⟨d, hdue ▸ hd, hall d hd⟩
  have hfilter : s.due.filter Delivery.isBoundary = ds := by rw [hdue, List.filter_eq_self.mpr hall]
  have hrest : (s.due.filter fun d => !d.isBoundary) = [] := by
    rw [hdue, List.filter_eq_nil_iff]
    intro d hd
    simp [hall d hd]
  rw [State.takeBoundaries, if_pos hany, hfilter, hrest]

/-- Settles O59. -/
theorem reportsReachPassController : Obligations.ReportsReachPassController := by
  refine ⟨fun s d rest hqueue hreset hdue => ?_, fun s c hc => ⟨fun hrunning => ?_, fun hother => if_neg hother⟩,
    fun s a e late ha htakes => ?_, fun s c e b g hc he hrecording hkind => ⟨fun hstate hempty => ?_, fun h =>
      State.drainCheck_of_not_drained h⟩, fun s => ⟨s.takeBoundaries_due, fun ds hdue hsome hall =>
        State.takeBoundaries_of_all hdue hsome hall, ?_, fun order => ?_⟩, fun s order b hwitness hcontroller => ?_⟩
  · rw [step_of_due hqueue (s.nextOwn_of_due hreset (by simp [hdue]))]
    simp only [State.fireOwn, State.deliverNext, hdue]
  · show s.divergenceReport = _
    rw [State.divergenceReport, if_pos hrunning, hc]
    rfl
  · intro t entered
    obtain ⟨hself, -⟩ := State.witnessAxis_onWitnessAxis (s := s)
      (fun w => w.take (s.axis a).entry.processing.tol e) ha
    have htake : t.witnessAxis a = (s.witnessAxis a).take (s.axis a).entry.processing.tol e :=
      (State.witnessAxis_congr (congrArg Witness.axes (State.comparison_witness htakes a e late)) a).trans hself
    obtain ⟨hreported, hquiet⟩ := State.comparison_reports htakes a e late
    simp only [entered, htake]
    refine ⟨fun h hlate => ?_, fun h hlate => ?_, hquiet⟩
    · obtain ⟨hdue, hpass⟩ := hreported h
      exact ⟨hdue.trans (if_pos hlate), hpass.trans (if_pos hlate)⟩
    · obtain ⟨hdue, hpass⟩ := hreported h
      exact ⟨hdue.trans (if_neg (by simp [hlate])), hpass.trans (if_neg (by simp [hlate]))⟩
  · obtain ⟨hpass, hflag, hentry⟩ := State.drainCheck_completes hc he hstate hempty
    exact ⟨hpass, hflag, hentry.trans ((if_pos hrecording).trans (TakeEntry.leaveRecording_eq hkind _))⟩
  · by_cases hreset : s.resetControl.inForce = true
    · simp [exec, execSamplePoint, hreset]
    · simp [exec, execSamplePoint, hreset]
  · simp [exec, execSyncPulse]
  · intro t
    have hdue := s.handOver_late b hcontroller
    have hlate : s.activatePending.toWitness order b =
        s.activatePending.deliverLater (.witness b.inRunning s.activatePending.openedFrame) := if_pos hwitness
    have hcamera : t.camera.declared = s.cameraBoundary.camera.declared := by
      have hcongr (u : State) (h : u.camera = s.camera) : u.cameraBoundary.camera = s.cameraBoundary.camera := by
        rw [State.cameraBoundary_camera, State.cameraBoundary_camera, h]
      rw [← hcongr (s.activatePending.toWitness order b).lineQueueBoundary (by simp)]
      simp [t, State.handOver, State.toController, hcontroller, State.deliverLater]
    refine ⟨?_, ?_, ?_⟩
    · simp [t, State.handOver, State.toController, hcontroller, hlate, State.deliverLater]
    · simp [t, State.handOver, State.toController, hcontroller, hlate, State.deliverLater]
    · rw [show t.due = _ from hdue, hlate, hcamera]
      simp [State.deliverLater, HandedOn.inRunning, State.openedFrame]

end Sys2Proof.Machine
end

section
/-! Proofs about the interpolator's arithmetic: the substitution of samples (R121), the weights (R123, R124), and the value of
an interpolation (R120, R122, R125 to R127). -/

namespace Sys2Proof.Machine

/-! ## Substitution (R121) -/

/-- The greatest index up to k of the ones searched for. -/
theorem find?_reverse_range {p : Nat → Bool} {i k : Nat} (hi : i ≤ k) (hp : p i = true)
    (hlast : ∀ j, i < j → j ≤ k → p j = false) : (List.range (k + 1)).reverse.find? p = some i := by
  induction k with
  | zero =>
    obtain rfl : i = 0 := by omega
    simp [hp]
  | succ k ih =>
    rw [List.range_succ, List.reverse_append, List.reverse_singleton, List.singleton_append, List.find?_cons]
    by_cases hk : i = k + 1
    · rw [← hk, hp]
    · rw [hlast (k + 1) (by omega) (by omega)]
      exact ih (by omega) fun j hj hle => hlast j hj (by omega)

/-- Slot i of a list of marks is good. -/
def goodAt (good : List Bool) (i : Nat) : Bool := good.getD i false

theorem goodAt_iff (good : List Bool) (i : Nat) : goodAt good i = true ↔ good[i]? = some true := by
  rw [goodAt, List.getD_eq_getElem?_getD]
  cases good[i]? <;> simp

theorem substitute_eq (good : List Bool) (k : Nat) : substitute good k =
    match (List.range (k + 1)).reverse.find? (goodAt good) with
    | some i => some i
    | none => (List.range good.length).find? (goodAt good) := rfl

/-- The nearest good slot at or below the slot. -/
theorem substitute_below {good : List Bool} {i k : Nat} (hi : i ≤ k) (hgood : goodAt good i = true)
    (hlast : ∀ j, i < j → j ≤ k → goodAt good j = false) : substitute good k = some i := by
  rw [substitute_eq, find?_reverse_range hi hgood hlast]

theorem substitute_none_below {good : List Bool} {k : Nat} (h : ∀ j, j ≤ k → goodAt good j = false) :
    substitute good k = (List.range good.length).find? (goodAt good) := by
  have hnone : (List.range (k + 1)).reverse.find? (goodAt good) = none := by
    refine List.find?_eq_none.mpr fun j hj => ?_
    have hle : j ≤ k := by simpa [Nat.lt_succ_iff] using hj
    simp [h j hle]
  rw [substitute_eq, hnone]

/-- With no good slot below, the nearest good slot above. -/
theorem substitute_above {good : List Bool} {i k : Nat} (hi : k < i) (hgood : goodAt good i = true)
    (hfirst : ∀ j, j < i → goodAt good j = false) : substitute good k = some i := by
  have hlength : i < good.length := by
    by_contra h
    rw [goodAt, List.getD_eq_default _ _ (by omega)] at hgood
    cases hgood
  rw [substitute_none_below fun j hj => hfirst j (by omega), List.find?_range_eq_some]
  exact ⟨hgood, by simpa using hlength, fun j hj => by simp [hfirst j hj]⟩

theorem substitute_none {good : List Bool} (h : ∀ j, goodAt good j = false) (k : Nat) : substitute good k = none := by
  rw [substitute_none_below fun j _ => h j, List.find?_eq_none]
  exact fun j _ => by simp [h j]

/-! ## Weights (R123, R124) -/

/-- The weights with the unit of the phase as a variable. -/
theorem cubicWeights_bounds {u w : Int} (hlow : 0 ≤ u) (hhigh : u ≤ w) :
    (-(w ^ 3) ≤ 4 * (-u ^ 3 + 2 * u ^ 2 * w - u * w ^ 2) ∧ -u ^ 3 + 2 * u ^ 2 * w - u * w ^ 2 ≤ 0)
      ∧ (0 ≤ 3 * u ^ 3 - 5 * u ^ 2 * w + 2 * w ^ 3 ∧ 3 * u ^ 3 - 5 * u ^ 2 * w + 2 * w ^ 3 ≤ 2 * w ^ 3)
      ∧ (0 ≤ -3 * u ^ 3 + 4 * u ^ 2 * w + u * w ^ 2 ∧ -3 * u ^ 3 + 4 * u ^ 2 * w + u * w ^ 2 ≤ 2 * w ^ 3)
      ∧ (-(w ^ 3) ≤ 4 * (u ^ 3 - u ^ 2 * w) ∧ u ^ 3 - u ^ 2 * w ≤ 0) := by
  obtain ⟨v, rfl⟩ : ∃ v, w = u + v := ⟨w - u, by ring⟩
  have hv : 0 ≤ v := by linarith
  have huv := mul_nonneg hlow hv
  have huuv := mul_nonneg hlow huv
  have huvv := mul_nonneg huv hv
  have huuu := mul_nonneg hlow (mul_nonneg hlow hlow)
  have hvvv := mul_nonneg hv (mul_nonneg hv hv)
  have hudiff := mul_nonneg hlow (sq_nonneg (u - v))
  have hvdiff := mul_nonneg hv (sq_nonneg (u - v))
  refine ⟨⟨?_, ?_⟩, ⟨?_, ?_⟩, ⟨?_, ?_⟩, ?_, ?_⟩ <;> ring_nf at * <;> linarith

theorem weights_bounds (m : Interp) {u : Int} (hlow : 0 ≤ u) (hhigh : u < 65536) :
    ∀ w ∈ weights m u, -70368744177664 ≤ w ∧ w ≤ 562949953421312 := by
  cases m with
  | step => simp [weights]
  | linear =>
    simp only [weights, List.mem_cons, List.not_mem_nil, or_false, forall_eq_or_imp, forall_eq]
    omega
  | cubic =>
    have h := cubicWeights_bounds hlow (Int.le_of_lt hhigh)
    simp only [weights, List.mem_cons, List.not_mem_nil, or_false, forall_eq_or_imp, forall_eq]
    norm_num at h ⊢
    omega

theorem weights_sum (m : Interp) (u : Int) : (weights m u).sum = 2 * 65536 ^ 3 := by
  cases m <;> simp only [weights, List.sum_cons, List.sum_nil] <;> ring

/-- The four weights by name. -/
theorem weights_eq (m : Interp) (u : Int) : weights m u =
    [(weights m u).getD 0 0, (weights m u).getD 1 0, (weights m u).getD 2 0, (weights m u).getD 3 0] := by
  cases m <;> rfl

/-! ## The value (R120, R122, R125 to R127) -/

theorem SlotInput.good_eq (sl : SlotInput) : sl.good = sl.line.any (·.usable) := by
  unfold SlotInput.good
  cases sl.line <;> rfl

/-- The slots of a request by their goodness. -/
def InterpRequest.goods (r : InterpRequest) : List Bool := r.slots.map fun sl => sl.line.any (·.usable)

theorem InterpRequest.goods_eq (r : InterpRequest) : r.slots.map SlotInput.good = r.goods :=
  List.map_congr_left fun sl _ => sl.good_eq

/-- The sample that slot k uses: the word of the track place in the copy of the slot that stands in for it. -/
def InterpRequest.sample (r : InterpRequest) (k : Nat) : Int :=
  ((((substitute r.goods k).bind (r.slots[·]?)).bind (·.line)).map fun l => (l.words.getD r.place 0).toInt).getD 0

theorem InterpRequest.rawSamples_eq (r : InterpRequest) : r.rawSamples = (List.range r.slots.length).map r.sample := by
  rw [InterpRequest.rawSamples, InterpRequest.used, List.map_map, r.goods_eq]
  refine List.map_congr_left fun k _ => ?_
  show (match substitute r.goods k with
    | some i => (r.slots.getD i ⟨0, none⟩).raw r.place
    | none => 0) = r.sample k
  unfold InterpRequest.sample
  cases substitute r.goods k with
  | none => rfl
  | some i =>
    simp only [Option.bind_some, List.getD_eq_getElem?_getD]
    cases r.slots[i]? with
    | none => rfl
    | some sl =>
      unfold SlotInput.raw
      cases hline : sl.line <;> simp [hline]

/-- A value has left the 24-bit range. -/
theorem saturate24_ne_iff (v : Int) : saturate24 v ≠ v ↔ v < -8388608 ∨ 8388607 < v := by
  rw [saturate24_eq]
  omega

section
variable {r : InterpRequest} (hfour : r.slots.length = 4)
include hfour

theorem InterpRequest.rawSamples_four : r.rawSamples = [r.sample 0, r.sample 1, r.sample 2, r.sample 3] := by
  rw [r.rawSamples_eq, hfour]
  rfl

/-- A used sample leaves the range under a weight other than zero. -/
theorem InterpRequest.sampleSaturates_iff : r.sampleSaturates = true ↔
    ∃ k, k < 4 ∧ (weights r.interp r.phase).getD k 0 ≠ 0 ∧ saturate24 (r.sample k) ≠ r.sample k := by
  have hlist (P : Nat → Prop) : (∃ k, k < 4 ∧ P k) ↔ P 0 ∨ P 1 ∨ P 2 ∨ P 3 := by
    constructor
    · rintro ⟨k, hk, h⟩
      obtain rfl | rfl | rfl | rfl : k = 0 ∨ k = 1 ∨ k = 2 ∨ k = 3 := by omega
      · exact .inl h
      · exact .inr (.inl h)
      · exact .inr (.inr (.inl h))
      · exact .inr (.inr (.inr h))
    · rintro (h | h | h | h)
      exacts [⟨0, by omega, h⟩, ⟨1, by omega, h⟩, ⟨2, by omega, h⟩, ⟨3, by omega, h⟩]
  rw [hlist, InterpRequest.sampleSaturates, InterpRequest.rawSamples_four hfour, weights_eq]
  simp

theorem InterpRequest.rounded_eq : r.rounded = roundHalfEven (r.offset * 9223372036854775808 + r.scale *
    ((weights r.interp r.phase).getD 0 0 * saturate24 (r.sample 0) + (weights r.interp r.phase).getD 1 0 * saturate24 (r.sample 1)
      + (weights r.interp r.phase).getD 2 0 * saturate24 (r.sample 2)
      + (weights r.interp r.phase).getD 3 0 * saturate24 (r.sample 3))) := by
  rw [InterpRequest.rounded, accumulate, InterpRequest.rawSamples_four hfour, weightedSum, weights_eq]
  simp [Int.add_assoc]

end

/-- Settles O55. -/
theorem interpolationFormsValue : Obligations.InterpolationFormsValue := by
  refine ⟨?_, fun m u hlow hhigh => ⟨by cases m <;> rfl, weights_sum m u,
    weights_bounds m hlow hhigh, by cases m <;> rfl⟩, fun r previous hfour => ?_⟩
  · intro good k isGood
    have hgood (i : Nat) : isGood i ↔ goodAt good i = true := (goodAt_iff good i).symm
    simp only [hgood, Bool.not_eq_true]
    exact ⟨fun i hi hp hlast => substitute_below hi hp hlast, fun i hi hp hfirst => substitute_above hi hp hfirst,
      fun h => substitute_none h k⟩
  · intro good raw clamp weight product rounded left
    have hclamp (v : Int) : saturate24 v = clamp v := saturate24_eq v
    have hrounded : r.rounded = rounded := by
      rw [InterpRequest.rounded_eq hfour]
      simp only [hclamp]
      rfl
    have hany : r.slots.any SlotInput.good = true ↔ true ∈ good := by
      rw [show good = r.slots.map SlotInput.good from r.goods_eq.symm]
      simp
    refine ⟨fun hgood => ⟨?_, ?_⟩, fun hgood => ⟨?_, ?_⟩⟩
    · unfold InterpRequest.outcome
      rw [if_pos (hany.mpr hgood), hrounded, hclamp]
    · rw [InterpRequest.saturates, hany.mpr hgood, Bool.true_and, Bool.or_eq_true,
        InterpRequest.sampleSaturates_iff hfour, bne_iff_ne, hrounded, saturate24_ne_iff, or_comm]
      simp only [saturate24_ne_iff]
      rfl
    · rw [InterpRequest.saturates, Bool.eq_false_of_not_eq_true fun h => hgood (hany.mp h), Bool.false_and]
    · unfold InterpRequest.outcome
      exact if_neg fun h => hgood (hany.mp h)

end Sys2Proof.Machine
end

section
/-! Proofs about the end of an interpolation: its record and its saturation (R120, R127, R128, R130), and the hand-back of the
held write with its comparison (R160 to R164, R170). -/

namespace Sys2Proof.Machine

/-! ## The end of the interpolation (R120, R127, R128, R130) -/

/-- An axis whose interpolation has ended with an outcome. -/
def Axis.evaluated (ax : Axis) (saturated : Bool) (o : InterpOutcome) : Axis := { ax with
  sat := ax.sat || saturated
  previousResult := match o with | .value v => some v | _ => ax.previousResult }

/-- The state with the saturation of an interpolation marked. -/
def State.markSaturation (s : State) (r : InterpRequest) (o : InterpOutcome) : State :=
  let s := ({ s with interpolator := ⟨none, some (r.evalRecord o)⟩ } : State)
  if r.saturates then ((s.onAxis r.axis fun ax => { ax with sat := true }).raise .saturate).report Summary.addSaturate else s

section
variable (s : State) (r : InterpRequest) (o : InterpOutcome)

theorem State.finishInterpolation_eq : s.finishInterpolation r o = match o with
    | .value v => (s.markSaturation r o).onAxis r.axis fun ax => { ax with previousResult := some v }
    | _ => s.markSaturation r o := by
  cases o <;> rfl

theorem State.markSaturation_axes : (s.markSaturation r o).axes =
    (s.onAxis r.axis fun ax => { ax with sat := ax.sat || r.saturates }).axes := by
  unfold State.markSaturation
  dsimp only
  cases h : r.saturates with
  | true =>
    rw [if_pos rfl]
    simp
  | false =>
    have hsame : (fun ax : Axis => { ax with sat := ax.sat || false }) = id := by
      funext ax
      simp
    rw [if_neg (by simp), hsame, State.onAxis]
    exact (List.modify_id r.axis s.axes).symm

theorem State.finishInterpolation_axis_self (h : r.axis < s.axes.length) :
    (s.finishInterpolation r o).axis r.axis = (s.axis r.axis).evaluated r.saturates o := by
  have hmark : (s.markSaturation r o).axis r.axis = { s.axis r.axis with sat := (s.axis r.axis).sat || r.saturates } := by
    rw [State.axis_congr (s.markSaturation_axes r o), s.axis_onAxis_self r.axis _ h]
  have hlength : r.axis < (s.markSaturation r o).axes.length := by
    rw [s.markSaturation_axes]
    simpa [State.onAxis] using h
  rw [State.finishInterpolation_eq]
  cases o with
  | value v =>
    rw [State.axis_onAxis_self _ _ _ hlength, hmark]
    rfl
  | hold v => exact hmark
  | unavailable => exact hmark

theorem State.finishInterpolation_axis_ne {n : Nat} (hn : n ≠ r.axis) :
    (s.finishInterpolation r o).axis n = s.axis n := by
  have hmark : (s.markSaturation r o).axis n = s.axis n := by
    rw [State.axis_congr (s.markSaturation_axes r o), s.axis_onAxis_ne r.axis n _ hn]
  rw [State.finishInterpolation_eq]
  cases o with
  | value v => rw [State.axis_onAxis_ne _ _ _ _ hn, hmark]
  | hold v => exact hmark
  | unavailable => exact hmark

theorem State.flag_finishInterpolation (ev : Event) :
    (s.finishInterpolation r o).flag ev = (s.flag ev || (decide (ev = .saturate) && r.saturates)) := by
  have hmark : (s.markSaturation r o).flag ev = (s.flag ev || (decide (ev = .saturate) && r.saturates)) := by
    unfold State.markSaturation
    dsimp only
    split
    next h =>
      rw [State.flag_report, State.flag_raise, h, Bool.and_true]
      rfl
    next h =>
      rw [Bool.eq_false_of_not_eq_true h, Bool.and_false, Bool.or_false]
      rfl
  rw [State.finishInterpolation_eq, ← hmark]
  cases o <;> rfl

theorem State.finishInterpolation_pass : (s.finishInterpolation r o).pass =
    if s.pass.state = .idle ∨ r.saturates = false then s.pass
    else { s.pass with summary := s.pass.summary.map Summary.addSaturate } := by
  have hmark : (s.markSaturation r o).pass = if s.pass.state = .idle ∨ r.saturates = false then s.pass
      else { s.pass with summary := s.pass.summary.map Summary.addSaturate } := by
    unfold State.markSaturation
    dsimp only
    split
    next h =>
      rw [State.report_pass, if_congr (or_iff_left (by simp [h])) rfl rfl]
      rfl
    next h => rw [if_pos (.inr (Bool.eq_false_of_not_eq_true h))]
  rw [State.finishInterpolation_eq, ← hmark]
  cases o <;> rfl

theorem State.finishInterpolation_interpolator :
    (s.finishInterpolation r o).interpolator = ⟨none, some (r.evalRecord o)⟩ := by
  rw [State.finishInterpolation_eq]
  cases o <;> simp only [State.markSaturation] <;> split <;> simp

end

/-! ## The record (R130) -/

theorem substitute_lt {good : List Bool} {k i : Nat} (h : substitute good k = some i) : i < good.length := by
  have hgood : goodAt good i = true := by
    rw [substitute_eq] at h
    split at h
    next j hj =>
      cases h
      exact List.find?_some hj
    next => exact List.find?_some h
  by_contra hnot
  rw [goodAt, List.getD_eq_default _ _ (by omega)] at hgood
  cases hgood

/-- The record of slot k: its line index, whether it was good, and the number of the slot it used. -/
theorem InterpRequest.slotRecords_getElem? {r : InterpRequest} (hfour : r.slots.length = 4) {k : Nat} {sl : SlotInput}
    (hk : r.slots[k]? = some sl) : r.slotRecords[k]? = some (SlotRecord.mk sl.index (sl.line.any (·.usable))
      ((substitute r.goods k).map fun i => (i : Int) - 1)) := by
  have hlt : k < r.slots.length := (List.getElem?_eq_some_iff.mp hk).1
  have hused : r.used[k]? = some (substitute r.goods k) := by
    rw [InterpRequest.used, r.goods_eq, List.getElem?_map, List.getElem?_range hlt, Option.map_some]
  have hnumber : (substitute r.goods k).map (fun i => slotNumbers.getD i 0) =
      (substitute r.goods k).map fun i => (i : Int) - 1 := by
    cases h : substitute r.goods k with
    | none => rfl
    | some i =>
      have hi : i < 4 := by
        have := substitute_lt h
        rwa [InterpRequest.goods, List.length_map, hfour] at this
      obtain rfl | rfl | rfl | rfl : i = 0 ∨ i = 1 ∨ i = 2 ∨ i = 3 := by omega
      all_goals rfl
  rw [InterpRequest.slotRecords, List.getElem?_zipWith, hk, hused]
  simp only [sl.good_eq, hnumber]

/-! ## The hand-back and its comparison (R160 to R164, R170) -/

theorem State.flag_comparison_of_ne {ev : Event} (hev : ev ≠ .diverge) (s : State) (a : Nat) (e : Int) (late : Bool) :
    (s.comparison a e late).flag ev = s.flag ev := by
  have hraise (u : State) : (u.raise .diverge).flag ev = u.flag ev := by
    rw [State.flag_raise, decide_eq_false hev, Bool.or_false]
  unfold State.comparison
  split
  · dsimp only
    split
    · rw [State.flag_reportDivergence, hraise]
      rfl
    · split
      · exact hraise _
      · rfl
  · rfl

/-- A TARGET write outside the region passes the checks of the grant. -/
theorem State.grantDecision_of_target {s : State} {t : UpstreamTxn} (hcls : t.cls = .target)
    (hin : s.inRegion t.address = false) : ∃ notice, s.grantDecision t = .forward notice := by
  unfold State.grantDecision
  split
  · exact ⟨_, rfl⟩
  · rw [if_neg (by simp [hcls])]
    exact ⟨false, by simp [hcls, hin]⟩

/-- The state with the held write handed back. -/
def State.handedBack (s : State) (r : InterpRequest) (o : InterpOutcome) (w : WriteInProcessing) : State :=
  ({ s.finishInterpolation r o with writeInProcessing := none } : State).handBack w.axis (w.candidate o)

theorem State.finishInterpolation_finishWrite (s : State) (r : InterpRequest) (o : InterpOutcome) (w : WriteInProcessing)
    (late : Bool) : (s.finishInterpolation r o).finishWrite w o late = match w.difference o with
      | some e => (s.handedBack r o w).comparison w.axis e late
      | none => s.handedBack r o w := rfl

/-- The comparison of a held write changes the witness unit, and the pass at most in its pending request. -/
structure State.ComparedAs (s t : State) (w : WriteInProcessing) (o : InterpOutcome) : Prop where
  axes : t.axes = s.axes
  memory : t.memory = s.memory
  directory : t.directory = s.directory
  interpolator : t.interpolator = s.interpolator
  writeInProcessing : t.writeInProcessing = s.writeInProcessing
  timebase : t.timebase = s.timebase
  recording : t.recording = s.recording
  lineQueue : t.lineQueue = s.lineQueue
  passState : t.pass.state = s.pass.state
  context : t.pass.context = s.pass.context
  summary : t.pass.summary = s.pass.summary
  flag : ∀ ev, ev ≠ .diverge → t.flag ev = s.flag ev
  taken : ∀ e, w.difference o = some e → s.takesComparisons = true → t.witness =
    (s.onWitnessAxis w.axis fun v => v.take (s.axis w.axis).entry.processing.tol e).witness
  dropped : w.difference o = none ∨ s.takesComparisons = false → t.witness = s.witness

theorem State.finishWrite_comparedAs (s : State) (r : InterpRequest) (o : InterpOutcome) (w : WriteInProcessing)
    (late : Bool) : (s.handedBack r o w).ComparedAs ((s.finishInterpolation r o).finishWrite w o late) w o := by
  rw [State.finishInterpolation_finishWrite]
  cases h : w.difference o with
  | none =>
    exact ⟨rfl, rfl, rfl, rfl, rfl, rfl, rfl, rfl, rfl, rfl, rfl, fun _ _ => rfl, fun e he _ => (nomatch h.symm.trans he),
      fun _ => rfl⟩
  | some e =>
    refine ⟨by simp, by simp, by simp, by simp, by simp, by simp, by simp, by simp, by simp, by simp, by simp,
      fun ev hev => State.flag_comparison_of_ne hev _ _ _ _, fun e' he htakes => ?_, fun hdropped => ?_⟩
    · cases h.symm.trans he
      exact State.comparison_witness htakes w.axis e late
    · exact congrArg State.witness (State.comparison_of_dropped (hdropped.resolve_left (by simp [h])) _ _ _)

section
variable {s : State} {r : InterpRequest} {w : WriteInProcessing} (haxis : w.axis = r.axis) (hlt : r.axis < s.axes.length)
  (o : InterpOutcome)
include haxis hlt

theorem State.finishInterpolation_bounds (c : Int) : (s.finishInterpolation r o).bounds w.axis c = s.bounds w.axis c := by
  rw [State.bounds, haxis, s.finishInterpolation_axis_self r o hlt]
  rfl

theorem State.handedBack_axis_self : (s.handedBack r o w).axis w.axis =
    ((s.axis w.axis).evaluated r.saturates o).forwarded (s.bounds w.axis (w.candidate o)) := by
  let u : State := { s.finishInterpolation r o with writeInProcessing := none }
  have hlength : w.axis < u.axes.length := by
    have hsame : u.axes.length = s.axes.length := by
      show (s.finishInterpolation r o).axes.length = s.axes.length
      rw [State.finishInterpolation_eq]
      cases o <;> simp [State.onAxis, State.markSaturation_axes]
    rw [hsame, haxis]
    exact hlt
  have hself : u.axis w.axis = (s.axis w.axis).evaluated r.saturates o := by
    rw [haxis]
    exact s.finishInterpolation_axis_self r o hlt
  rw [State.handedBack, State.handBack_axis_self u w.axis _ hlength, hself]
  exact congrArg _ (State.finishInterpolation_bounds haxis hlt o _)

theorem State.flag_handedBack (ev : Event) : (s.handedBack r o w).flag ev = (s.flag ev
    || (decide (ev = .saturate) && r.saturates)
    || (decide (ev = .clamp) && (s.bounds w.axis (w.candidate o)).changed)) := by
  rw [← State.finishInterpolation_bounds haxis hlt o, ← s.flag_finishInterpolation r o]
  exact State.flag_handBack_eq _ _ _ _

theorem State.handedBack_pass : (s.handedBack r o w).pass = if s.pass.state = .idle then s.pass else { s.pass with
    summary := s.pass.summary.map fun m => m.countWrite r.saturates (s.bounds w.axis (w.candidate o)).changed } := by
  rw [← State.finishInterpolation_bounds haxis hlt o]
  let u : State := { s.finishInterpolation r o with writeInProcessing := none }
  have hpass : u.pass = _ := s.finishInterpolation_pass r o
  refine (State.handBack_pass u _ _).trans ?_
  show _ = if s.pass.state = .idle then s.pass else { s.pass with
    summary := s.pass.summary.map fun m => m.countWrite r.saturates (u.bounds w.axis (w.candidate o)).changed }
  rw [hpass]
  by_cases hidle : s.pass.state = .idle
  · simp [hidle]
  · cases hsat : r.saturates <;> cases (u.bounds w.axis (w.candidate o)).changed <;>
      simp [hidle, Summary.countWrite_eq, Function.comp_def]

theorem State.handedBack_upstream : (s.handedBack r o w).memory.upstream = s.memory.upstream.map fun t => { t with
    forwardData := some (sampleWord (s.bounds w.axis (w.candidate o)).value), phase := .waiting } := by
  rw [← State.finishInterpolation_bounds haxis hlt o, State.handedBack, State.handBack_upstream]
  simp
  rfl

end

theorem exec_interpolationEnd_of_inFlight {s u : State} {after : Nat} {late slotLate : Bool} {r : InterpRequest}
    {w : WriteInProcessing} (hu : s.elapse after = u) (hr : u.interpolator.inFlight = some r)
    (hw : u.writeInProcessing = some w) :
    exec (.interpolationEnd ⟨after, late, slotLate⟩) s = .next (((u.finishInterpolation r
      (r.outcome (u.axis r.axis).previousResult)).finishWrite w (r.outcome (u.axis r.axis).previousResult) late).settleAt
        slotLate) := by
  subst hu
  simp [exec, execInterpolationEnd, hr, hw]

/-- The candidate of a held write, as the row of its taking names it (R160). -/
theorem WriteInProcessing.candidate_eq (w : WriteInProcessing) (o : InterpOutcome) : w.candidate o =
    match w.row, o with
    | .replay, .value v => v
    | .replay, .hold v => v
    | _, _ => w.value := rfl

/-- Settles O56: the interpolation's end, the hand-back, the comparison, and the end of the row. -/
theorem interpolationEndHandsBack : Obligations.InterpolationEndHandsBack := by
  intro s after late slotLate r w x u previous o c b changed count hr hw haxis hlt hx hcls hin
  have hrow := exec_interpolationEnd_of_inFlight (late := late) (slotLate := slotLate) (show s.elapse after = u from rfl)
    hr hw
  let v : State := u.handedBack r o w
  let y : State := (u.finishInterpolation r o).finishWrite w o late
  have hcompared : v.ComparedAs y w o := u.finishWrite_comparedAs r o w late
  have hc : w.candidate o = c := w.candidate_eq o
  have hbounds : u.bounds w.axis (w.candidate o) = b := by rw [hc]; rfl
  have hself : v.axis w.axis = ((u.axis w.axis).evaluated r.saturates o).forwarded b := by
    rw [← hbounds]
    exact State.handedBack_axis_self haxis hlt o
  have hother {n : Nat} (hn : n ≠ w.axis) : v.axis n = u.axis n :=
    (State.handBack_axis_ne _ _ _ _ hn).trans (u.finishInterpolation_axis_ne r o (haxis ▸ hn))
  have hpass : v.pass = if u.pass.state = .idle then u.pass else
      { u.pass with summary := u.pass.summary.map fun m => m.countWrite r.saturates changed } := by
    rw [show v.pass = _ from State.handedBack_pass haxis hlt o, hbounds]
    rfl
  have hstate : v.pass.state = u.pass.state := by rw [hpass]; split <;> rfl
  have hcontext : v.pass.context = u.pass.context := by rw [hpass]; split <;> rfl
  have hdirectory : v.directory.regionBase = u.directory.regionBase ∧ v.directory.regionSize = u.directory.regionSize := by
    simp [v, State.handedBack]
  let t' : UpstreamTxn := { x with forwardData := some (sampleWord b.value), phase := .waiting }
  have hup : y.memory.upstream = some t' := by
    rw [hcompared.memory, show v.memory.upstream = _ from State.handedBack_upstream haxis hlt o, hx, hbounds]
    rfl
  have hregion : y.inRegion t'.address = false := by
    rw [← hin, State.inRegion, State.inRegion, hcompared.directory, hdirectory.1, hdirectory.2]
  obtain ⟨⟨phase, hphase⟩, -, hport⟩ := State.settleAt_txnKept hup (fun _ => State.grantDecision_of_target hcls hregion)
    slotLate
  have htaxis (n : Nat) : (y.settleAt slotLate).axis n = v.axis n :=
    State.axis_congr ((by simp : (y.settleAt slotLate).axes = y.axes).trans hcompared.axes) n
  have htflag {ev : Event} (hev : ev ≠ .diverge) : (y.settleAt slotLate).flag ev = (u.flag ev
      || (decide (ev = .saturate) && r.saturates) || (decide (ev = .clamp) && changed)) := by
    rw [State.flag_congr (s := y) (by rw [hport]), hcompared.flag ev hev,
      show v.flag ev = _ from State.flag_handedBack haxis hlt o ev, hbounds]
    rfl
  have htpass : (y.settleAt slotLate).pass = y.pass := State.settleAt_pass _ _
  have htakes : v.takesComparisons = true ↔ u.pass.state = .running ∧ (u.mode = some .replay ∨ u.mode = some .witness) := by
    rw [State.takesComparisons_iff, hstate, State.mode, hcontext]
    rfl
  have hwitness : v.witness = u.witness := by simp [v, State.handedBack]
  have htwitness : (y.settleAt slotLate).witness = y.witness := State.settleAt_witness _ _
  refine ⟨y.settleAt slotLate, hrow, ?_, ?_, ⟨r.slotRecords, ?_, fun hfour => ⟨?_, fun k sl hk =>
    InterpRequest.slotRecords_getElem? hfour hk⟩⟩, ?_, ?_, ?_, fun hidle => ?_, fun hactive => ?_, ?_,
    fun n hn => (htaxis n).trans (hother hn), ?_, ?_, fun e hcompare ho hrunning hmode hwlt => ?_, fun hnone => ?_, ?_, ?_, ?_⟩
  · rw [show (y.settleAt slotLate).interpolator = y.interpolator by simp, hcompared.interpolator]
    simp [v, State.handedBack, State.finishInterpolation_interpolator]
  · rw [show (y.settleAt slotLate).writeInProcessing = y.writeInProcessing by simp, hcompared.writeInProcessing]
    simp [v, State.handedBack]
  · rw [show (y.settleAt slotLate).interpolator = y.interpolator by simp, hcompared.interpolator]
    simp [v, State.handedBack, State.finishInterpolation_interpolator, InterpRequest.evalRecord]
  · rw [InterpRequest.slotRecords, List.length_zipWith, InterpRequest.used, List.length_map, List.length_range, hfour,
      Nat.min_self]
  · rw [htaxis, hself]
    have hprevious : previous = (u.axis w.axis).previousResult := by rw [haxis]
    rw [hprevious]
    rfl
  · rw [htflag (by decide)]
    simp
  · rw [htflag (by decide)]
    simp
  · rw [htpass, hcompared.summary, hpass, if_pos hidle]
  · rw [htpass, hcompared.summary, hpass, if_neg hactive]
    rfl
  · rw [hphase]
    rfl
  · rw [show (y.settleAt slotLate).timebase = y.timebase by simp, hcompared.timebase]
    simp [v, State.handedBack]
  · rw [htpass, hcompared.passState, hstate]
  · have hdifference : w.difference o = some (w.value - e) := by
      unfold WriteInProcessing.difference
      rw [if_pos hcompare]
      obtain h | h := ho <;> rw [h]
    have htaken := hcompared.taken _ hdifference (htakes.mpr ⟨hrunning, hmode⟩)
    obtain ⟨htake, hrest⟩ := State.witnessAxis_onWitnessAxis (s := v)
      (fun x => x.take (v.axis w.axis).entry.processing.tol (w.value - e)) (by rw [hwitness]; exact hwlt)
    have hkept (n : Nat) : (y.settleAt slotLate).witnessAxis n = _ :=
      State.witnessAxis_congr (congrArg Witness.axes (htwitness.trans htaken)) n
    have hbefore (n : Nat) : v.witnessAxis n = u.witnessAxis n :=
      State.witnessAxis_congr (congrArg Witness.axes hwitness) n
    refine ⟨(hkept _).trans (htake.trans ?_), fun n hn => (hkept n).trans ((hrest n hn).trans (hbefore n))⟩
    rw [hbefore, hself]
    rfl
  · rw [htwitness, hcompared.dropped, hwitness]
    obtain hcompare | ho | hstate' | hmode := hnone
    · exact .inl (by simp [WriteInProcessing.difference, hcompare])
    · exact .inl (by simp [WriteInProcessing.difference, ho])
    · exact .inr (Bool.eq_false_of_not_eq_true fun h => hstate' (htakes.mp h).1)
    · exact .inr (Bool.eq_false_of_not_eq_true fun h => (htakes.mp h).2.elim hmode.1 hmode.2)
  · rw [htpass, hcompared.context, hcontext]
  · rw [show (y.settleAt slotLate).recording.queue = y.recording.queue by simp, hcompared.recording]
    simp [v, State.handedBack]
  · rw [show (y.settleAt slotLate).lineQueue.lines = y.lineQueue.lines by simp, hcompared.lineQueue]
    simp [v, State.handedBack]

end Sys2Proof.Machine
end

section
/-! Proofs about the take engine's transactions: what it writes and reads (R40, R92, R101, R201), and the completion of a
record write (R36, R38, R68, R92, R94). -/

namespace Sys2Proof.Machine

/-! ## The tag word (R201) -/

/-- A flag at bit i of a word. -/
theorem flagBit_getLsbD (b : Bool) (i j : Nat) (hi : i < 32) :
    (if b then BitVec.twoPow 32 i else 0 : Word).getLsbD j = (b && decide (i = j)) := by
  cases b <;> simp [BitVec.getLsbD_twoPow, hi]

theorem LineFlags.tagBits_eq (f : LineFlags) : f.tagBits =
    (if f.unset then BitVec.twoPow 32 24 else 0) ||| (if f.clamped then BitVec.twoPow 32 25 else 0) |||
    (if f.saturated then BitVec.twoPow 32 26 else 0) ||| (if f.coincident then BitVec.twoPow 32 27 else 0) := rfl

theorem LineFlags.tagBits_getLsbD (f : LineFlags) (j : Nat) : f.tagBits.getLsbD j =
    if j = 24 then f.unset else if j = 25 then f.clamped else if j = 26 then f.saturated
    else if j = 27 then f.coincident else false := by
  rw [f.tagBits_eq]
  simp only [BitVec.getLsbD_or, flagBit_getLsbD _ _ _ (show 24 < 32 by decide),
    flagBit_getLsbD _ _ _ (show 25 < 32 by decide), flagBit_getLsbD _ _ _ (show 26 < 32 by decide),
    flagBit_getLsbD _ _ _ (show 27 < 32 by decide)]
  by_cases h24 : j = 24
  · simp [h24]
  · by_cases h25 : j = 25
    · simp [h25]
    · by_cases h26 : j = 26
      · simp [h26]
      · by_cases h27 : j = 27
        · simp [h27]
        · simp [h24, h25, h26, h27, Ne.symm h24, Ne.symm h25, Ne.symm h26, Ne.symm h27]

/-- INDEX, TAKE and FLAGS in their bits. -/
theorem tagWord_getLsbD (index take : Nat) (f : LineFlags) {j : Nat} (hj : j < 32) : (tagWord index take f).getLsbD j =
    if j < 16 then index.testBit j else if j < 22 then take.testBit (j - 16)
    else if j = 24 then f.unset else if j = 25 then f.clamped
    else if j = 26 then f.saturated else if j = 27 then f.coincident else false := by
  have hfields : index % 65536 + take % 64 * 65536 = 2 ^ 16 * (take % 2 ^ 6) + index % 2 ^ 16 := by
    norm_num
    omega
  have hnumber : (BitVec.ofNat 32 (index % 65536 + take % 64 * 65536)).getLsbD j =
      if j < 16 then index.testBit j else if j < 22 then take.testBit (j - 16) else false := by
    rw [BitVec.getLsbD_ofNat, hfields, Nat.testBit_two_pow_mul_add _ (Nat.mod_lt _ (by norm_num)), Nat.testBit_mod_two_pow,
      Nat.testBit_mod_two_pow]
    by_cases h16 : j < 16
    · simp [h16, hj]
    · by_cases h22 : j < 22
      · simp [h16, h22, hj, show j - 16 < 6 by omega]
      · simp [h16, h22, show ¬ j - 16 < 6 by omega]
  rw [tagWord, BitVec.getLsbD_or, hnumber, f.tagBits_getLsbD j]
  by_cases h16 : j < 16
  · simp [h16, show j ≠ 24 by omega, show j ≠ 25 by omega, show j ≠ 26 by omega, show j ≠ 27 by omega]
  · by_cases h22 : j < 22
    · simp [h16, h22, show j ≠ 24 by omega, show j ≠ 25 by omega, show j ≠ 26 by omega, show j ≠ 27 by omega]
    · simp [h16, h22]

/-! ## The requests (R40, R92, R101) -/

section
variable {s : State} (hreset : s.resetControl.inForce = false)
include hreset

theorem State.takeRequest_of_writer {c : PassContext} {line : RecordLine} {rest : List RecordLine} {w : WriterPosition}
    (hw : s.recording.writer = some w) (hidle : w.inFlight = false) (hc : s.pass.context = some c)
    (hqueue : s.recording.queue = line :: rest) : s.takeRequest = some ⟨.recordWrite,
      c.base.getD 0 + (line.index * (1 + trackCount c.tracks) + w.word) * 4, true, 0xF,
      if w.word = 0 then tagWord line.index c.take line.flags else sampleWord (line.samples.getD (w.word - 1) 0),
      false, false⟩ := by
  simp [State.takeRequest, hreset, hw, hidle, State.writerWord, hc, hqueue]

theorem State.takeRequest_of_fetch (hw : s.recording.writer = none) {g : Geometry} {a : Assembly}
    (hg : s.lineQueue.geometry = some g) (ha : s.lineQueue.assembly = some a) (hidle : a.inFlight = false) :
    s.takeRequest = some ⟨.fetchRead, g.wordAddress a.index a.words.length, false, 0xF, 0, false, false⟩ := by
  simp [State.takeRequest, hreset, hw, hg, ha, hidle]

theorem State.takeRequest_of_verify (hw : s.recording.writer = none)
    (hnone : s.lineQueue.geometry = none ∨ s.lineQueue.assembly = none) {t i : Nat} {e : TakeEntry}
    (ht : s.directory.verifyOrder.head? = some t) (hi : s.directory.verifyCursor = some i) (he : s.entry t = some e)
    (hidle : ∀ d, s.memory.downstream = some d → d.owner = .verifyRead → d.discard = true) :
    s.takeRequest = some ⟨.verifyRead, e.base + i * lineBytes (trackCount e.tracks), false, 0xF, 0, false, false⟩ := by
  have hflight : s.verifyInFlight = false := by
    unfold State.verifyInFlight
    cases hd : s.memory.downstream with
    | none => rfl
    | some d =>
      by_cases howner : d.owner = .verifyRead
      · simp [hidle d hd howner]
      · simp [howner]
  have hqueue : s.takeRequest = if s.verifyInFlight then none else (s.entry t).map fun e =>
      ⟨.verifyRead, e.base + i * lineBytes (trackCount e.tracks), false, 0xF, 0, false, false⟩ := by
    unfold State.takeRequest
    rw [if_neg (by simp [hreset]), hw]
    obtain h | h := hnone
    · simp only [h, ht, hi]
    · cases hg : s.lineQueue.geometry <;> simp only [h, ht, hi]
  rw [hqueue, hflight, he]
  rfl

end

/-! ## The completion of a record write (R36, R38, R92, R94) -/

/-- The oldest line has been written: it leaves the queue and counts for its take. -/
def State.lineWritten (s : State) (c : PassContext) : State :=
  ({ s with
    memory := { s.memory with downstream := none }
    recording := { s.recording with
      queue := s.recording.queue.tail, writer := writerFor s.recording.queue.tail } } : State).onEntry c.take
    fun e => { e with written := e.written + 1 }

/-- A sample has been written: the writer goes on to the next word of its line. -/
def State.sampleWritten (s : State) (c : PassContext) (w : WriterPosition) : State := { s with
  memory := { s.memory with downstream := none }
  recording := { s.recording with writer := some ⟨nextWriterWord (trackCount c.tracks) w.word, false⟩ } }

section
variable {s : State} {d : DownstreamTxn} (howner : d.owner = .recordWrite) (hdiscard : d.discard = false)
  {c : PassContext} (hc : s.pass.context = some c) {w : WriterPosition} (hw : s.recording.writer = some w)
  (data : Word) (late : Bool)
include howner hdiscard hc hw

theorem State.completeDownstream_sample (hword : w.word ≠ 0) :
    s.completeDownstream d data late = s.sampleWritten c w := by
  simp only [State.completeDownstream, hdiscard, howner, State.recordWriteComplete, hc, hw]
  exact if_neg hword

theorem State.completeDownstream_tag (hword : w.word = 0) :
    s.completeDownstream d data late = (s.lineWritten c).drainReport late := by
  simp only [State.completeDownstream, hdiscard, howner, State.recordWriteComplete, hc, hw]
  exact if_pos hword

end

/-- The slot's decision starts at most the writer's word. -/
theorem State.startTake_writer (s : State) (r : DownstreamTxn) :
    (s.startTake r).recording.writer.map (·.word) = s.recording.writer.map (·.word) := by
  unfold State.startTake
  dsimp only
  split
  · simp [Function.comp_def]
  · rfl
  · rfl

theorem State.arbitrate_writer (s : State) :
    s.arbitrate.recording.writer.map (·.word) = s.recording.writer.map (·.word) := by
  have htake (u : State) (r : DownstreamTxn) : (u.grantTake r).recording.writer.map (·.word) =
      u.recording.writer.map (·.word) := State.startTake_writer _ r
  have hpass (t : UpstreamTxn) : ((s.setUrgentRun 0).grantPassThrough t).recording = s.recording := by simp
  unfold State.arbitrate
  split
  · rfl
  · split
    · rfl
    · exact htake s _
    · rw [hpass]
    · split
      · exact htake s _
      · dsimp only
        split
        · rw [hpass]
        · rw [htake, hpass]

theorem State.settleAt_writer (s : State) (late : Bool) :
    (s.settleAt late).recording.writer.map (·.word) = s.recording.writer.map (·.word) := by
  have hfetch : s.startFetch.recording = s.recording := by simp
  have hsettle : s.settle.recording.writer.map (·.word) = s.recording.writer.map (·.word) := by
    unfold State.settle
    split
    · exact s.arbitrate_writer
    · rw [State.arbitrate_writer, hfetch]
  unfold State.settleAt
  split
  · exact congrArg (fun x : Recording => x.writer.map (·.word)) hfetch
  · exact hsettle

theorem writerFor_word (queue : List RecordLine) :
    (writerFor queue).map (·.word) = if queue = [] then none else some 1 := by
  cases queue <;> rfl

/-- The end of a recording changes no entry but its take's. -/
theorem State.entry_drainCheck_ne {s : State} {c : PassContext} (hc : s.pass.context = some c) {n : Nat} (hn : n ≠ c.take) :
    s.drainCheck.entry n = s.entry n := by
  unfold State.drainCheck
  split
  · have hset (u : State) : (u.setPass .complete).entry n = u.entry n := State.entry_congr (by simp) n
    rw [hset]
    simp only [State.finishRecording, hc]
    split
    · rfl
    · split
      · exact s.entry_setEntry_ne c.take n _ hn
      · rfl
  · rfl

/-- What the end of the row waits for: nothing, or the decision of the free slot. -/
theorem State.settleAt_waits {s : State} (hfree : s.memory.downstream = none) (late : Bool) : (s.settleAt late).due =
    s.due ++ if late = true ∧ s.resetControl.inForce = false then [.slot] else [] := by
  by_cases hlate : late = true ∧ s.resetControl.inForce = false
  · obtain ⟨rfl, hreset⟩ := hlate
    rw [if_pos ⟨rfl, hreset⟩]
    exact (State.settleAt_true_spec hreset hfree).2.1
  · have hnow : s.settleAt late = s.settle := by
      cases late with
      | false => exact s.settleAt_false
      | true =>
        exact s.settleAt_of_busy true (.inl (Bool.eq_true_of_not_eq_false fun hreset => hlate ⟨rfl, hreset⟩))
    rw [hnow, if_neg hlate, List.append_nil]
    simp

/-- What a record write leaves of the state at the end of its row. -/
structure State.RecordWritten (u y : State) (c : PassContext) : Prop where
  downstream : y.memory.downstream = none
  reset : y.resetControl = u.resetControl
  other : ∀ n, n ≠ c.take → y.entry n = u.entry n
  axes : y.axes = u.axes
  timebase : y.timebase = u.timebase
  witness : y.witness = u.witness

theorem State.sampleWritten_recordWritten (u : State) (c : PassContext) (w : WriterPosition) :
    u.RecordWritten (u.sampleWritten c w) c :=
  ⟨rfl, rfl, fun _ _ => rfl, rfl, rfl, rfl⟩

theorem State.lineWritten_drainReport (u : State) {c : PassContext} (hc : u.pass.context = some c) (late : Bool) :
    u.RecordWritten ((u.lineWritten c).drainReport late) c := by
  have hline (n : Nat) (hn : n ≠ c.take) : (u.lineWritten c).entry n = u.entry n := State.entry_onEntry_ne _ _ _ _ hn
  have hcontext : (u.lineWritten c).pass.context = some c := hc
  refine ⟨by simp [State.lineWritten], by simp [State.lineWritten], fun n hn => ?_, by simp [State.lineWritten],
    by simp [State.lineWritten], by simp [State.lineWritten]⟩
  unfold State.drainReport
  split
  · split
    · exact hline n hn
    · exact hline n hn
  · exact (State.entry_drainCheck_ne hcontext hn).trans (hline n hn)

/-- Settles O51. -/
theorem takeEngineTransactions : Obligations.TakeEngineTransactions := by
  constructor
  · intro s hreset
    refine ⟨fun c line rest w hw hidle hc hqueue => ⟨_, State.takeRequest_of_writer hreset hw hidle hc hqueue,
      fun k hk => ?_, fun hzero j hj => ?_⟩, fun hw => ⟨fun g a hg ha hidle => State.takeRequest_of_fetch hreset hw hg ha hidle,
      fun t i e b g hnone ht hi he hkind hidle => ?_⟩⟩
    · rw [if_neg (by omega), hk]
      rfl
    · rw [if_pos hzero]
      exact tagWord_getLsbD _ _ _ hj
    · rw [State.takeRequest_of_verify hreset hw hnone ht hi he hidle, TakeEntry.base, hkind, lineBytes, Nat.mul_assoc]
  · intro s after data late slotLate d c w e u drained hd howner hdiscard hc hw he
    have hrow := exec_downstreamComplete_of_downstream s ⟨after, late, slotLate⟩ data (d := d) hd
    let y : State := u.completeDownstream d data late
    let t : State := y.settleAt slotLate
    have hsample (hword : w.word ≠ 0) : y = u.sampleWritten c w :=
      State.completeDownstream_sample howner hdiscard hc hw data late hword
    have htag (hword : w.word = 0) : y = (u.lineWritten c).drainReport late :=
      State.completeDownstream_tag howner hdiscard hc hw data late hword
    have hkept : u.RecordWritten y c := by
      by_cases hword : w.word = 0
      · rw [htag hword]
        exact u.lineWritten_drainReport hc late
      · rw [hsample hword]
        exact u.sampleWritten_recordWritten c w
    have hline : (u.lineWritten c).entry c.take = some { e with written := e.written + 1 } :=
      State.entry_onEntry_self _ _ _ _ he
    have hquiet (h : ¬ drained) (hword : w.word = 0) : y = u.lineWritten c := by
      have hnot : ¬ (u.pass.state = .ending ∧ u.recording.queue.tail = []) := fun hboth => h ⟨hword, hboth.2, hboth.1⟩
      rw [htag hword]
      cases late <;> exact if_neg hnot
    have hlater (h : drained) (hlate : late = true) : y = (u.lineWritten c).deliverLater .drain := by
      obtain ⟨hword, hempty, hstate⟩ := h
      rw [htag hword, hlate]
      have hboth : (u.lineWritten c).pass.state = .ending ∧ (u.lineWritten c).recording.queue = [] := ⟨hstate, hempty⟩
      exact if_pos hboth
    have hnow (h : drained) (hlate : late = false) : y = (u.lineWritten c).drainCheck := by
      rw [htag h.1, hlate]
      rfl
    have hflag {ev : Event} (h1 : ev ≠ .protect) (h2 : ev ≠ .partialWrite) : t.flag ev = y.flag ev :=
      State.flag_settleAt _ h1 h2 _
    have hentry (n : Nat) : t.entry n = y.entry n := y.entry_settleAt slotLate n
    have hpass : t.pass = y.pass := State.settleAt_pass _ _
    have hqueue : t.recording.queue = y.recording.queue := by simp [t]
    have hdirectory : t.directory = y.directory := State.settleAt_directory _ _
    have hdue : t.due = y.due ++ if slotLate = true ∧ u.resetControl.inForce = false then [.slot] else [] := by
      rw [← hkept.reset]
      exact State.settleAt_waits hkept.downstream slotLate
    refine ⟨t, hrow, ?_, ?_, ?_, ?_, ?_, ?_, fun n hn => (hentry n).trans (hkept.other n hn),
      (by simp [t] : t.axes = y.axes).trans hkept.axes, (by simp [t] : t.timebase = y.timebase).trans hkept.timebase,
      (State.settleAt_witness _ _).trans hkept.witness⟩
    · intro hword
      rw [hqueue, hdirectory, State.settleAt_writer, hsample hword]
      refine ⟨rfl, rfl, ?_⟩
      simp [State.sampleWritten, nextWriterWord]
    · intro hword
      have hrecording : y.recording = (u.lineWritten c).recording := by
        rw [htag hword]
        simp
      rw [hqueue, State.settleAt_writer, hrecording]
      exact ⟨rfl, writerFor_word _⟩
    · intro hword h
      rw [hentry]
      by_cases hdrained : drained
      · rw [hlater hdrained (h.resolve_left fun hnot => hnot hdrained)]
        exact hline
      · rw [hquiet hdrained hword]
        exact hline
    · intro h
      have hsame : y.pass = u.pass ∧ y.port = u.port := by
        by_cases hdrained : drained
        · rw [hlater hdrained (h.resolve_left fun hnot => hnot hdrained)]
          exact ⟨rfl, rfl⟩
        · by_cases hword : w.word = 0
          · rw [hquiet hdrained hword]
            exact ⟨rfl, rfl⟩
          · rw [hsample hword]
            exact ⟨rfl, rfl⟩
      exact ⟨hpass.trans hsame.1, fun ev h1 h2 => (hflag h1 h2).trans (State.flag_congr (by rw [hsame.2]) ev)⟩
    · intro hdrained hlate
      rw [hdue, hlater hdrained hlate]
      rfl
    · intro hdrained hlate
      obtain ⟨hcomplete, hraised, htake⟩ := State.drainCheck_completes (s := u.lineWritten c) hc hline hdrained.2.2
        hdrained.2.1
      have hy := hnow hdrained hlate
      refine ⟨by rw [hpass, hy, hcomplete]; rfl, by rw [hflag (by decide) (by decide), hy, hraised],
        fun b g hrecording hkind => ?_⟩
      rw [hentry, hy, htake, if_pos hrecording,
        TakeEntry.leaveRecording_eq (e := { e with written := e.written + 1 }) hkind]
      rfl

end Sys2Proof.Machine
end
